-- ==== Sys2Proof/Word.lean ====
section
/-! DEFINITION. The word types of the CN8160 and the shape of every sparse table of the state. -/

namespace Sys2Proof

/-- A byte of memory. -/
abbrev Byte := BitVec 8

/-- A register of BAR0 (00 Registers: 32 bits wide). -/
abbrev Word := BitVec 32

/-- A 64-bit field: an address, a mark, a counter. -/
abbrev U64 := BitVec 64

/-- A sparse table: keys strictly rising, no entry equal to what an unlisted key reads as. -/
abbrev Tab (α : Type) := List (Nat × α)

/-- Byte memory, keyed by address. -/
abbrev Mem := List Host.Cell

end Sys2Proof
end

