-- ==== Sys2Proof/Types.lean ====
section
/-! DEFINITION. The operands of the commands that are more than a number: the Salhan packet header
(R276), the content of a job image (R28), pictures, stamps, sensor outcomes. The spec gives no byte
layout for Osiolu job and model images, so their content is an operand (DESIGN CHOICE, entry 9). -/

namespace Sys2Proof

/-- The header of a Salhan command packet (R276). `rsv` is the offset of the first byte that is not
zero among the packet's reserved bytes, if there is one; `hostErr` says that a host-memory access of
the command ends with an unsuccessful PCI Express completion (R272, entry 9). `dev` marks a context
command that the inspection service, adaptation or job loading gives and not a ring (R252), with the
lane mask of the context it opens, the inputs (lane, object, field; none is the comparison) that the
context owes (R332), and the adaptation a training context belongs to with the sample it works on
(R246, R247). `op` is the OPCODE of a packet whose opcode is not this command's own, and `fenced` lists
the rings whose oldest packet carries FENCE, as the command processor sees them (R276 to R278). -/
structure Cmd where
  sq : Nat := 0
  fence : Bool := false
  irq : Bool := false
  quiet : Bool := false
  tag : Word := 0
  doneMark : Nat := 0
  doneAdd : Nat := 0
  rsv : Option Nat := none
  hostErr : Bool := false
  dev : Bool := false
  lanes : Nat := 0
  owes : List (Nat × Nat × Option Nat) := []
  ad : Option Nat := none
  sample : Option Nat := none
  op : Option Nat := none
  fenced : List Nat := []
  deriving DecidableEq, Repr, Inhabited

/-- A rectangle in artwork units of 1/1,200 inch, upper bounds exclusive (R28). -/
structure Rect where
  x0 : Nat
  y0 : Nat
  x1 : Nat
  y1 : Nat
  deriving DecidableEq, Repr, Inhabited

/-- An action of a field, code, patch or defect class (R28, R40, R47). -/
inductive Action where
  | none | warn | mark | reject
  deriving DecidableEq, Repr, Inhabited

inductive FieldKind where
  | text | code | patch
  deriving DecidableEq, Repr, Inhabited

/-- The caption block of R210: of a job image's recogniser, or read from a context descriptor. -/
structure Caption where
  vslot : Nat := 0
  split : Nat := 0
  nstop : Nat := 0
  stops : List (List Byte) := []
  text : Nat := 0
  textMax : Nat := 1024
  deriving DecidableEq, Repr, Inhabited

/-- A field of a job image (R28). `confMin` and the caption serve TEXT, `excl` serves PATCH (R92). `exclude` is the flag as the image
gives it: whoever builds the image sets the default of R40 for a TEXT field that compares with a lane variable (DESIGN CHOICE,
notes/assumptions/77.md). -/
structure FieldDef where
  kind : FieldKind
  rect : Rect
  index : Nat := 0
  action : Action := .none
  exclude : Bool := false
  detail : Bool := false
  confMin : Nat := 0
  caption : Caption := {}
  excl : Nat := 0
  deriving DecidableEq, Repr, Inhabited

/-- What a match rule compares with: a literal of at most 512 bytes or a lane variable (R28). -/
inductive Expect where
  | lit (t : List Byte)
  | var (n : Nat)
  deriving DecidableEq, Repr, Inhabited

/-- The match rules of R45 with their parameters. -/
inductive Rule where
  | exact
  | norm (foldCase foldWs : Bool)
  | date (fmt : List Byte) (lo hi : Nat)
  | numRange (min max : List Byte) (comma : Bool)
  | gs1 (len : Nat) (equal : Bool)
  | editK (k : Nat)
  deriving DecidableEq, Repr, Inhabited

structure MatchRule where
  rule : Rule
  expected : Expect
  deriving DecidableEq, Repr, Inhabited

/-- One check of a code specification (R222): the whole text (none) or the value of one AI. -/
structure CodeCheck where
  sel : Option (List Byte)
  rule : Rule
  expected : Expect
  deriving DecidableEq, Repr, Inhabited

/-- A code specification (R216, R222). `check` is 0 ignore, 1 verify, 2 verify and strip. -/
structure CodeSpec where
  sym : Nat
  check : Nat := 0
  fullAscii : Bool := false
  fixedLen : Nat := 0
  checks : List CodeCheck := []
  minGrade : Nat := 0
  aperture : Nat := 3
  action : Action := .reject
  deriving DecidableEq, Repr, Inhabited

/-- A colour target (R227): L*, a*, b* in 8.8 codes; formula 0 is dE*ab, 1 is CIEDE2000. -/
structure ColourTarget where
  l : Int
  a : Int
  b : Int
  formula : Nat := 0
  kl : Nat := 10
  kc : Nat := 10
  kh : Nat := 10
  limit : Nat := 100
  sdMax : Nat := 0
  action : Action := .warn
  deriving DecidableEq, Repr, Inhabited

/-- A defect class (R28, R40). A threshold of 0 disables its test. -/
structure DefectClass where
  cls : Nat
  name : List Byte := []
  minPixels : Nat := 0
  minCell : Nat := 0
  action : Action := .warn
  deriving DecidableEq, Repr, Inhabited

/-- What the headers of a picture say of the features of R96. HEVC: profile 0 Main, 1 Main 10, 2 Main Still Picture, 3 any other;
level in tenths; chroma 1 is 4:2:0. JPEG: process 0 is baseline sequential Huffman coding, any other value another process; one
chroma sample spans hs x vs luma samples. -/
structure PicHdr where
  profile : Nat := 0
  high : Bool := false
  level : Nat := 61
  chroma : Nat := 1
  fields : Bool := false
  process : Nat := 0
  bits : Nat := 8
  comps : Nat := 3
  hs : Nat := 2
  vs : Nat := 2
  w : Nat := 1
  h : Nat := 1
  deriving DecidableEq, Repr, Inhabited

/-- A reference still (R96, R100): role 4 is LAB, 0 to 3 is PLANE(c). -/
structure Still where
  role : Nat := 4
  jpeg : Bool := false
  hdr : PicHdr := {}
  artX : Nat := 0
  artY : Nat := 0
  deriving DecidableEq, Repr, Inhabited

/-- What the device needs to know of one model image of a job (R28, R232). `sites` are the adaptable
sites present with CB4 or CB8 base weights; `dims` are (K, N) of Q, K, V, O and the detector head; `endTok` ends a
text of the recogniser, `split` the piece rules of its labels; a detector head has one output cell for `cell` x `cell` pixels. -/
structure ModelImg where
  detector : Bool := false
  layers : Nat := 1
  sites : Nat := 0
  longSeq : Bool := false
  dims : List (Nat × Nat) := []
  vslot : Nat := 0
  endTok : Nat := 0
  split : Nat := 0
  cell : Nat := 1
  deriving DecidableEq, Repr, Inhabited

/-- The design section (R28, R29). Pitches P_L, P_X are unsigned 8.16; the repeat pitch is in units of
1/65,536 line. -/
structure Design where
  w : Nat := 1
  h : Nat := 1
  pL : Nat := 131072
  pX : Nat := 131072
  pitch : Nat := 65536
  markMode : Bool := true
  template : List Byte := []
  search : Nat := 8
  missLimit : Nat := 8
  background : List Nat := [0, 0, 0, 0]
  deriving DecidableEq, Repr, Inhabited

/-- What copy B of the verdict logic formed for a posting, where it is not what copy A formed (R73). -/
structure CopyB where
  code : Nat := 0
  action : Action := .none
  degraded : Bool := false
  deriving DecidableEq, Repr, Inhabited

/-- A job image (R28), as its sections. `offending` is the offset within the image of its first byte that a check finds
wrong (R30), for an image that has one: the layout of the bytes is Osiolu's (entry 9). -/
structure JobImage where
  design : Design := {}
  stills : List Still := []
  fields : List FieldDef := []
  models : List ModelImg := []
  vslots : List Nat := []
  rules : List MatchRule := []
  codes : List CodeSpec := []
  colours : List ColourTarget := []
  classes : List DefectClass := []
  failMark : Bool := false
  pulse : Nat := 0
  deadlineOfs : Nat := 0
  gateOfs : Nat := 0
  staleLines : Nat := 0
  acceptFlagged : Bool := false
  offending : Nat := 0
  deriving DecidableEq, Repr, Inhabited

/-- A decoded picture (R96, R97, R100): planes Y, Cb, Cr as rows of samples after the conformance window, how many
luma samples one chroma sample spans, whether samples have 10 bits, and the luma samples the pipe decoded. -/
structure Picture where
  y : List (List Nat) := []
  cb : List (List Nat) := []
  cr : List (List Nat) := []
  hs : Nat := 2
  vs : Nat := 2
  ten : Bool := false
  luma : Nat := 0
  deriving DecidableEq, Repr, Inhabited

/-- What the headers of an access unit say (R96, R109): IRAP, CRA and RASL pictures of HEVC, and the features of its picture
(notes/assumptions/9.md). -/
structure Au where
  irap : Bool := false
  cra : Bool := false
  rasl : Bool := false
  hdr : PicHdr := {}
  deriving DecidableEq, Repr, Inhabited

/-- A read of tile `tile` of a job's reference cache; `bad` says that a read of its bytes in DRAM returns poisoned data (R102, R103). -/
structure TileRead where
  job : Nat := 0
  tile : Nat := 0
  bad : Bool := false
  deriving DecidableEq, Repr, Inhabited

/-- One scan line of a linear symbol (R225): reflectances in 1/65,535, decodability in 1/10,000. -/
structure Scan where
  decodes : Bool := true
  rmin : Nat := 0
  rmax : Nat := 0
  sc : Nat := 0
  ecmin : Nat := 0
  ern : Nat := 0
  decodability : Nat := 0
  deriving DecidableEq, Repr, Inhabited

/-- One codeword of an error-correction block as it was sampled (R220): its value is not the one the symbol was printed with, and the
distance of each of its modules' reflectance from the global threshold. -/
structure Codeword where
  wrong : Bool := false
  margins : List Nat := []
  deriving DecidableEq, Repr, Inhabited

/-- An error-correction block (R220): its codewords, its check codewords d and the misdecode reserve p of its version and level. -/
structure RsBlock where
  words : List Codeword := []
  d : Nat := 0
  p : Nat := 0
  deriving DecidableEq, Repr, Inhabited

/-- A stretch of a symbol's data (R216): characters, FNC1, JIS X 0208 codes of Kanji mode, a change of ECI. -/
inductive SymSeg
  | chars (l : List Byte)
  | fnc1
  | kanji (l : List Nat)
  | eci (n : Nat)
  deriving DecidableEq, Repr, Inhabited

/-- A symbol the code unit finds in a crop (R217 to R226, notes/assumptions/9.md). In hundredths of a raster pixel: the corners of the
symbol with half its quiet zone and its centre, from the crop's first pixel, its element or module size and its bar height. Its
data as coded; whether the check characters that are no part of that data verify; rows and columns of modules; Structured Append;
its error-correction blocks. Reflectances, those of `scans` too, are in 1/65,535; decodability and the nonuniformities in
1/10,000; `others` is the least of the grades that follow the standard's procedures and `growth` the print growth along each
axis. -/
structure Sym where
  corners : List (Int × Int) := []
  centre : Int × Int := (0, 0)
  size : Nat := 0
  barHeight : Nat := 0
  data : List SymSeg := []
  checkOk : Bool := true
  rows : Nat := 0
  cols : Nat := 0
  append : Bool := false
  blocks : List RsBlock := []
  scans : List Scan := []
  sc : Nat := 0
  axial : Nat := 0
  grid : Nat := 0
  others : Nat := 4
  growth : Int × Int := (0, 0)
  deriving DecidableEq, Repr, Inhabited

/-- What a code request finds in its crop: the symbols of the specified symbology. -/
structure CodeRead where
  symbols : List Sym := []
  deriving DecidableEq, Repr, Inhabited

/-- The registration transform of an object (R36 context): cross-web offset in pixels, rotation in
0.0001 degree, along-web scale - 1 in ppm. -/
structure Transform where
  xofs : Int := 0
  rot : Int := 0
  scale : Int := 0
  deriving DecidableEq, Repr, Inhabited

/-- The board configuration of the flash (R77, R299, R304). -/
structure Board where
  chanGib : Nat := 8
  dens16 : Bool := false
  x4 : Bool := false
  ranks : Nat := 1
  laneMbps : Nat := 16500
  bxor : List Nat := [0, 0, 0, 0, 0]
  ports : Nat := 255
  pmbus : Bool := true
  crcOk : Bool := true
  deriving DecidableEq, Repr, Inhabited

/-- What the start-up stages find (R301, R349, R365): banks found valid, the header of the loaded image where FW_STAGE has
not written it, channels that fail, ports that do not lock, ring links that fail, whether the PMBus regulator answers and
the rail it reads, and the MCn_EYEk words by channel x 18 + k (notes/assumptions/9.md). -/
structure BootReport where
  bank0 : Bool := true
  bank1 : Bool := false
  dramFail : Nat := 0
  stripFail : Nat := 0
  ringFail : Nat := 0
  pmbus : Bool := true
  vcoreMv : Nat := 750
  svn : Nat := 0
  fwVer : Nat := 0
  handover : Nat := 0
  eyes : List Nat := []
  deriving DecidableEq, Repr, Inhabited

/-- A patch of a calibration chart (R230): its rectangle in artwork units from the span's first pixel and from ORIGIN, and its
reference in 8.8 codes. -/
structure ChartPatch where
  rect : Rect
  l : Int := 0
  a : Int := 0
  b : Int := 0
  deriving DecidableEq, Repr, Inhabited

/-- The content of a chart description (notes/assumptions/9.md): the pitches of R29 by which its artwork units map to the web, and
its patches. -/
structure Chart where
  pL : Nat := 131072
  pX : Nat := 131072
  patches : List ChartPatch := []
  deriving DecidableEq, Repr, Inhabited

/-- How a training sample resolves (R244, R246): corrupt with a cause, or lp of each of its targets and its gradient, as
FP32 codes; the pixels of a decoded JPEG sample and the time its decoding took. The passes are Osiolu programs outside the spec
(notes/assumptions/9.md). -/
structure SampleRes where
  corrupt : Option Nat := none
  lps : List Nat := []
  grad : List Nat := []
  pixels : List Nat := []
  decodeNs : Nat := 0
  deriving DecidableEq, Repr, Inhabited

/-- What an evaluation finds for a held-out sample (R248), under the base and under the adapted recogniser: good, the
text of the greedy decode or, of a detector head's sample, the argmax of each output cell; lp of each target as FP32 codes. -/
structure EvalRes where
  good : Bool := true
  textB : List Byte := []
  textA : List Byte := []
  cellsB : List Nat := []
  cellsA : List Nat := []
  lpsB : List Nat := []
  lpsA : List Nat := []
  deriving DecidableEq, Repr, Inhabited

/-- Inputs of a context fault (R324, R330): the cause and what the record carries about it. -/
structure FaultInfo where
  cause : Nat
  descTag : Word := 0
  pc : Nat := 0
  addr : Nat := 0
  deriving DecidableEq, Repr, Inhabited

end Sys2Proof
end

