-- ==== Sys2Proof/Syntax.lean ====
section
/-! DEFINITION. The commands of the CN8160 block: one constructor for each row of spec/opcode_table.json,
with its operands. Salhan commands carry their packet header and the parameters of R286; events carry
the object they concern and what the spec defines outside the device (notes/assumptions/9.md). -/

namespace Sys2Proof

/-- The commands (95_what_each_step_holds): each is one indivisible step. -/
inductive Instr where
  /-- DEV_INFO (R286): Management command that returns the Salhan revision, the active image bank, the firmware version and MGT_ID. -/
  | devInfo (c : Cmd)
  /-- FW_STAGE (R350): Writes a firmware image into the inactive bank and verifies it, completing with BAD_IMAGE if the image is invalid. -/
  | fwStage (c : Cmd) (src len bank : Nat) (sigOk : Bool)
  /-- FW_ACTIVATE (R351): Verifies the named bank, quiesces, writes the handover state and swaps the running firmware to that bank. -/
  | fwActivate (c : Cmd) (bank : Nat)
  /-- FW_SWAP_TIMEOUT (R352): The new firmware has not advanced the heartbeat 160 ms after handover, so the previous bank is reloaded as a tier M and SWAP_FAIL is set. -/
  | fwSwapTimeout
  /-- BOOT_BANK (R350): Writes both boot selector copies to name a valid bank. -/
  | bootBank (c : Cmd) (bank : Nat)
  /-- BOARD_CFG (R77): Rewrites the board configuration in flash, to apply at the next tier C. -/
  | boardCfg (c : Cmd) (src len : Nat) (cfg : Board)
  /-- DEV_RECOVER (R341): Host request for a tier B of a core group or a tier C device recovery. -/
  | devRecover (c : Cmd) (tier cores : Nat)
  /-- TIER_B_COMPLETE (R339): Completion of the KZ-mode partition reset of a core group: Trays zeroed, state reset and device contexts relaunched. -/
  | tierBComplete
  /-- TIER_C_COMPLETE (R341): Completion of the tier C retraining and zeroing sequence; the device reports ready. -/
  | tierCComplete (r : BootReport)
  /-- LANE_RESTORE (R337): Returns an OUT_OF_SERVICE lane with no objects in flight to STOPPED and clears its window. -/
  | laneRestore (c : Cmd) (lane : Nat)
  /-- ESC_CFG (R334): Sets the lane and device escalation counts and windows. -/
  | escCfg (c : Cmd) (laneN laneS devN devS : Nat)
  /-- COLOUR_CAL (R230): Reserves accumulator windows for a chart over a pixel span at a web-time origin. -/
  | colourCal (c : Cmd) (origin chart out pixStart pixEnd : Nat) (content : Chart)
  /-- COLOUR_CAL_FIT (R231): Safelight completes the least-squares matrix fit of the chart and writes the result buffer, or completes with CAL_FAIL. -/
  | colourCalFit
  /-- JOB_LOAD (R30): Checks a job image into an empty slot and starts decoding its references and making its models and vocabularies resident. -/
  | jobLoad (c : Cmd) (src len slot : Nat) (img : JobImage)
  /-- JOB_LOAD_COMPLETE (R30): All reference stills are decoded into the tile cache and the job slot becomes READY, or the load fails and the slot stays empty. -/
  | jobLoadComplete (slot : Nat)
  /-- JOB_UNLOAD (R31): Empties an unreferenced job slot, or returns IN_USE. -/
  | jobUnload (c : Cmd) (slot : Nat)
  /-- LANE_START (R53): Checks the lane's pending copy and schedules its activation at a start line. -/
  | laneStart (c : Cmd) (start lane : Nat)
  /-- LANE_STOP (R52): Schedules a lane stop at a stop line and sets STOP_PEND. -/
  | laneStop (c : Cmd) (stop lane : Nat)
  /-- LANE_SET_VAR (R34): Copies a lane variable string into the lane's pending copy. -/
  | laneSetVar (c : Cmd) (src lane var len : Nat)
  /-- VOCAB_LOAD (R204): Copies a vocabulary image into the caption area, builds its pair index and checks it. -/
  | vocabLoad (c : Cmd) (src len vslot : Nat)
  /-- VOCAB_UNLOAD (R205): Frees an unreferenced vocabulary slot. -/
  | vocabUnload (c : Cmd) (vslot : Nat)
  /-- CAP_TOKENIZE (R209): Tokenises one buffer of a stream with repair, piece splitting and BPE merging. -/
  | capTokenize (c : Cmd) (src dst len cap stream tflags vslot split : Nat)
  /-- STREAM_OPEN (R98): Opens an auxiliary decode stream slot with its frame queue. -/
  | streamOpen (c : Cmd) (qaddr ageMax maxW maxH mark codec depth low cls : Nat)
  /-- STREAM_FEED (R104): Copies one access unit with its stamps into a stream's input. -/
  | streamFeed (c : Cmd) (src capDt wtDl len fid slot : Nat) (au : Au)
  /-- STREAM_CLOSE (R99): Stops a stream, abandons its picture and flushes its queue. -/
  | streamClose (c : Cmd) (slot : Nat)
  /-- STREAM_FLUSH_DONE (R99): A closing stream slot finishes flushing and becomes FREE. -/
  | streamFlushDone (slot bytes : Nat)
  /-- TRIG_ARM (R82): Arms a LINE_TRIG Shutter entry for a set of strip ports. -/
  | trigArm (c : Cmd) (start period ports : Nat)
  /-- TRIG_STOP (R286): Removes ports from the masks of their line-trigger entries, freeing an entry whose mask becomes empty. -/
  | trigStop (c : Cmd) (ports : Nat)
  /-- FE_REF_CAPTURE (R86): Averages lines into the shadow black or white shading reference. -/
  | feRefCapture (c : Cmd) (lines ports kind : Nat)
  /-- FE_REF_APPLY (R86): Copies the shadow shading reference into the active copy at a line boundary. -/
  | feRefApply (c : Cmd) (ports : Nat)
  /-- PB_START (R93): Starts a proof-bed scanning run. -/
  | pbStart (c : Cmd)
  /-- PB_PAUSE (R94): Decelerates the bed and stops it at a step-group boundary. -/
  | pbPause (c : Cmd)
  /-- PB_RESUME (R94): Resumes a paused bed from ramp entry 0. -/
  | pbResume (c : Cmd)
  /-- PB_LINE_STEP (R93): A step group and its settle time complete, so web time advances one line and the line trigger fires. -/
  | pbLineStep
  /-- PB_RUN_END (R95): After the last line of the run the trigger stops, web time runs out until no object is in flight, and the bed returns home. -/
  | pbRunEnd
  /-- CTX_OPEN (R254): Copies a context descriptor's control section into the Context store and opens the context. -/
  | ctxOpen (c : Cmd) (desc ctx : Nat)
  /-- CTX_LAUNCH (R256): Loads the counters, clears DEG, checks the caption block and makes the context READY at PROG. -/
  | ctxLaunch (c : Cmd) (cnt0 cnt1 cnt2 cnt3 ctx : Nat)
  /-- CTX_STOP (R255): Requests that a context stop issuing and become STOPPED once nothing is in flight. -/
  | ctxStop (c : Cmd) (ctx : Nat)
  /-- CTX_RESUME (R255): Returns a stopped context to the state it held before the stop. -/
  | ctxResume (c : Cmd) (ctx : Nat)
  /-- CTX_CLOSE (R255): Releases every open sequence of a context and frees it. -/
  | ctxClose (c : Cmd) (ctx : Nat)
  /-- CTX_ABORT (R286): Faults a host context with HOST_ABORT and resets it. -/
  | ctxAbort (c : Cmd) (ctx : Nat)
  /-- SEQ_OPEN (R166): Opens a KV sequence, or a set of beam sequences, with fixed properties. -/
  | seqOpen (c : Cmd) (param ctx seq : Nat)
  /-- SEQ_CLOSE (R181): Releases and closes a sequence, now or deferred to its step boundary. -/
  | seqClose (c : Cmd) (ctx seq : Nat)
  /-- PT_EDIT (R180): Applies SHARE, TRUNCATE or RELEASE to a sequence's page table, now or deferred. -/
  | ptEdit (c : Cmd) (n ctx seq srcCtx srcSeq op : Nat)
  /-- RING_GROUP_OPEN (R194): Forms a ring group of member contexts over consecutive cores. -/
  | ringGroupOpen (c : Cmd) (param : Nat)
  /-- RING_GROUP_CLOSE (R286): Dissolves a ring group once none of its ATTNs is in flight. -/
  | ringGroupClose (c : Cmd) (group : Nat)
  /-- MARK_SIGNAL (R258): Host command that adds an amount to a mark. -/
  | markSignal (c : Cmd) (add mark : Nat)
  /-- SQ_CREATE (R286): Creates a submission ring bound to a completion ring at a priority. -/
  | sqCreate (c : Cmd) (base sq log2 cq prio : Nat)
  /-- SQ_DELETE (R282): Deletes a submission ring once its accepted commands complete, discarding unaccepted ones. -/
  | sqDelete (c : Cmd) (sq : Nat)
  /-- CQ_CREATE (R286): Creates a completion ring with its vector. -/
  | cqCreate (c : Cmd) (base vec cq log2 : Nat)
  /-- CQ_DELETE (R282): Deletes a completion ring that no submission ring is bound to. -/
  | cqDelete (c : Cmd) (cq : Nat)
  /-- RQ_CREATE (R286): Creates a report ring with its lane and category masks, watermark and hold timer. -/
  | rqCreate (c : Cmd) (base lanes cats vec wm hold rq log2 : Nat)
  /-- RQ_DELETE (R282): Deletes a report ring and counts its spilled records and tallies as unrouted. -/
  | rqDelete (c : Cmd) (rq : Nat)
  /-- DMA_COPY (R286): Copies bytes between Salhan addresses under class 4. -/
  | dmaCopy (c : Cmd) (src dst len : Nat) (ecc : List (Nat × Bool))
  /-- MEM_FILL (R286): Fills a destination with a repeated 8-byte pattern. -/
  | memFill (c : Cmd) (dst pattern len : Nat)
  /-- ADAPT_OPEN (R235): Opens an adaptation from a parameter block and initialises its adapters and moments. -/
  | adaptOpen (c : Cmd) (param : Nat)
  /-- ADAPT_CONFIRM (R237): Adds the TEXT fields of captured objects of a lane as training samples. -/
  | adaptConfirm (c : Cmd) (first last ad lane : Nat)
  /-- ADAPT_SAMPLE (R237): Adds one host-supplied crop with its label as a sample. -/
  | adaptSample (c : Cmd) (src lbl map len w h lblLen ad kind : Nat)
  /-- ADAPT_RUN (R238): Fixes the sample set on the first run and starts or resumes training. -/
  | adaptRun (c : Cmd) (ad : Nat)
  /-- ADAPT_PAUSE (R247): Pauses training once the open batch has closed. -/
  | adaptPause (c : Cmd) (ad : Nat)
  /-- ADAPT_EVAL (R248): Snapshots the adapters and measures them against the base recogniser on the held-out samples. -/
  | adaptEval (c : Cmd) (ad : Nat)
  /-- ADAPT_EVAL_COMPLETE (R249): The evaluation finishes and the snapshot is judged ACCEPTED or REJECTED. -/
  | adaptEvalComplete (ad : Nat) (res : List EvalRes)
  /-- ADAPT_COMMIT (R251): Creates a derived job in a free slot with the evaluated adapters bound. -/
  | adaptCommit (c : Cmd) (ad slot : Nat)
  /-- ADAPT_CLOSE (R250): Closes an adaptation, first discarding any open batch. -/
  | adaptClose (c : Cmd) (ad : Nat)
  /-- SAMPLE_RESOLVE (R244): A training sample finishes its passes and writes its gradient, or resolves as corrupt. -/
  | sampleResolve (ad slot : Nat) (res : SampleRes)
  /-- BATCH_CLOSE (R245): All slots of a batch resolve, so the gradient is averaged and AdamW applied, or the batch is skipped. -/
  | batchClose (ad : Nat)
  /-- FLT_READ (R329): Copies one fault record to a destination. -/
  | fltRead (c : Cmd) (dst idx : Nat)
  /-- NOP (R286): Command that does nothing and completes at once. -/
  | nop (c : Cmd)
  /-- SQ_TAIL_DOORBELL (R274): Host write of a submission ring's tail index. -/
  | sqTailDoorbell (sq idx : Nat)
  /-- CQ_HEAD_DOORBELL (R281): Host write of a completion ring's head, freeing room for waiting replies. -/
  | cqHeadDoorbell (cq idx : Nat)
  /-- RQ_HEAD_DOORBELL (R297): Host write of a report ring's head, moving spilled records into the ring. -/
  | rqHeadDoorbell (rq idx : Nat)
  /-- RQ_HOLD_TIMER (R291): A report ring's oldest unread record has waited HOLD_US, so the ring raises its vector. -/
  | rqHoldTimer (rq : Nat)
  /-- GEMM (R113): Issues a GEMM descriptor to the array. -/
  | gemm (ctx : Nat)
  /-- CONV_TAP (R145): Issues a convolution descriptor to the array or the vector unit. -/
  | convTap (ctx : Nat)
  /-- POOL (R154): Issues a pooling or channel-argmax descriptor to the output stage. -/
  | pool (ctx : Nat)
  /-- VEC (R114): Issues a vector-unit operation descriptor. -/
  | vec (ctx : Nat)
  /-- ATTN (R169): Issues an attention descriptor to the Loupe, appending KV rows and computing outputs. -/
  | attn (ctx : Nat)
  /-- RING_BARRIER_COMPLETE (R195): The last ring-group member issues its RING ATTN, so parameters are compared and shards circulate. -/
  | ringBarrierComplete (group : Nat)
  /-- DMA (R117): Issues a DMA descriptor, with optional Grain compression. -/
  | dma (ctx : Nat) (fetch : Option (Nat × Nat × Option Nat)) (tile : Option TileRead)
  /-- WAIT_MARK (R258): Issues a descriptor that waits until a mark reaches a value. -/
  | waitMark (ctx : Nat)
  /-- SIGNAL_MARK (R123): Adds to a mark once every earlier descriptor has completed. -/
  | signalMark (ctx : Nat)
  /-- BRANCH_ON_COUNT (R121): Loads a counter, or decrements it and branches. -/
  | branchOnCount (ctx : Nat)
  /-- DESC_COMPLETE (R255): A descriptor finishes on its unit; the context changes state and may end its program or reach a step boundary. -/
  | descComplete (core unit clocks : Nat) (map : Option (Nat × Nat × List (List Nat))) (ecc : List Nat)
  /-- DETOKENISE_TOKEN (R211): The detokeniser repairs a token's bytes, matches stop strings and writes text. -/
  | detokeniseToken (ctx : Nat)
  /-- FIELD_MATCH (R45): The match rule of a finished TEXT field is evaluated. -/
  | fieldMatch (lane key field ctx : Nat)
  /-- ENCODER_FORWARD_COUNT (R57): A forward quadrature count repays reverse debt or advances web time by NUM/DEN. -/
  | encoderForwardCount
  /-- ENCODER_REVERSE_COUNT (R57): A reverse count adds to the debt, or raises DEBT_SAT once the debt has saturated. -/
  | encoderReverseCount
  /-- ENC_Z_EDGE (R60): A Z edge ends a check period and may raise a Z error. -/
  | encZEdge
  /-- ENC_ILLEGAL_TRANSITION (R60): An illegal A/B transition counts towards ILL_LIM and may raise ENC_FAULT. -/
  | encIllegalTransition
  /-- SHUTTER_ARM (R65): A host write of word 2 of a host-partition entry arms it or cancels it. -/
  | shutterArm (entry w2 : Nat)
  /-- MARKER_PULSE_FIRE (R66): A MARKER_PULSE entry reaches its target. -/
  | markerPulseFire (entry : Nat)
  /-- MARKER_ASSERT (R70): A marker output asserts at the lead-compensated point, within the commit window. -/
  | markerAssert (entry : Nat)
  /-- MARKER_DEASSERT (R70): A marker pulse ends, the output deasserts and the entry frees. -/
  | markerDeassert (entry : Nat)
  /-- MARKER_READBACK (R71): A pad level differs from the commanded level for more than 200 ns. -/
  | markerReadback (output : Nat) (pad : Bool)
  /-- STEP_FIRE (R62): A STEP entry issues a group of proof-bed steps. -/
  | stepFire (entry : Nat)
  /-- LINE_TRIG_FIRE (R61): A LINE_TRIG entry pulses LSYNC, stamps the line and re-arms, or skips a trigger that comes too soon. -/
  | lineTrigFire (entry : Nat)
  /-- CTX_LAUNCH_FIRE (R256): A CTX_LAUNCH Shutter entry launches its context, or sets LAUNCH_MISS. -/
  | ctxLaunchFire (entry : Nat)
  /-- LANE_START_LINE (R54): Web time reaches a scheduled start line and the pending copy becomes active. -/
  | laneStartLine (lane : Nat)
  /-- LANE_STOP_LINE (R52): Web time reaches a lane's stop line and the lane becomes STOPPING. -/
  | laneStopLine (lane : Nat)
  /-- DEADLINE_FIRE (R67): A deadline is reached before a verdict and the entry becomes a fail-safe marker pulse. -/
  | deadlineFire (entry : Nat)
  /-- SPAN_FIRE (R38): A lane's span entry drives the fail-safe action over unregistered web. -/
  | spanFire (lane : Nat)
  /-- OBJECT_REGISTER (R36): The detector finds a design, so the object is numbered, snapshotted and given a deadline entry or OVERRUN. -/
  | objectRegister (lane origin : Nat) (tf : Transform) (det : Option Nat) (copyB : Option CopyB)
  /-- SEARCH_WINDOW_CLOSE (R37): A search window closes without registration, so a synthetic UNREGISTERED object is made and the miss is counted. -/
  | searchWindowClose (lane : Nat) (copyB : Option CopyB)
  /-- VERDICT_POST (R49): All inputs of an object have outcomes; the verdict is combined, posted and replaces the deadline entry. -/
  | verdictPost (lane key : Nat) (copyB : Option CopyB)
  /-- DUP_MISMATCH (R74): The two Shutter copies disagree and the device goes out of service. -/
  | dupMismatch (outs : Nat)
  /-- STRIP_LINE_RECEIVE (R80): A strip port receives the frames of one line and maps the samples to device pixels. -/
  | stripLineReceive (port : Nat) (samples : List Nat)
  /-- RASTER_ROW_WRITE (R90): The front end corrects a row and writes it to the raster ring and the stripe stream. -/
  | rasterRowWrite (ovf : Option (Nat × Nat)) (fills : List (Nat × Nat × Nat))
  /-- STRIPE_ROW_WRITE (R161): A stripe row is written to a buffer slot and its ready mark is signalled, overwriting if needed. -/
  | stripeRowWrite (buf : Nat)
  /-- STRIPE_RELEASE (R162): A release mark signal decrements the release counts of a stripe's rows. -/
  | stripeRelease (buf pos : Nat)
  /-- WHITE_TRACK_UPDATE (R87): A group of 64 lines completes and the white-tracking factor is updated. -/
  | whiteTrackUpdate
  /-- STRIP_CRC_ERROR (R84): A CRC-12 error invalidates the row segments of a multiblock. -/
  | stripCrcError (port : Nat) (lines : List Nat)
  /-- STRIP_LINK_DOWN (R84): A link lane loses sync-header lock. -/
  | stripLinkDown (port link : Nat)
  /-- STRIP_LINK_RELOCK (R84): A link lane regains lock and reports the lines lost. -/
  | stripLinkRelock (port link : Nat)
  /-- SYSREF_EDGE (R82): A SYSREF edge sets the multiblock phase when armed, or is checked against it. -/
  | sysrefEdge (phase : Nat)
  /-- DECODE_PICTURE_DONE (R105): A pipe finishes a picture, queues the frame and increments the stream's mark. -/
  | decodePictureDone (pipe : Nat) (pic : Picture) (bytes : Nat)
  /-- AUX_LATE (R107): At a checkpoint a picture is past its age or web-time limit and is abandoned. -/
  | auxLate (pipe bytes : Nat)
  /-- FRAME_DEQUEUE (R105): A consumer takes a frame; frames past their limits are discarded and AUX_LOW may be raised. -/
  | frameDequeue (slot : Nat)
  /-- REF_REPAIR (R103): Re-decoding of a poisoned reference tile completes. -/
  | refRepair (job tile : Nat) (rd : Option (Nat × Nat))
  /-- CODE_REQUEST_START (R219): The code unit starts a queued request and judges its staleness. -/
  | codeRequestStart
  /-- CODE_REQUEST_DONE (R223): A code request finishes decoding and grading and gives the field its outcome. -/
  | codeRequestDone (r : CodeRead)
  /-- REFRESH_SLOT (R306): A channel's refresh slot issues PREA, REF and, periodically, ZQCS. -/
  | refreshSlot (chan : Nat)
  /-- DRAM_HOT_CHANGE (R307): DRAM_HOT_N or FORCE_2X changes the refresh mode at channel 0's next slot. -/
  | dramHotChange (hot : Bool)
  /-- CA_PARITY_ALERT (R316): An ALERT_n pulse of CA parity width makes the controller replay commands. -/
  | caParityAlert (chan : Nat) (failed : Bool)
  /-- WR_CRC_ALERT (R316): An ALERT_n pulse of write CRC width makes the controller rewrite the burst. -/
  | wrCrcAlert (chan : Nat) (failed : Bool)
  /-- PATROL_SCRUB (R319): Patrol scrub reads the next burst, correcting or poisoning it. -/
  | patrolScrub (chan errs : Nat)
  /-- NEIGHBOUR_REFRESH (R315): A marked row closes and its neighbours are activated and precharged. -/
  | neighbourRefresh (chan rank bank row : Nat)
  /-- RING_LINK_DOWN (R201): A ring link goes DOWN, so routes are recomputed, groups restart and event records are written. -/
  | ringLinkDown (links : Nat) (retries : List Nat)
  /-- HALYARD_SCAN (R327): The 10 µs scan for knots of waits, faulting a confirmed knot's newest member with HANG. -/
  | halyardScan
  /-- WATCHDOG_EXPIRY (R328): A context's progress watchdog reaches its limit and the context faults with WATCHDOG. -/
  | watchdogExpiry (ctx : Nat)
  /-- CONTEXT_FAULT (R331): A fault names a context, so a record is written and a tier A reset begins. -/
  | contextFault (ctx : Nat) (info : FaultInfo)
  /-- CONTEXT_RESET_COMPLETE (R331): A context reset completes and the context becomes OPEN. -/
  | contextResetComplete (ctx : Nat)
  /-- SAFELIGHT_WDOG (R346): No watchdog kick arrives within TIMEOUT, so tier M starts. -/
  | safelightWdog
  /-- SAFELIGHT_LOCKSTEP (R345): The lockstep pair disagrees, or Safelight SRAM has an uncorrectable error, so tier M starts. -/
  | safelightLockstep
  /-- TIER_M_COMPLETE (R338): Safelight has reloaded from the active bank and resumes. -/
  | tierMComplete
  /-- HOIST_PERIOD_BOUNDARY (R263): A hoist period boundary renews every class's budgets and applies pending settings. -/
  | hoistPeriodBoundary
  /-- THERMAL_CAP_UPDATE (R370): The 1 ms update lowers, raises or holds each core's thermal cap. -/
  | thermalCapUpdate
  /-- TEMP_SENSOR_SAMPLE (R370): A 100 µs sensor reading, which may set TEMP_WARN. -/
  | tempSensorSample (sensor code : Nat)
  /-- THERMTRIP (R371): A sensor reaches 115 °C and the device stops its clocks and releases its outputs. -/
  | thermtrip
  /-- DVFS_STOP_END (R126): A core's 2 µs clock stop ends at the new frequency and DVFS_DONE is set. -/
  | dvfsStopEnd (core : Nat)
  /-- AVS_TIMEOUT (R369): A voltage raise misses its 1 ms limit, so the change is abandoned and AVS_FAIL is set. -/
  | avsTimeout
  /-- PWROK_RISE (R364): Power good rises and the device starts its start-up sequence from reset. -/
  | pwrokRise
  /-- PWROK_FALL (R362): Power good falls, so outputs are released and every island stops. -/
  | pwrokFall
  /-- PERST_ASSERT (R363): PERST_N low with PWROK high resets the device except the fault ring. -/
  | perstAssert
  /-- PERST_RELEASE (R363): PERST_N release starts device time at 0 and reruns start-up. -/
  | perstRelease
  /-- DEVICE_READY (R364): Start-up completes and the device reports ready, or the start-up fails. -/
  | deviceReady (r : BootReport)
  /-- SMBUS_BLOCK_READ (R386): An SMBus Block Read returns a management register. -/
  | smbusBlockRead (code : Nat)
  /-- EXTEST (R354): TAP boundary-scan test instruction, refused while lanes run. -/
  | extest
  /-- IDCODE (R353): TAP instruction that returns the IDCODE. -/
  | idcode
  /-- SAMPLE_PRELOAD (R353): TAP boundary-scan sample and preload instruction. -/
  | samplePreload
  /-- CLAMP (R354): TAP clamp instruction, under the lock and lane condition. -/
  | clamp
  /-- HIGHZ (R354): TAP high-impedance instruction, under the lock and lane condition. -/
  | highz
  /-- BYPASS (R353): TAP bypass instruction, also taken by unlisted codes. -/
  | bypass
  /-- DBG_CHALLENGE (R355): Reading the challenge returns a fresh nonce and the device identifier. -/
  | dbgChallenge
  /-- DBG_RESPONSE (R355): A signed response is verified to unlock OBSERVE or FULL. -/
  | dbgResponse (level : Nat) (valid : Bool)
  /-- RD32 (R357): Debug read of 4 aligned bytes at a debug address. -/
  | rd32 (addr : Nat)
  /-- WR32 (R357): Debug write of 4 aligned bytes at a debug address. -/
  | wr32 (addr data : Nat)
  /-- SL_HALT (R359): Halts both Safelight cores at an instruction boundary. -/
  | slHalt
  /-- SL_RESUME (R356): Resumes a halted Safelight. -/
  | slResume
  /-- SL_STEP (R356): Safelight executes one instruction and halts. -/
  | slStep
  /-- SL_BP (R356): Sets or clears a Safelight instruction breakpoint. -/
  | slBp (n addr : Nat) (en : Bool)
  /-- SL_WP (R356): Sets a Safelight data watchpoint. -/
  | slWp (n addr data : Nat)
  /-- SL_BREAK_HIT (R356): Safelight reaches a breakpoint or matching watchpoint and halts. -/
  | slBreakHit (isWp : Bool) (n : Nat)
  /-- SL_REG (R356): Reads a register of a halted Safelight. -/
  | slReg (n : Nat)
  /-- CORE_HALT (R358): Requests a soft halt of a core. -/
  | coreHalt (core : Nat)
  /-- CORE_HALT_DRAINED (R358): A soft-halting core completes its descriptors in flight and is halted. -/
  | coreHaltDrained (core : Nat)
  /-- CORE_HARD_HALT (R358): Faults every context on a core with DEBUG_HALT and halts the core. -/
  | coreHardHalt (core : Nat)
  /-- CORE_STEP (R358): Issues one descriptor of a named context on a halted core. -/
  | coreStep (core ctx : Nat)
  /-- CORE_STEP_TIMEOUT (R358): A stepped descriptor cannot issue within 1 ms and the result is NOT_ISSUED. -/
  | coreStepTimeout (core : Nat)
  /-- CORE_RESUME (R356): Returns a halted core to scheduling. -/
  | coreResume (core : Nat)
  /-- LOCK (R355): Debug command that sets the lock to LOCKED. -/
  | lock
  /-- SVN_RAISE (R356): Blows fuses to raise SVN_MIN. -/
  | svnRaise (svn : Nat)
  /-- TMU_WT_SET_HI_WRITE (R56): Writing the high half loads the 64-bit web-time origin when the conditions allow. -/
  | tmuWtSetHiWrite (v : Word)
  /-- TMU_DIV_WRITE (R56): Writing the divider recomputes the remainder while keeping web time. -/
  | tmuDivWrite (v : Word)
  /-- TMU_SH_PART_WRITE (R64): Writing the host partition size, discarded if it would take armed or held entries. -/
  | tmuShPartWrite (v : Word)
  /-- PCIE_APT_BASE_WRITE (R20): Moves the BAR4 aperture base for later transactions, if it fits the installed DRAM. -/
  | pcieAptBaseWrite (v : Word)
  /-- SPN_CFG_ENABLE (R78): Writing EN = 1 checks the port configuration and enables or rejects the port. -/
  | spnCfgEnable (port : Nat) (v : Word)
  /-- DRK_SB_ENABLE (R161): Enabling a stripe buffer checks it and records V0. -/
  | drkSbEnable (buf : Nat) (v : Word)
  /-- KVM_POOL_ENABLE (R174): Enabling a frame pool checks its ranges. -/
  | kvmPoolEnable (pool : Nat) (v : Word)
  /-- HST_COMMIT (R270): Checks the shadow budgets and schedules them for the next boundary. -/
  | hstCommit
  /-- FORCE_COARSE_WRITE (R202): Setting or clearing FORCE_COARSE switches open groups and writes their event records. -/
  | forceCoarseWrite (on : Bool)
  /-- ENN_DVFS_WRITE (R126): Writing a core's target frequency starts a voltage-then-clock change. -/
  | ennDvfsWrite (core : Nat) (v : Word)
  /-- MGT_AVS_WRITE (R368): Enabling or disabling adaptive core voltage. -/
  | mgtAvsWrite (on : Bool)
  /-- MARK_WINDOW_HI_WRITE (R259): Writing a mark's high word signals the 64-bit value formed with the pending low word. -/
  | markWindowHiWrite (mark : Nat) (v : Word)
  /-- FLT_MK_HOLD_CLEAR (R342): Writing 1 to a HOLD bit ends a tier C marker hold. -/
  | fltMkHoldClear (v : Word)
  /-- DBG_CTRL_LOCK (R355): Writing LOCK sets the debug lock to LOCKED. -/
  | dbgCtrlLock
  /-- DBG_CTRL_DENY (R355): Setting DENY refuses every unlock until power-up or tier C. -/
  | dbgCtrlDeny
  /-- REG_READ_LO_LATCH (R12): A read of a _LO register latches the matching _HI value for one read. The row stands for every host read of
  BAR0: `len` bytes from byte `off` (R7). -/
  | regReadLoLatch (off len : Nat)
  /-- REGISTER_WRITE (R10): A write to any other register, applied by access type or discarded under its condition. -/
  | registerWrite (off : Nat) (v : Word)
  /-- UNSUPPORTED_ACCESS (R8): An access to an unallocated, unbacked or misaligned address is discarded or reads zero and is logged. -/
  | unsupportedAccess (bar off : Nat) (write : Bool) (len : Nat)
  /-- BAR2_ACCESS (R320): Host read or write of the Darkroom through BAR2. -/
  | bar2Access (off : Nat) (data : Option Word) (ecc : List (Nat × Bool))
  /-- BAR4_ACCESS (R320): Host read or write of DRAM through the BAR4 aperture. -/
  | bar4Access (off : Nat) (data : Option Word) (ecc : List (Nat × Bool))
  /-- CONTROL_STATE_PARITY (R325): A parity error in control state is detected and, by block, triggers tier B of a core, loses a unit's request, or takes the device out of service. -/
  | controlStateParity (block n : Nat)
  /-- FIRMWARE_HEARTBEAT (R346): Once per millisecond of its main loop the firmware adds 1 to MGT_HEARTBEAT and kicks the Safelight watchdog. -/
  | firmwareHeartbeat
  /-- FW_SWAP_COMPLETE (R351): The boot ROM finishes loading and verifying the new bank; on success the new firmware reads the handover, resumes the heartbeat and FW_ACTIVATE completes OK, and on failure the previous bank is reloaded. -/
  | fwSwapComplete (ok : Bool)
  /-- PMBUS_TRANSFER (R369): A PMBus transfer to the VDD_CORE regulator completes, acknowledged or not; a READ_VOUT within 10 mV lets a pending frequency raise start its clock stop, and a NACK or STATUS_WORD fault sets AVS_FAIL and returns VDD_CORE to 0.75 V. -/
  | pmbusTransfer (ack : Bool) (mv : Nat) (iout : Option Nat)
  /-- LINE_START_TIMEOUT (R81): In LSYNC_DELAY mode a line has not started within two minimum line periods of its trigger, so the port's row segment becomes invalid and SHORT_LINE is set. -/
  | lineStartTimeout (port : Nat)
  /-- DEV_DECODE_ERR (R109): A pipe finds a picture non-conformant, ends its decode, sets DECODE_ERR, emits DEV_DECODE_ERR and, for HEVC, puts the stream into SKIP. -/
  | devDecodeErr (pipe err bytes : Nat)
  deriving DecidableEq, Repr

end Sys2Proof
end

