-- ==== Sys2Proof/Decode.lean ====
section
/-! DEFINITION. The command that a word spells: no row of the opcode table gives bits, so no word spells one. -/

namespace Sys2Proof

/-- Commands reach the block from outside and not as words: the table gives none of its rows bits. -/
def decodeTableWord (_nbits _w : Nat) : Option Instr := none

end Sys2Proof
end

