-- ==== Sys2Proof/Config.lean ====
section
/-! DEFINITION. The values the spec leaves open: constants without a body, so that no proof can see
what they are (notes/assumptions/2.md). -/

namespace Sys2Proof

/-- A fresh value each time: the n-th value the spec leaves open. -/
opaque Config.freeVal : Nat → Nat

/-- The fused voltage table V(f) of the part, in mV, by frequency in units of 50 MHz (19 Core voltage). -/
opaque Config.voltage : Nat → Nat

/-- The values of the fixed table of application identifiers that the spec names and does not print (R221). -/
opaque Config.aiEntry : Nat → Nat

/-- The Unicode scalar value of a JIS X 0208 code, the table of which the spec does not print (R216). -/
opaque Config.jisScalar : Nat → Nat

/-- Where the hot-tile area (0) and the hot-page area (1) begin in the Darkroom: the spec gives their sizes only
(R102, 09 Registers). -/
opaque Config.hotArea : Nat → Nat

/-- The number by which an ADAPT_STATE report names a state of R250. -/
opaque Config.adaptCode : Nat → Nat

/-- The sign of the zero that MAX and MIN of +0 and -0 give: the spec states none (entry 2). True is -0. -/
opaque Config.maxZeroNeg : Bool
opaque Config.minZeroNeg : Bool

/-- The same for RELU of -0, and for an AVG whose elements are all -0 (entry 2). -/
opaque Config.reluZeroNeg : Bool
opaque Config.avgZeroNeg : Bool

end Sys2Proof
end

