-- ==== Sys2Proof/Machine/Tab.lean ====
section
/-! DEFINITION. Sparse tables with a default: reading, writing, and their canonical form. -/

namespace Sys2Proof.Machine

variable {α : Type}

/-- Read key `k`; an unlisted key reads as `d`. -/
def tget (d : α) : Tab α → Nat → α
  | [], _ => d
  | (j, v) :: t, k => if j = k then v else tget d t k

/-- Remove key `k`. -/
def tdel : Tab α → Nat → Tab α
  | [], _ => []
  | (j, v) :: t, k => if j = k then tdel t k else (j, v) :: tdel t k

/-- Insert in key order. -/
def tins : Tab α → Nat → α → Tab α
  | [], k, v => [(k, v)]
  | (j, u) :: t, k, v => if k < j then (k, v) :: (j, u) :: t else (j, u) :: tins t k v

/-- Write key `k`; writing the default removes the entry, so equal tables are equal data. -/
def tset [DecidableEq α] (d : α) (t : Tab α) (k : Nat) (v : α) : Tab α :=
  if v = d then tdel t k else tins (tdel t k) k v

/-- Change the entry of key `k`. -/
def tmod [DecidableEq α] (d : α) (t : Tab α) (k : Nat) (f : α → α) : Tab α :=
  tset d t k (f (tget d t k))

/-- Every key of the table is above `b`, keys rise, and no entry is the default. -/
def twfAbove [DecidableEq α] (d : α) : Option Nat → Tab α → Bool
  | _, [] => true
  | b, (k, v) :: t => (match b with | none => true | some n => decide (n < k)) && decide (v ≠ d) && twfAbove d (some k) t

/-- The canonical form of a table. -/
def twf [DecidableEq α] (d : α) (t : Tab α) : Bool := twfAbove d none t

/-- The canonical form of byte memory: an unlisted byte reads as 0 (notes/assumptions/7.md). -/
def Memory.wf (m : Mem) : Bool := twf 0 m

/-- Entries whose value satisfies `p`, as keys. -/
def tkeys (t : Tab α) (p : α → Bool) : List Nat := (t.filter (fun e => p e.2)).map (·.1)

/-- Change every listed entry, dropping those that become the default. -/
def tmap [DecidableEq α] (d : α) (t : Tab α) (f : Nat → α → α) : Tab α :=
  (t.map (fun e => (e.1, f e.1 e.2))).filter (fun e => decide (e.2 ≠ d))

end Sys2Proof.Machine
end

