-- ==== Sys2Proof/Machine/Bits.lean ====
section
/-! DEFINITION. Bit fields, byte order and saturation (00 Numbers, units and time). -/

namespace Sys2Proof.Machine

/-- Bits [hi:lo] of `v`. -/
def bits (v hi lo : Nat) : Nat := (v >>> lo) % 2 ^ (hi - lo + 1)

/-- Bit `k` of `v`. -/
def bit (v k : Nat) : Bool := v.testBit k

/-- Set (or clear) bit `k` of `v`. -/
def putBit (v k : Nat) (b : Bool) : Nat :=
  if b then v ||| (1 <<< k) else if v.testBit k then v - (1 <<< k) else v

def b2n (b : Bool) : Nat := if b then 1 else 0

/-- The bits of `v` below 32, listed. -/
def bitList (v n : Nat) : List Nat := (List.range n).filter (fun k => v.testBit k)

/-- Addition that saturates at `m`. -/
def satAdd (m a b : Nat) : Nat := min m (a + b)

def sat32 : Nat := 0xFFFFFFFF
def sat64 : Nat := 0xFFFFFFFFFFFFFFFF

/-- The `n` bytes of `v`, little-endian. -/
def leBytes : Nat → Nat → List Byte
  | 0, _ => []
  | n + 1, v => BitVec.ofNat 8 v :: leBytes n (v / 256)

/-- The number a little-endian byte list spells. -/
def leNat : List Byte → Nat
  | [] => 0
  | b :: t => b.toNat + 256 * leNat t

/-- `n` bits of the two's complement code of an integer. -/
def twos (n : Nat) (i : Int) : Nat := (i % (2 ^ n : Nat)).toNat

/-- The integer of an `n`-bit two's complement code. -/
def ofTwos (n v : Nat) : Int := if v % 2 ^ n < 2 ^ (n - 1) then (v % 2 ^ n : Nat) else (v % 2 ^ n : Nat) - (2 ^ n : Nat)

/-- A list cut or zero-filled to `n` elements. -/
def padTo (n : Nat) (l : List Byte) : List Byte := (l ++ List.replicate (n - l.length) 0).take n

def ceilDiv (a b : Nat) : Nat := (a + b - 1) / b

/-- Two half-open ranges meet. -/
def meets (a b c d : Nat) : Bool := decide (a < d) && decide (c < b)

def listSet {α : Type} (l : List α) (i : Nat) (v : α) : List α := l.set i v

end Sys2Proof.Machine
end

