-- ==== Sys2Proof/Machine/Num.lean ====
section
/-! DEFINITION. Exact arithmetic, rounding and the floating-point formats (R127, R128, R132). -/

namespace Sys2Proof.Machine

/-- An exact value: NaN, an infinity, a signed zero, or the rational n / d with n not 0. -/
inductive FV where
  | nan
  | inf (neg : Bool)
  | zero (neg : Bool)
  | num (n : Int) (d : Nat)
  deriving DecidableEq, Repr, Inhabited

/-- The value n / d in lowest terms; 0 is +0. -/
def fq (n : Int) (d : Nat) : FV :=
  if n = 0 then .zero false
  else let g := Nat.gcd n.natAbs d; .num (n / (g : Int)) (d / g)

def fint (n : Int) : FV := fq n 1

/-- m x 2^e. -/
def fpow (m : Int) (e : Int) : FV :=
  if 0 ≤ e then fq (m * (2 ^ e.toNat : Nat)) 1 else fq m (2 ^ (-e).toNat)

def fneg : FV → FV
  | .nan => .nan
  | .inf b => .inf (!b)
  | .zero b => .zero (!b)
  | .num n d => .num (-n) d

def fabs : FV → FV
  | .nan => .nan
  | .inf _ => .inf false
  | .zero _ => .zero false
  | .num n d => .num n.natAbs d

def fisNeg : FV → Bool
  | .nan => false
  | .inf b => b
  | .zero b => b
  | .num n _ => decide (n < 0)

/-- Exact sum; an exact sum of zero is +0 unless both are -0. -/
def fadd : FV → FV → FV
  | .nan, _ => .nan
  | _, .nan => .nan
  | .inf a, .inf b => if a = b then .inf a else .nan
  | .inf a, _ => .inf a
  | _, .inf b => .inf b
  | .zero a, .zero b => .zero (a && b)
  | .zero _, x => x
  | x, .zero _ => x
  | .num a b, .num c d => fq (a * d + c * b) (b * d)

def fsub (x y : FV) : FV := fadd x (fneg y)

def fmul : FV → FV → FV
  | .nan, _ => .nan
  | _, .nan => .nan
  | .inf _, .zero _ => .nan
  | .zero _, .inf _ => .nan
  | .inf a, y => .inf (xor a (fisNeg y))
  | x, .inf b => .inf (xor (fisNeg x) b)
  | .zero a, y => .zero (xor a (fisNeg y))
  | x, .zero b => .zero (xor (fisNeg x) b)
  | .num a b, .num c d => fq (a * c) (b * d)

def finv : FV → FV
  | .nan => .nan
  | .inf b => .zero b
  | .zero b => .inf b
  | .num n d => if n < 0 then .num (-(d : Int)) n.natAbs else .num d n.natAbs

def fdiv (x y : FV) : FV :=
  match x, y with
  | .zero _, .zero _ => .nan
  | .inf _, .inf _ => .nan
  | _, _ => fmul x (finv y)

/-- x < y on values that are not NaN. -/
def flt : FV → FV → Bool
  | .nan, _ => false
  | _, .nan => false
  | .inf a, .inf b => a && !b
  | .inf a, _ => a
  | _, .inf b => !b
  | .zero _, .zero _ => false
  | .zero _, .num n _ => decide (0 < n)
  | .num n _, .zero _ => decide (n < 0)
  | .num a b, .num c d => decide (a * d < c * b)

def fle (x y : FV) : Bool := flt x y || (decide (x ≠ .nan) && decide (y ≠ .nan) && !flt y x)

def fisZero : FV → Bool
  | .zero _ => true
  | _ => false

/-- Round half to even to an integer. -/
def rhe (n : Int) (d : Nat) : Int :=
  let q := n / (d : Int)
  let r := n % (d : Int)
  if 2 * r < d then q else if 2 * r > d then q + 1 else if q % 2 = 0 then q else q + 1

/-- Round half up (towards +infinity). -/
def rhu (n : Int) (d : Nat) : Int := (2 * n + d) / (2 * (d : Int))

/-- A floating-point format: mantissa bits, least exponent of a normal, exponent bits and bias, the
largest finite value as (mantissa, exponent), and whether it has infinity. -/
structure Fmt where
  m : Nat
  emin : Int
  ebits : Nat
  maxM : Nat
  maxE : Int
  hasInf : Bool
  deriving DecidableEq, Repr

def fp32 : Fmt := ⟨23, -126, 8, 0xFFFFFF, 104, true⟩
def fp64 : Fmt := ⟨52, -1022, 11, 2 ^ 53 - 1, 971, true⟩
def bf16 : Fmt := ⟨7, -126, 8, 0xFF, 120, true⟩
def e5m2 : Fmt := ⟨2, -14, 5, 7, 13, true⟩
def e4m3 : Fmt := ⟨3, -6, 4, 14, 5, false⟩

def fmax (f : Fmt) : FV := fpow f.maxM f.maxE

/-- The largest e with 2^e at most n / d. -/
def ilog2 (n d : Nat) : Int :=
  let e : Int := (Nat.log2 n : Int) - (Nat.log2 d : Int)
  let ge := if 0 ≤ e then decide (d * 2 ^ e.toNat ≤ n) else decide (d ≤ n * 2 ^ (-e).toNat)
  if ge then e else e - 1

/-- Round half to even to the format, saturating; the flag says that a value saturated (R132). -/
def roundF (f : Fmt) : FV → FV × Bool
  | .nan => (.nan, false)
  | .zero b => (.zero b, false)
  | .inf b => if f.hasInf then (.inf b, false) else (if b then fneg (fmax f) else fmax f, true)
  | .num n d =>
    let e := max (ilog2 n.natAbs d) f.emin
    let q : Int := e - (f.m : Int)
    let k := if 0 ≤ q then rhe n.natAbs (d * 2 ^ q.toNat) else rhe ((n.natAbs : Int) * (2 ^ (-q).toNat : Nat)) d
    let neg := decide (n < 0)
    if k = 0 then (.zero neg, false)
    else
      let v := fpow k q
      let ovf := flt (fmax f) v
      let v := if ovf then fmax f else v
      (if neg then fneg v else v, ovf)

def rn (f : Fmt) (x : FV) : FV := (roundF f x).1
def rn32 (x : FV) : FV := rn fp32 x
def rn64 (x : FV) : FV := rn fp64 x

/-- The value of a code of the format (R127, R128). -/
def decodeF (f : Fmt) (c : Nat) : FV :=
  let m := c % 2 ^ f.m
  let e := (c / 2 ^ f.m) % 2 ^ f.ebits
  let neg := (c / 2 ^ (f.m + f.ebits)) % 2 = 1
  let top := 2 ^ f.ebits - 1
  let sgn (v : FV) : FV := if neg then fneg v else v
  if e = top ∧ f.hasInf then (if m = 0 then sgn (.inf false) else .nan)
  else if e = top ∧ m = 2 ^ f.m - 1 then .nan
  else if e = 0 then (if m = 0 then sgn (.zero false) else sgn (fpow m (f.emin - f.m)))
  else sgn (fpow ((2 ^ f.m + m : Nat) : Int) (f.emin - f.m + (e : Int) - 1))

/-- The code is a subnormal of its own format (R114). -/
def isSubnormal (f : Fmt) (c : Nat) : Bool :=
  decide ((c / 2 ^ f.m) % 2 ^ f.ebits = 0) && decide (c % 2 ^ f.m ≠ 0)

/-- The code of a value already rounded to the format; NaN is the canonical one (R128). -/
def encodeF (f : Fmt) : FV → Nat
  | .nan => if f.hasInf then (2 ^ f.ebits - 1) * 2 ^ f.m + 2 ^ (f.m - 1) else (2 ^ f.ebits - 1) * 2 ^ f.m + (2 ^ f.m - 1)
  | .inf b => b2n b * 2 ^ (f.m + f.ebits) + (2 ^ f.ebits - 1) * 2 ^ f.m
  | .zero b => b2n b * 2 ^ (f.m + f.ebits)
  | .num n d =>
    let e := max (ilog2 n.natAbs d) f.emin
    let q : Int := e - (f.m : Int)
    let k : Nat := if 0 ≤ q then n.natAbs / (d * 2 ^ q.toNat) else n.natAbs * 2 ^ (-q).toNat / d
    let s := (if n < 0 then 1 else 0) * 2 ^ (f.m + f.ebits)
    if k < 2 ^ f.m then s + k else s + (e - f.emin + 1).toNat * 2 ^ f.m + (k - 2 ^ f.m)

def enc (f : Fmt) (x : FV) : Nat := encodeF f (rn f x)
def fp32Of (c : Nat) : FV := decodeF fp32 c
def bf16Of (c : Nat) : FV := decodeF bf16 c

/-- Round to an integer range, saturating; NaN is 0; the flag counts both (R132). -/
def toInt (lo hi : Int) : FV → Int × Bool
  | .nan => (0, true)
  | .inf b => (if b then lo else hi, true)
  | .zero _ => (0, false)
  | .num n d =>
    let k := rhe n d
    if k < lo then (lo, true) else if hi < k then (hi, true) else (k, false)

/-! ### Transcendental functions (R140): fixed point with 320 fraction bits, one rounding at the end -/

def fxOne : Nat := 2 ^ 320
def fxLn2 : Nat := 0xb17217f7d1cf79abc9e3b39803f2f6af40f343267298b62d8a0d175b8baafa2be7b876206debac98

/-- Sum of t^k / k! from term number k on. -/
def expTerms (t : Nat) : Nat → Nat → Nat → Nat
  | 0, _, _ => 0
  | fuel + 1, k, term => term + expTerms t fuel (k + 1) (term * t / fxOne / (k + 1))

/-- e^t for 0 <= t < 1. -/
def expFx (t : Nat) : Nat := expTerms t 90 0 fxOne

/-- 2^(y / 2^320), as a value. -/
def exp2Fx (y : Int) : FV :=
  let i := y / (fxOne : Int)
  let f := (y % (fxOne : Int)).toNat
  if f = 0 then fpow 1 i
  else fpow (expFx (f * fxLn2 / fxOne)) (i - 320)

/-- Bits of log2 of m in [1, 2), the most significant first. -/
def log2Bits : Nat → Nat → Nat → Nat
  | 0, _, acc => acc
  | k + 1, m, acc =>
    let m := m * m / fxOne
    if 2 * fxOne ≤ m then log2Bits k (m / 2) (2 * acc + 1) else log2Bits k m (2 * acc)

def isPow2 (n : Nat) : Bool := decide (n ≠ 0) && decide (2 ^ Nat.log2 n = n)

/-- Floor of the square root, by bits. -/
def sqrtBits (n : Nat) : Nat → Nat → Nat
  | 0, r => r
  | k + 1, r => let c := r + 2 ^ k; sqrtBits n k (if c * c ≤ n then c else r)

def isqrt (n : Nat) : Nat := sqrtBits n (Nat.log2 n / 2 + 1) 0

def fexp2 : FV → FV
  | .nan => .nan
  | .inf b => if b then .zero false else .inf false
  | .zero _ => fint 1
  | .num n d =>
    if n > 4000 * (d : Int) then fpow 1 4000 else if n < -4000 * (d : Int) then fpow 1 (-4000)
    else exp2Fx (n * fxOne / (d : Int))

def flog2 : FV → FV
  | .nan => .nan
  | .inf b => if b then .nan else .inf false
  | .zero _ => .inf true
  | .num n d =>
    if n < 0 then .nan
    else
      let e := ilog2 n.toNat d
      let m := if 0 ≤ e then n.toNat * fxOne / (d * 2 ^ e.toNat) else n.toNat * 2 ^ (-e).toNat * fxOne / d
      if isPow2 n.toNat && isPow2 d then fint e
      else fpow (e * (2 ^ 150 : Nat) + (log2Bits 150 m 0 : Nat)) (-150)

def frecip (x : FV) : FV := finv x

/-- The square root of a value, to 300 or more bits, exact where it is exact. -/
def fsqrt : FV → FV
  | .nan => .nan
  | .inf b => if b then .nan else .inf false
  | .zero b => .zero b
  | .num n d =>
    if n < 0 then .nan
    else
      let r := isqrt (n.toNat * d)
      if r * r = n.toNat * d then fq r d
      else fq (isqrt (n.toNat * d * 2 ^ 640)) (d * 2 ^ 320)

def frsqrt (x : FV) : FV :=
  match x with
  | .num n _ => if n < 0 then .nan else finv (fsqrt x)
  | .inf b => if b then .nan else .zero false
  | _ => finv x

/-- e^x for finite x. -/
def fexp : FV → FV
  | .nan => .nan
  | .inf b => if b then .zero false else .inf false
  | .zero _ => fint 1
  | .num n d =>
    if n > 2000 * (d : Int) then fpow 1 3000 else if n < -2000 * (d : Int) then fpow 1 (-3000)
    else exp2Fx (n * fxOne * fxOne / ((d : Int) * fxLn2))

def fsigmoid : FV → FV
  | .nan => .nan
  | .inf b => if b then .zero false else fint 1
  | .zero _ => fq 1 2
  | x => finv (fadd (fint 1) (fexp (fneg x)))

def ftanh : FV → FV
  | .nan => .nan
  | .inf b => fint (if b then -1 else 1)
  | .zero b => .zero b
  | x =>
    let e := fexp (fmul (fint 2) (fabs x))
    let t := fdiv (fsub e (fint 1)) (fadd e (fint 1))
    if fisNeg x then fneg t else t

end Sys2Proof.Machine
end

