-- ==== Sys2Proof/Machine/Parts.lean ====
section
/-! DEFINITION. The parts of the state, chapter by chapter: every structure is plain data, and its
default is its value at reset (INVENTORY.md lists each with its rule). -/

namespace Sys2Proof.Machine

/-! ### Pins, start-up, management (chapters 18 to 20) -/

/-- Levels at the pins. `perst` is true while PERST_N is asserted; `pads` are the electrical levels of
MK0 to MK15; `gpio` the levels of GPIO0 to GPIO7. -/
structure Pins where
  pwrok : Bool := true
  perst : Bool := true
  thermtrip : Bool := false
  dramHot : Bool := false
  pads : Nat := 0
  gpio : Nat := 0
  stepOut : Nat := 0
  dirOut : Bool := false
  enOut : Bool := false
  lsync : Nat := 0
  deriving DecidableEq, Repr

/-- A tier B under way, or (not `started`) waiting for Safelight (R339, R340, R359): its cores, what its event brought to
the threshold, the named context, the cause, the members of a knot, position and TAG of the descriptor it names. -/
structure TierBRun where
  mask : Nat
  lanes : List Nat := []
  dev : Bool := false
  ctx : Option Nat := none
  cause : Nat := 0x0A01
  kz : Bool := false
  mem : List Nat := []
  desc : Nat × Nat := (0, 0)
  started : Bool := true
  deriving DecidableEq, Repr, Inhabited

/-- Start-up (R364, R365). `stage`: 0 RESET, 1 a stage from ROM to FIRMWARE is in progress, 6 READY, 7 FAILED. `eyes`
by channel x 18 + k. `tierC` and `tierM` say that the tier is under way. -/
structure Boot where
  stage : Nat := 0
  failCode : Nat := 0
  dramFail : Nat := 0
  stripFail : Nat := 0
  everReady : Bool := false
  tierC : Bool := false
  tierB : List TierBRun := []
  tierM : Bool := false
  eyes : Tab Nat := []
  deriving DecidableEq, Repr

/-- Core voltage and throttling (R368 to R370): the highest VDD_CORE in mV known to have been reached, whether a PMBus
failure has stopped adaptive voltage, and the time of the last cap update. -/
structure Pwr where
  reached : Nat := 750
  avsStop : Bool := false
  capAt : Nat := 0
  deriving DecidableEq, Repr

/-- The debug port (R353 to R359, R386): lock level, DENY, the nonce in force, failures, when the next challenge may be
issued, the result code and data of the last command, the TAP instruction in force, what the last data scan gave, known
words of Safelight's SRAM, the last SMBus answer (none: not acknowledged). -/
structure Dbg where
  lock : Nat := 0
  deny : Bool := false
  nonce : Option Nat := none
  fails : Nat := 0
  blockUntil : Nat := 0
  code : Nat := 0
  data : Nat := 0
  tap : Nat := 0xFF
  tdo : Nat := 0
  sram : Tab (Option Nat) := []
  smb : Option Nat := none
  deriving DecidableEq, Repr

/-- Fuses (R4, R5, R348, R355). -/
structure Fuse where
  speed : Nat := 1
  temp : Nat := 1
  svnMin : Nat := 0
  serial : Nat := 0
  deriving DecidableEq, Repr

/-- One image bank of the flash (R347, R348). -/
structure Bank where
  valid : Bool := false
  svn : Nat := 0
  fwVer : Nat := 0
  handover : Nat := 0
  bytes : List Byte := []
  deriving DecidableEq, Repr

/-- The QSPI flash (R347): two boot selector copies, two banks, the board configuration. -/
structure Flash where
  sel0 : Nat := 0
  sel1 : Nat := 0
  bankA : Bank := {}
  bankB : Bank := {}
  board : Board := {}
  deriving DecidableEq, Repr

/-! ### Salhan rings (chapter 15) -/

/-- A submission ring (R271, R273). -/
structure SubRing where
  base : Nat
  log2 : Nat
  head : Nat := 0
  tail : Nat := 0
  cq : Nat
  prio : Nat
  deriving DecidableEq, Repr, Inhabited

/-- A reply that waits for room in its completion ring, with what follows it (R279, R281). -/
structure Reply where
  sq : Nat
  bytes : List Byte
  write : Bool
  mark : Nat
  add : Nat
  irq : Bool
  deriving DecidableEq, Repr, Inhabited

/-- A completion ring. `wr` and `rd` count the replies written and read since creation. -/
structure CompRing where
  base : Nat
  log2 : Nat
  wr : Nat := 0
  rd : Nat := 0
  vec : Option Nat := none
  wait : List Reply := []
  deriving DecidableEq, Repr, Inhabited

/-- A report record (R290) as it is generated; `rseq` is given by its ring. -/
structure Rec where
  typ : Nat
  lane : Option Nat := none
  rseq : Nat := 0
  cont : Bool := false
  wt : Nat := 0
  dt : Nat := 0
  src : Nat := 0
  ref : Nat := 0
  payload : List Byte := []
  deriving DecidableEq, Repr, Inhabited

inductive RqMode where
  | normal | spilling | dropping
  deriving DecidableEq, Repr, Inhabited

/-- What a dropping ring counts (R296, R297): records by category, verdict groups by code and action. -/
structure Tally where
  first : Nat := 0
  last : Nat := 0
  cats : Tab Nat := []
  codes : Tab Nat := []
  mark : Nat := 0
  reject : Nat := 0
  lanes : Nat := 0
  records : Nat := 0
  deriving DecidableEq, Repr, Inhabited

/-- A report ring. `unread` holds the device time at which each unread record was written. -/
structure RepRing where
  base : Nat
  log2 : Nat
  lanes : Nat
  cats : Nat
  vec : Option Nat := none
  wm : Nat := 0
  hold : Nat := 0
  wr : Nat := 0
  unread : List Nat := []
  rseq : Nat := 0
  mode : RqMode := .normal
  spill : List Rec := []
  tally : Tally := {}
  holdDone : Bool := false
  deriving DecidableEq, Repr, Inhabited

/-- What an accepted command still waits for (the "Completes" column of R286). -/
inductive Await where
  | jobLoad (slot : Nat)
  | jobCommit (slot : Nat)
  | streamClose (slot : Nat)
  | feCapture (id : Nat)
  | feApply (id : Nat)
  | pbPause
  | ctxStop (ctx : Nat)
  | ctxAbort (ctx : Nat)
  | ringClose (group : Nat)
  | sqDelete (sq : Nat) (discarded : Nat)
  | adaptPause (ad : Nat)
  | adaptEval (ad : Nat)
  | adaptClose (ad : Nat)
  | colourCal
  | fwActivate
  | tierB (mask : Nat)
  | copy (src dst len : Nat) (ecc : List (Nat × Bool))
  | fill (dst pattern len : Nat)
  | mgmt
  deriving DecidableEq, Repr, Inhabited

/-- A command accepted and not yet completed. -/
structure Flight where
  c : Cmd
  idx : Nat
  await : Await
  ctxs : List Nat := []
  deriving DecidableEq, Repr, Inhabited

/-- The command processor (R271 to R297). `turn` is the ring last served of each priority (R277). -/
structure Salhan where
  sq : Tab (Option SubRing) := []
  cq : Tab (Option CompRing) := []
  rq : Tab (Option RepRing) := []
  flights : List Flight := []
  turn : Tab Nat := []
  irqs : Tab Nat := []
  deriving DecidableEq, Repr

/-- Safelight (R280, R345, R346, R351, R356). `mgq` is the management queue; `swap` the bank of the FW_ACTIVATE in hand
and `swapAt` the time of its handover; `limit` the watchdog limit in ms since the last kick; `haltAt` when the debug
port halted it. Watchpoints are (address, mask, read and write bits). -/
structure Safelight where
  running : Bool := false
  bank : Nat := 0
  fwVer : Nat := 0
  svn : Nat := 0
  handover : Nat := 0
  mgq : List (Flight × Instr) := []
  swap : Option Nat := none
  swapAt : Option Nat := none
  halted : Bool := false
  haltReq : Bool := false
  haltAt : Nat := 0
  bps : Tab (Option Nat) := []
  wps : Tab (Option (Nat × Nat × Nat)) := []
  lastKick : Nat := 0
  limit : Nat := 50
  deriving DecidableEq, Repr

/-! ### Timing unit, Shutter table, marker outputs (chapter 3) -/

/-- Web time and device time (R55 to R60, R396). `adv` lists the advances of web time, latest first, as
(device time, advance in 1/65,536 line). `frac` is the published fraction F, `rem` the remainder r under DEN (R56, R57). `lvl` are
the commanded marker levels at the last tick, `edge` the time of each output's last commanded edge, `mis` since when an output's
pad has differed from its command and whether that has been raised (R71); `dupB` are the outputs that only copy B commands active
(R74); `lsyncTo` gives the end of each LSYNC pulse (R82). -/
structure Tmu where
  line : Nat := 0
  frac : Nat := 0
  rem : Nat := 0
  lvl : Nat := 0
  edge : Tab Nat := []
  mis : Tab (Option (Nat × Bool)) := []
  dupB : Nat := 0
  lsyncTo : Tab Nat := []
  debt : Nat := 0
  sat : Bool := false
  dt : Nat := 0
  adv : List (Nat × Nat) := []
  zCnt : Nat := 0
  perCnt : Nat := 0
  ill : Nat := 0
  lastTrig : Tab Nat := []
  deriving DecidableEq, Repr

/-- Who holds a Shutter entry (R64, R397). -/
inductive Owner where
  | free | host | lane (n : Nat) | ports | bed
  deriving DecidableEq, Repr, Inhabited

/-- A Shutter entry (R62 to R67): its four words, the content it was armed with, and its pulse. -/
structure Entry where
  w0 : Word := 0
  w1 : Word := 0
  w2 : Word := 0
  w3 : Word := 0
  owner : Owner := .free
  armed : Bool := false
  dev : Bool := false
  typ : Nat := 0
  lane : Nat := 0
  out : Nat := 0
  len : Nat := 0
  par : Nat := 0
  target : Nat := 0
  fired : Bool := false
  asserted : Bool := false
  assertAt : Nat := 0
  deriving DecidableEq, Repr, Inhabited

/-! ### Lanes and objects (chapter 2) -/

inductive LaneSt where
  | stopped | acquiring | running | stopping | outOfService
  deriving DecidableEq, Repr, Inhabited

/-- A copy of a lane's configuration: words 0x04 to 0x10 (R32) and the variables (R34). -/
structure LaneCfg where
  span : Word := 0
  job : Word := 0x400
  markers : Word := 0
  slots : Word := 8
  vars : Tab (List Byte) := []
  deriving DecidableEq, Repr, Inhabited

inductive FieldOutcome where
  | pass | mismatch | unreadable | stale | lowGrade | deviate | notRead
  deriving DecidableEq, Repr, Inhabited

/-- The outcome of one field with what FIELD_DETAIL reports (R293, R294, R399). A patch result carries the two stamps of the
last row its window took (R61). A code result carries the ESTIMATE flag of its grade and the print growth along each axis, for
which R294 has no place (R224, R226, notes/assumptions/44.md). -/
structure FieldOut where
  out : FieldOutcome := .notRead
  degraded : Bool := false
  stampWt : Nat := 0
  stampDt : Nat := 0
  reason : Nat := 0
  a : Nat := 0
  b : Nat := 0
  c : Nat := 0
  d : Nat := 0
  e : Nat := 0
  text : List Byte := []
  estimate : Bool := false
  growth : Int × Int := (0, 0)
  deriving DecidableEq, Repr, Inhabited

/-- An object with its snapshot (R36): `key` is the model's own number of the object in its lane, which never starts again as
`seq` does (notes/assumptions/19.md), `endLine` is origin + object length, `entry` its Shutter entry, `late` says that its deadline
fired first, `regDeg` that its registration is a degraded input (R48). Inputs without an outcome read none. -/
structure Obj where
  key : Nat
  seq : Nat
  regDeg : Bool := false
  origin : Nat
  endLine : Nat
  cfg : LaneCfg
  job : Nat
  img : JobImage := {}
  entry : Option Nat
  late : Bool := false
  lateAt : Nat := 0
  synthetic : Bool := false
  tf : Transform := {}
  fields : Tab (Option FieldOut) := []
  cmp : Option FieldOut := none
  pix : List Nat := []
  cell : List Nat := []
  tiles : List Nat := []
  deriving DecidableEq, Repr, Inhabited

/-- A gap span (R38) in web time: start, end (none while open), cause of LANE_GAP, gate offset in lines,
the output it drives, whether it drives at all (GAP_ACTION), drives now. -/
structure Span where
  start : Nat
  stop : Option Nat := none
  cause : Nat := 0
  gate : Nat := 0
  out : Nat := 0
  drives : Bool := true
  driving : Bool := false
  deriving DecidableEq, Repr, Inhabited

/-- A lane (R32 to R54, R60, R335 to R337). `winDone` says that the last search window before the stop line has closed (R52). -/
structure Lane where
  st : LaneSt := .stopped
  startPend : Bool := false
  stopPend : Bool := false
  startLine : Nat := 0
  stopLine : Nat := 0
  pend : LaneCfg := {}
  act : LaneCfg := {}
  prev : Option (LaneCfg × Nat × Option Nat) := none
  missRun : Nat := 0
  nextSeq : Nat := 0
  nextKey : Nat := 0
  winDone : Bool := false
  lastOrigin : Option Nat := none
  objs : List Obj := []
  entries : List Nat := []
  spanEntry : Option Nat := none
  spans : List Span := []
  encHold : Bool := false
  encFrom : Option Nat := none
  oosHold : Bool := false
  oosAt : Nat := 0
  startedAt : Option Nat := none
  deriving DecidableEq, Repr, Inhabited

inductive JobSt where
  | empty | loading | ready
  deriving DecidableEq, Repr, Inhabited

/-- The adapters bound to a derived job (R251): the model and sites they belong to, their rank and ALPHA, and the BF16 codes of A and
B, site by site in the order of R234. -/
structure Adapters where
  model : Nat
  sites : Nat
  rank : Nat
  alpha : Nat
  codes : List Nat
  deriving DecidableEq, Repr, Inhabited

/-- A job slot (R28 to R31, R101, R103, R251). `ref` is the reference artwork by (y x 65536 + x) x 4 + channel where a
still covers it; `pics` are the stills decoded so far of a job that loads, `bad` says that one of them fails; `poisoned` lists the
tiles marked absent. -/
structure Job where
  st : JobSt := .empty
  img : JobImage := {}
  ref : Tab (Option Nat) := []
  pics : Tab (Option Picture) := []
  bad : Bool := false
  poisoned : List Nat := []
  base : Option Nat := none
  adapters : Option Adapters := none
  deriving DecidableEq, Repr, Inhabited

/-! ### Contexts and marks (chapter 14) -/

inductive CtxSt where
  | free | opened | ready | running | waiting | stopped | faulted
  deriving DecidableEq, Repr, Inhabited

/-- What a WAITING context waits for (R255). -/
inductive CtxWait where
  | mark (m v : Nat)
  | barrier (g : Nat)
  deriving DecidableEq, Repr, Inhabited

/-- A context (R253 to R257, R328). `able` is the time since when its next descriptor has been able to issue (R260). -/
structure Ctx where
  st : CtxSt := .free
  desc : Nat := 0
  prog : Nat := 0
  core : Nat := 0
  cls : Nat := 0
  prio : Nat := 0
  sharedWr : Bool := false
  caption : Bool := false
  privBase : Nat := 0
  privSize : Nat := 0
  shrBase : Nat := 0
  shrSize : Nat := 0
  endMark : Nat := 0
  endAdd : Nat := 0
  wdog : Nat := 0
  tag : Nat := 0
  pc : Nat := 0
  cnt : List Nat := [0, 0, 0, 0]
  stopReq : Bool := false
  held : Bool := false
  deg : Bool := false
  cause : Nat := 0
  wait : Option CtxWait := none
  waitSince : Nat := 0
  prevSt : CtxSt := .ready
  wd : Nat := 0
  lanes : Nat := 0
  owes : List (Nat × Nat × Option Nat) := []
  cap : Caption := {}
  step : Nat := 0
  ended : Bool := false
  ad : Option Nat := none
  sample : Option Nat := none
  able : Option Nat := none
  deriving DecidableEq, Repr, Inhabited

/-- Marks (R258, R259, R326). -/
structure Marks where
  val : Tab Nat := []
  low : Tab Nat := []
  sigs : Tab (List Nat) := []
  extFed : Tab Bool := []
  deriving DecidableEq, Repr

/-! ### Hoist (chapter 14) -/

/-- Hoist budgets (R262 to R270). `act` holds a class's active CFG, CYC, LPE and DRAM words (none: reset), `next` the shadows that
COMMIT took over and the next boundary makes active; keys of `used` and `rr` are class x 64 + core x 8 + unit and core x 8 + unit;
`eff` is EFF at the last boundary (none: the grade's maximum). -/
structure Hoist where
  act : Tab (Option (Nat × Nat × Nat × Nat)) := []
  next : Tab (Option (Nat × Nat × Nat × Nat)) := []
  pend : Bool := false
  period : Nat := 1000
  used : Tab Nat := []
  dram : Tab Nat := []
  past : Tab Bool := []
  eff : Tab (Option Nat) := []
  rr : Tab Nat := []
  lastAt : Nat := 0
  deriving DecidableEq, Repr

/-! ### Sequences, frames, ring groups (chapters 9 and 10) -/

/-- A deferred edit of a page table (R181): SHARE, TRUNCATE, RELEASE, or a close. -/
inductive KvEdit where
  | share (src n : Nat)
  | truncate (n : Nat)
  | release
  | close
  deriving DecidableEq, Repr, Inhabited

/-- A hypothesis of the token search (R185): FP32 score, tokens with confidences, latest first. -/
structure Hyp where
  score : Nat := 0
  toks : List (Nat × Nat) := []
  deriving DecidableEq, Repr, Inhabited

/-- The decode block and the search (R183, R185). -/
structure Decode where
  beam : Nat := 1
  endTok : Nat := 0
  maxTok : Nat := 1
  done : Nat := 0
  logits : Nat := 0
  nextIn : Nat := 0
  v : Nat := 1
  pitch : Nat := 0
  embed : Nat := 0
  tokbuf : Nat := 0
  live : List Hyp := [{}]
  fin : List Hyp := []
  stepNo : Nat := 0
  ended : Bool := false
  waiting : Bool := false
  deriving DecidableEq, Repr, Inhabited

/-- An open sequence (R166 to R185); its key is context x 1,024 + SEQ. `pt` maps blocks to frames. -/
structure Seq where
  paged : Bool := false
  fmt : Nat := 1
  layers : Nat := 1
  kvHeads : Nat := 1
  headDim : Nat := 64
  maxLen : Nat := 64
  region : Nat := 0
  pool : Nat := 0
  sigma : List (Nat × Nat) := []
  scales : Nat := 0
  len : List Nat := []
  bound : Nat := 0
  pt : Tab (Option Nat) := []
  gen : Nat := 0
  inStep : Bool := false
  defer : List KvEdit := []
  steps : Nat := 0
  leader : Nat := 0
  dec : Option Decode := none
  deriving DecidableEq, Repr, Inhabited

/-! ### Cores (chapter 6) -/

/-- A Tray interval of a descriptor in the scoreboard (R122). -/
structure Ival where
  addr : Nat
  len : Nat
  write : Bool
  deriving DecidableEq, Repr, Inhabited

/-- A descriptor issued and incomplete (R122): its bytes, the unit (0 ARRAY, 1 OUTPUT, 2 VEC, 3 LOUPE, 4 DMA,
5 sequencer), its clocks and DRAM bytes, the frames it pins (R177), the append it will commit (R168), the sequence as an ATTN reads it
(`view`), and the group of a RING ATTN (R195). `barrier` is true while it waits at the barrier; `nb` is the NB of its group and `force`
says that FORCE_COARSE was set as it issued (R195, R202); `blks` counts the blocks it processes. `begun` is the core's clock count, as
`Core.cyc` gives it, at the start of its execution, `charged` what its class has been charged so far (R264). A merged array
pass (R187) is a lead entry followed by its partners' entries; `rows` counts the rows of A of each. -/
structure QDesc where
  ctx : Nat
  unit : Nat
  pc : Nat
  tag : Nat := 0
  last : Bool := false
  ivals : List Ival := []
  clocks : Nat := 0
  dram : Nat := 0
  pins : List Nat := []
  app : Option (Nat × Nat × Nat) := none
  group : Option Nat := none
  barrier : Bool := false
  view : Option Seq := none
  nb : Nat := 0
  blks : Nat := 0
  force : Bool := false
  begun : Option Nat := none
  charged : Nat := 0
  rows : Nat := 0
  lead : Bool := true
  bs : List Byte := []
  deriving DecidableEq, Repr, Inhabited

/-- A core (R122, R126, R358): descriptors in issue order, CUR_CTX, frequencies in 50 MHz, the DVFS change,
and the debug halt. -/
structure Core where
  q : List QDesc := []
  cur : Option Nat := none
  freq : Nat := 32
  cap : Nat := 32
  eff : Nat := 32
  pend : Bool := false
  stop : Bool := false
  again : Bool := false
  stopTo : Nat := 32
  waitAt : Nat := 0
  stopAt : Nat := 0
  halted : Bool := false
  haltReq : Bool := false
  stepCtx : Option Nat := none
  stepAt : Nat := 0
  cyc : Nat := 0
  deriving DecidableEq, Repr, Inhabited

/-- The KV page manager (R174 to R179): REF and PIN of frames, hot pages by recency. -/
structure Kv where
  seqs : Tab (Option Seq) := []
  ref : Tab Nat := []
  pin : Tab Nat := []
  hot : List Nat := []
  deriving DecidableEq, Repr

/-- A ring group (R194). -/
structure RGroup where
  start : Nat
  g : Nat
  ctxs : List Nat
  leader : Nat
  part : List Nat
  rbuf : List Nat
  tMax : Nat
  topP : Nat
  winW : Nat
  evtAddr : Nat
  evtMark : Nat
  evtSeq : Nat := 0
  deriving DecidableEq, Repr, Inhabited

/-- The ring manager (R191 to R202). `up` has one bit per link. -/
structure Ring where
  trained : Bool := false
  up : Nat := 0
  retry : Tab Nat := []
  groups : Tab (Option RGroup) := []
  deriving DecidableEq, Repr

/-! ### Caption unit (chapter 11) -/

/-- A resident vocabulary (R204): its extent of the caption area and its header. -/
structure Vocab where
  base : Nat
  size : Nat
  nTok : Nat
  nMerge : Nat
  bytemap : Nat
  tokens : Nat
  strings : Nat
  merges : Nat
  deriving DecidableEq, Repr, Inhabited

/-- A tokeniser stream between buffers (R209): the raw bytes of an unfinished character, the last piece and the
characters still without lookahead, as scalar values; the last Script value seen. -/
structure TokStream where
  tail : List Byte := []
  piece : List Nat := []
  ahead : List Nat := []
  script : Option Nat := none
  deriving DecidableEq, Repr, Inhabited

/-- A repaired byte with the raw position of its character, marked if it begins a replacement (R211, R213). -/
structure RByte where
  b : Byte
  pos : Nat
  rep : Bool
  deriving DecidableEq, Repr, Inhabited

/-- The detokeniser's work for a context (R210 to R213): tokens not yet served, the held raw tail with positions,
the held repaired bytes, the start of every token's bytes, and the text result so far. -/
structure Detok where
  cap : Caption := {}
  queue : List (Nat × Nat) := []
  confs : List Nat := []
  starts : List Nat := []
  raw : Nat := 0
  tail : List (Byte × Nat) := []
  w : List RByte := []
  len : Nat := 0
  repl : Nat := 0
  stop : Option Nat := none
  trunc : Bool := false
  cut : Option Nat := none
  ending : Bool := false
  done : Bool := false
  deriving DecidableEq, Repr, Inhabited

structure CapUnit where
  vocabs : Tab (Option Vocab) := []
  streams : Tab (Option TokStream) := []
  det : Tab (Option Detok) := []
  deriving DecidableEq, Repr

/-! ### Imaging front end (chapter 4) -/

/-- A port's part of a line: awaited, awaited but spoilt by a CRC error, invalid, skipped, or received (R80 to R84). -/
inductive SegSt where
  | waiting | spoilt | invalid | skipped | ok
  deriving DecidableEq, Repr, Inhabited

/-- A port's row segment of one line; `px` are the corrected values of its mapped pixels, band by band. -/
structure Seg where
  st : SegSt := .waiting
  px : List (List Nat) := []
  deriving DecidableEq, Repr, Inhabited

/-- A triggered line with its two stamps (R61); `segs` has one entry for each port triggered, `gen` is the start and the period of
its line generator and `idx` its number since that start (R88). -/
structure Line where
  wt : Nat
  dt : Nat
  gen : Nat × Nat := (0, 0)
  idx : Nat := 0
  segs : Tab (Option Seg) := []
  clamped : Bool := false
  deriving DecidableEq, Repr, Inhabited

/-- A reference capture in progress (R86). Keys of `sums` are pixel x 8 + band. -/
structure Capture where
  id : Nat
  white : Bool
  lines : Nat
  ports : Nat
  got : Tab Nat := []
  sums : Tab Nat := []
  deriving DecidableEq, Repr, Inhabited

/-- n, S1 and S2 of one channel of an accumulator window (R91). -/
structure Stat where
  n : Nat := 0
  s1 : Int := 0
  s2 : Int := 0
  deriving DecidableEq, Repr, Inhabited

/-- An accumulator window (R91, R230): of a lane's patch, or (lane none) of patch `field` of the chart `key`. It carries the stamps of the
last row it took and the web time of its oldest row. -/
structure PatchWin where
  lane : Option Nat
  key : Nat := 0
  stampWt : Nat := 0
  stampDt : Nat := 0
  field : Nat
  x0 : Nat
  x1 : Nat
  top : Nat
  bottom : Nat
  oldest : Option Nat := none
  lab : List Stat := [{}, {}, {}]
  bands : List Stat := []
  stale : Bool := false
  limit : Bool := false
  done : Bool := false
  deriving DecidableEq, Repr, Inhabited

inductive BedSt where
  | idle | moving | slowing | paused | ending | homing
  deriving DecidableEq, Repr, Inhabited

/-- The proof bed (R93 to R95): ramp position, lines done, the end of a group's steps and settle time, whether a pause is
automatic, the groups still to go on the way home, and the group (its time and DIR) that waits for a free Shutter entry. -/
structure Bed where
  st : BedSt := .idle
  want : Option (Nat × Nat) := none
  back : Nat := 0
  ramp : Nat := 0
  pos : Nat := 0
  stepped : Bool := false
  readyAt : Nat := 0
  auto : Bool := false
  deriving DecidableEq, Repr, Inhabited

/-- A stripe row waiting to be written: its stamp, its web time, the device time it carries, its channel bytes. -/
structure StripeRow where
  stamp : Nat
  wt : Nat
  dt : Nat := 0
  valid : Bool
  px : Tab Nat
  deriving DecidableEq, Repr, Inhabited

/-- A raster row on its way into a stripe row, with the channels by raster pixel x 4 + channel; a line generator (start, period) with
the rows of the stripe row it builds (R90). -/
structure AccRow where
  wt : Nat
  dt : Nat
  valid : Bool
  px : Tab Nat
  deriving DecidableEq, Repr, Inhabited

structure StripeAcc where
  gen : Nat × Nat
  rows : List AccRow
  deriving DecidableEq, Repr, Inhabited

/-- A stripe buffer (R160 to R164): rows since enable, V0, the row queue, release counts and stamps by slot,
releases applied and mark values at enable by rotation position, stale stripes with their owned rows. A slot's stamps are the
stamp, the web time and the device time of its row (R61). -/
structure StripeBuf where
  head : Nat := 0
  v0 : Nat := 0
  queue : List StripeRow := []
  counts : Tab Nat := []
  stamps : Tab (Nat × Nat × Nat) := []
  rel : Tab Nat := []
  base : Tab Nat := []
  stale : List (Nat × Nat × Nat) := []
  deriving DecidableEq, Repr, Inhabited

/-- What COLOUR_CAL waits for (R230, R231). -/
structure ChartRun where
  key : Nat
  out : Nat
  patches : List ChartPatch := []
  begun : Bool := false
  deriving DecidableEq, Repr, Inhabited

/-- The front end (R76 to R95). Shading tables by pixel x 8 + band as (B, G); `gen` gives a port's line generator as
(start, period); `stamps` by slot x 8 + port as (web time, device time); `acc` holds the stripe row that each line
generator builds. -/
structure Fe where
  shade : Tab (Nat × Nat) := []
  shadow : Tab (Nat × Nat) := []
  nextId : Nat := 0
  caps : List Capture := []
  applies : List (Nat × Nat) := []
  lines : List Line := []
  gen : Tab (Nat × Nat) := []
  row : Tab Nat := []
  stamps : Tab (Nat × Nat) := []
  acc : List StripeAcc := []
  track : List Nat := [16384, 16384, 16384, 16384, 16384, 16384, 16384, 16384]
  clamped : Bool := false
  sums : Tab Nat := []
  sumLines : Nat := 0
  group : Option (Tab Nat) := none
  wins : List PatchWin := []
  down : Tab Nat := []
  lost : Tab Nat := []
  sysPhase : Nat := 0
  bed : Bed := {}
  sbs : Tab (Option StripeBuf) := []
  badWords : List Nat := []
  charts : List ChartRun := []
  chartKey : Nat := 0
  deriving DecidableEq, Repr

/-! ### Code unit (chapter 12) -/

/-- A code request (R219): its object, field, deadline target and order of arrival. -/
structure CodeReq where
  lane : Nat
  key : Nat
  field : Nat
  target : Nat
  deriving DecidableEq, Repr, Inhabited

structure CodeUnit where
  queue : List CodeReq := []
  busy : Option CodeReq := none
  deriving DecidableEq, Repr

/-! ### Developer unit (chapter 5) -/

/-- An access unit with its stamps (R104), and a prepared frame, which keeps them. -/
structure AccUnit where
  capDt : Nat := 0
  wtDl : Nat := 0
  fid : Nat := 0
  len : Nat := 0
  au : Au := {}
  deriving DecidableEq, Repr, Inhabited

inductive StreamSt where
  | free | opened | skip | closing
  deriving DecidableEq, Repr, Inhabited

/-- A stream slot (R98, R99, R104 to R109). `cur` is the picture in decode with its pipe, `made` counts the frames
queued since open, `raslSkip` says that RASL pictures of the last CRA are discarded, `held` that an adaptation's run
holds the slot (R237). -/
structure Stream where
  st : StreamSt := .free
  held : Bool := false
  jpeg : Bool := false
  qaddr : Nat := 0
  ageMax : Nat := 1
  maxW : Nat := 1
  maxH : Nat := 1
  mark : Nat := 0
  depth : Nat := 2
  low : Nat := 0
  cls : Nat := 3
  queue : List AccUnit := []
  input : List AccUnit := []
  cur : Option (AccUnit × Nat) := none
  made : Nat := 0
  raslSkip : Bool := false
  late : Nat := 0
  skipped : Nat := 0
  deriving DecidableEq, Repr, Inhabited

/-! ### Adaptation (chapter 13) -/

inductive AdSt where
  | opened | training | paused | trained | accepted | rejected
  deriving DecidableEq, Repr, Inhabited

/-- A sample of the set (R236, R237): its crop or JPEG bytes, its label as text and as tokens, a detector sample's class map; `refused`
says that tokenising the label replaced bytes, `poisoned` that its crop was copied from poisoned data. -/
structure AdSample where
  jpeg : Bool := false
  w : Nat := 0
  h : Nat := 0
  crop : List Byte := []
  label : List Byte := []
  map : List Byte := []
  toks : List Nat := []
  refused : Bool := false
  poisoned : Bool := false
  deriving DecidableEq, Repr, Inhabited

/-- A captured object (R236) with the crops and labels of its TEXT fields. -/
structure CapObj where
  lane : Nat
  seq : Nat
  fields : List AdSample := []
  deriving DecidableEq, Repr, Inhabited

/-- The parameter block of R235 and R289; floating-point fields are FP32 codes. -/
structure AdParam where
  seed : Nat := 0
  master : Nat := 0
  decLimit : Nat := 0
  work : Nat := 0
  hostAug : Nat := 0
  laneMask : Nat := 0
  lr : Nat := 0
  lrMin : Nat := 0
  warmup : Nat := 0
  b1 : Nat := 0
  b2 : Nat := 0
  eps : Nat := 0
  wd : Nat := 0
  alpha : Nat := 0
  ainit : Nat := 0
  aug : List Nat := []
  gainMin : Nat := 0
  hold : Nat := 8
  holdMin : Nat := 1
  capObjs : Nat := 1
  gslots : Nat := 2
  srcJob : Nat := 0
  model : Nat := 0
  sites : Nat := 0
  rank : Nat := 4
  epochs : Nat := 1
  augMode : Nat := 0
  batch : Nat := 1
  done : Nat := 0
  noRegress : Bool := false
  deriving DecidableEq, Repr, Inhabited

/-- An adaptation (R232 to R251). theta, m and v are FP32 codes by parameter, `n` the samples fixed by the first run, `t`
the steps completed, `slots` the resolved positions of the open batch, `snap` the snapshot of an evaluation; `fromPause`
says that the evaluated run was PAUSED, `stream` is the decode slot the run holds; `due` keeps objects, by lane, whose capture is
still to come (R236). `buf` is the buffer of MASTER and WORK in use, `gslot` the gradient slot of a position (R244, R245); `bad` lists
(step, sample) of samples whose context faulted (R246). -/
structure Adapt where
  st : AdSt := .opened
  p : AdParam := {}
  theta : List Nat := []
  m : List Nat := []
  v : List Nat := []
  ring : List CapObj := []
  due : List (Nat × Obj) := []
  missed : Nat := 0
  samples : List AdSample := []
  n : Nat := 0
  t : Nat := 0
  slots : Tab (Option SampleRes) := []
  fed : Tab (List Nat) := []
  buf : Nat := 0
  gslot : Tab Nat := []
  bad : List (Nat × Nat) := []
  pausing : Bool := false
  fromPause : Bool := false
  snap : List Nat := []
  evaluating : Bool := false
  stream : Option Nat := none
  deriving DecidableEq, Repr, Inhabited

/-! ### Memory channels (chapter 16) -/

/-- A memory channel (R305, R306, R315, R316, R318, R319): refresh slots since the common start and since start-up, the
end of the present stall in quarters of a ns, banks held (rank x 16 + bank) until a time in quarters of a ns, replays
failed in a row for commands and for bursts, the next burst scrubbed, the last uncorrectable address. -/
structure Chan where
  k : Nat := 0
  slots : Nat := 0
  stallTo : Nat := 0
  banks : Tab Nat := []
  caRow : Nat := 0
  wrRow : Nat := 0
  scrub : Nat := 0
  ueAddr : Nat := 0
  fill : Tab Nat := []
  held : List Nat := []
  deriving DecidableEq, Repr, Inhabited

/-- The six channels: the start of the present refresh pattern, and hot mode (R305, R307). -/
structure Mc where
  t0 : Nat := 0
  hot : Bool := false
  chans : Tab Chan := []
  deriving DecidableEq, Repr

/-! ### Faults (chapter 17) -/

/-- A fault record (R330), as the fields its 4 KiB are written from. -/
structure FaultRec where
  rseq : Nat := 0
  cause : Nat := 0
  tier : Nat := 0
  kz : Bool := false
  ctx : Option Nat := none
  core : Option Nat := none
  lane : Option Nat := none
  tag : Nat := 0
  dt : Nat := 0
  wt : Nat := 0
  epoch : Nat := 0
  descTag : Nat := 0
  pc : Nat := 0
  addr : Nat := 0
  laneMask : Nat := 0
  laneCnt : Nat := 0
  devCnt : Nat := 0
  members : List (Nat × Nat × Nat × Nat × Nat × Nat) := []
  marks : List (Nat × Bool × List Nat × Nat) := []
  cores : List (List Byte) := []
  queues : List (Nat × Nat × Nat × Nat) := []
  deriving DecidableEq, Repr, Inhabited

/-- A context reset queued or in progress (R331, R333 to R336). -/
structure ResetRun where
  ctx : Nat
  active : Bool
  lanes : List Nat := []
  dev : Bool := false
  deriving DecidableEq, Repr, Inhabited

/-- The fault unit (R329 to R344). `clock` counts ns across tier C; `knots` are those of the last scan, at `scanAt`;
`blocked` gives the scan that first found a context behind a full queue. -/
structure Faults where
  ring : Tab FaultRec := []
  head : Nat := 0
  count : Nat := 0
  epoch : Nat := 0
  oos : Bool := false
  oosCause : Nat := 0
  laneN : Nat := 8
  laneS : Nat := 10
  devN : Nat := 32
  devS : Nat := 60
  clock : Nat := 0
  laneEv : Tab (List Nat) := []
  devEv : List Nat := []
  unsupAddr : Nat := 0
  unsupInfo : Nat := 0
  unsupCnt : Nat := 0
  tierM : Nat := 0
  tierB : Nat := 0
  hold : Nat := 0
  resets : List ResetRun := []
  knots : List (List Nat) := []
  scanAt : Nat := 0
  blocked : Tab Nat := []
  deriving DecidableEq, Repr

end Sys2Proof.Machine
end

