-- ==== Sys2Proof/Machine/RegMap.lean ====
section
/-! DEFINITION. The registers of BAR0 (the register tables of every chapter): where each lies, which
bits a write stores, which bits a write of 1 clears, and whether a read is computed (`live`). -/

namespace Sys2Proof.Machine

/-- A register, or `n` of them `stride` bytes apart. `rw` are the bits a write stores, `w1c` those a 1
clears (R10). `live` registers are computed at a read from other state. -/
structure RegRow where
  base : Nat
  stride : Nat
  n : Nat
  rw : Nat
  w1c : Nat
  live : Bool
  deriving DecidableEq, Repr

def regRows0 : List RegRow :=
  [
   ⟨0x0, 0x4, 1, 0x0, 0x0, true⟩, -- MGT_ID (R5)
   ⟨0x4, 0x4, 1, 0x0, 0xF, false⟩, -- MGT_STATUS (18 Registers)
   ⟨0x8, 0x4, 1, 0x0, 0x0, false⟩, -- MGT_STATUS_CNT (R11)
   ⟨0x10, 0x4, 1, 0x0, 0x0, false⟩, -- MGT_HEARTBEAT (R346)
   ⟨0x14, 0x4, 1, 0x0, 0x0, true⟩, -- MGT_FW (R348)
   ⟨0x18, 0x4, 1, 0x0, 0x0, true⟩, -- MGT_BANK (18 Registers)
   ⟨0x1C, 0x4, 1, 0x3FF, 0x0, false⟩, -- MGT_WDOG_CFG (R346)
   ⟨0x20, 0x4, 1, 0x0, 0x0, true⟩, -- MGT_BOOT (R364, R365)
   ⟨0x24, 0x4, 1, 0x0, 0x0, true⟩, -- MGT_TEMP (19 Registers)
   ⟨0x28, 0x4, 1, 0xFF, 0x0, false⟩, -- MGT_THERM_CFG (R370)
   ⟨0x2C, 0x4, 1, 0x80000000, 0x0, false⟩, -- MGT_AVS (R368)
   ⟨0x30, 0x4, 1, 0x0, 0x7, false⟩, -- MGT_PWR_STATUS (19 Registers)
   ⟨0x34, 0x4, 1, 0x0, 0x0, false⟩, -- MGT_PWR_STATUS_CNT (R11)
   ⟨0x38, 0x4, 1, 0x0, 0x0, false⟩, -- MGT_PWR (19 Registers)
   ⟨0x40, 0x4, 1, 0xFFFF, 0x0, false⟩, -- MGT_GPIO_CTRL (R391)
   ⟨0x44, 0x4, 1, 0x0, 0x0, true⟩, -- MGT_GPIO_IN (R391)
   ⟨0x80, 0x4, 12, 0x0, 0x0, false⟩, -- MGT_TSENS (19 Registers)
   ⟨0x10100, 0x4, 1, 0xFF, 0x0, false⟩, -- PCIE_APT_BASE (R20)
   ⟨0x20000, 0x4, 1, 0x3, 0x0, false⟩, -- TMU_CTRL (R55, R56)
   ⟨0x20004, 0x4, 1, 0x0, 0xF7, false⟩, -- TMU_STATUS (03 Register summary)
   ⟨0x20008, 0x4, 1, 0x0, 0x0, false⟩, -- TMU_STATUS_CNT (R11)
   ⟨0x20010, 0x4, 1, 0xFFFFF0F, 0x0, false⟩, -- TMU_ENC_CFG (03 Encoder inputs)
   ⟨0x20014, 0x4, 1, 0xFFFFFFFF, 0x0, false⟩, -- TMU_DIV (R56, R57)
   ⟨0x20018, 0x4, 1, 0xFFFFFF, 0x0, false⟩] -- TMU_ZCOUNT (R60)

def regRows1 : List RegRow :=
  [
   ⟨0x20020, 0x4, 1, 0x0, 0x0, true⟩, -- TMU_WT_LO (R55)
   ⟨0x20024, 0x4, 1, 0x0, 0x0, true⟩, -- TMU_WT_HI (R55)
   ⟨0x20028, 0x4, 1, 0xFFFFFFFF, 0x0, false⟩, -- TMU_WT_SET_LO (R56)
   ⟨0x2002C, 0x4, 1, 0xFFFFFFFF, 0x0, false⟩, -- TMU_WT_SET_HI (R56)
   ⟨0x20030, 0x4, 1, 0x0, 0x0, true⟩, -- TMU_DT_LO (R55)
   ⟨0x20034, 0x4, 1, 0x0, 0x0, true⟩, -- TMU_DT_HI (R55)
   ⟨0x20038, 0x4, 1, 0x0, 0x0, true⟩, -- TMU_REV_DEBT (R57)
   ⟨0x2003C, 0x4, 1, 0x0, 0x0, true⟩, -- TMU_RATE (R396)
   ⟨0x20040, 0x4, 1, 0x7FF, 0x0, false⟩, -- TMU_SH_PART (R64)
   ⟨0x20044, 0x4, 1, 0x0, 0x0, true⟩, -- TMU_SH_FREE (03 Register summary)
   ⟨0x20048, 0x4, 1, 0x0, 0xFFFF, false⟩, -- TMU_MK_FAULT (R71)
   ⟨0x2004C, 0x4, 1, 0x0, 0x0, false⟩, -- TMU_MK_FAULT_CNT (R11)
   ⟨0x20100, 0x4, 16, 0x6FFFFFFF, 0x0, false⟩, -- TMU_MK_CFG (R69)
   ⟨0x20140, 0x4, 1, 0x0, 0x0, true⟩, -- TMU_MK_LEVEL (R401)
   ⟨0x30000, 0x4, 1, 0x3, 0x0, false⟩, -- FLT_CTRL (R340)
   ⟨0x30004, 0x4, 1, 0x0, 0xFF, false⟩, -- FLT_STATUS (17 Registers)
   ⟨0x30008, 0x4, 1, 0x0, 0x0, false⟩, -- FLT_STATUS_CNT (R11)
   ⟨0x3000C, 0x4, 1, 0x0, 0x0, true⟩, -- FLT_REC_HEAD (R329)
   ⟨0x30010, 0x4, 1, 0x0, 0x0, true⟩, -- FLT_REC_CNT (R329)
   ⟨0x30014, 0x4, 1, 0x0, 0x0, true⟩, -- FLT_EPOCH (R341)
   ⟨0x30018, 0x4, 1, 0x0, 0x0, true⟩, -- FLT_DEV (R336)
   ⟨0x30020, 0x4, 1, 0x0, 0x0, true⟩, -- FLT_ESC_LANE (R334)
   ⟨0x30024, 0x4, 1, 0x0, 0x0, true⟩, -- FLT_ESC_DEV (R334)
   ⟨0x30028, 0x4, 1, 0x0, 0x0, true⟩] -- FLT_DEV_CNT (R334)

def regRows2 : List RegRow :=
  [
   ⟨0x30030, 0x4, 1, 0xFFFFFF, 0x0, false⟩, -- FLT_HALYARD (R327, R402)
   ⟨0x30040, 0x4, 1, 0x0, 0x0, true⟩, -- FLT_UNSUP_ADDR_LO (R344)
   ⟨0x30044, 0x4, 1, 0x0, 0x0, true⟩, -- FLT_UNSUP_ADDR_HI (R344)
   ⟨0x30048, 0x4, 1, 0x0, 0x0, true⟩, -- FLT_UNSUP_INFO (R344)
   ⟨0x3004C, 0x4, 1, 0x0, 0x0, true⟩, -- FLT_UNSUP_CNT (R344)
   ⟨0x30050, 0x4, 1, 0x0, 0x0, false⟩, -- FLT_DUP_CNT (R333)
   ⟨0x30054, 0x4, 1, 0x0, 0x0, true⟩, -- FLT_TIERM_CNT (R338)
   ⟨0x30058, 0x4, 1, 0x0, 0x0, true⟩, -- FLT_TIERB_CNT (R339)
   ⟨0x30060, 0x4, 1, 0x0, 0xFFFF, true⟩, -- FLT_MK_HOLD (R342)
   ⟨0x30100, 0x4, 32, 0x0, 0x0, true⟩, -- FLT_LANE_CNT (R334)
   ⟨0x30200, 0x4, 16, 0x3FFFFFF, 0x0, false⟩, -- FLT_WDOG (R328, R402)
   ⟨0x40000, 0x4, 1, 0x0, 0x0, true⟩, -- DBG_STATE (R355)
   ⟨0x40004, 0x4, 1, 0x0, 0x1F, false⟩, -- DBG_STATUS (18 Registers)
   ⟨0x40008, 0x4, 1, 0x0, 0x0, false⟩, -- DBG_STATUS_CNT (R11)
   ⟨0x4000C, 0x4, 1, 0x0, 0x0, true⟩, -- DBG_CTRL (R355)
   ⟨0x50004, 0x4, 1, 0x0, 0x7, false⟩, -- SCH_STATUS (14 Registers)
   ⟨0x50008, 0x4, 1, 0x0, 0x0, false⟩, -- SCH_STATUS_CNT (R11)
   ⟨0x50010, 0x4, 1, 0x3FFF, 0x0, false⟩, -- SCH_CTX_SEL (14 Registers)
   ⟨0x50014, 0x4, 1, 0x0, 0x0, true⟩, -- SCH_CTX_STATE (R255)
   ⟨0x50018, 0x4, 1, 0x0, 0x0, true⟩, -- SCH_CTX_WAIT (14 Registers)
   ⟨0x50020, 0x4, 8, 0x0, 0x0, true⟩, -- SCH_CORE_CNT (14 Registers)
   ⟨0x50040, 0x4, 1, 0x0, 0x0, true⟩, -- SCH_OPEN_CNT (14 Registers)
   ⟨0x50100, 0x4, 1, 0x80FF0FFF, 0x0, false⟩, -- SCH_ADM_CFG (R273)
   ⟨0x50104, 0x4, 1, 0xFFFFFFFF, 0x0, false⟩] -- SCH_ADM_SQ_LO (R273)

def regRows3 : List RegRow :=
  [
   ⟨0x50108, 0x4, 1, 0xFFFFFFFF, 0x0, false⟩, -- SCH_ADM_SQ_HI (R273)
   ⟨0x5010C, 0x4, 1, 0xFFFFFFFF, 0x0, false⟩, -- SCH_ADM_CQ_LO (R273)
   ⟨0x50110, 0x4, 1, 0xFFFFFFFF, 0x0, false⟩, -- SCH_ADM_CQ_HI (R273)
   ⟨0x50120, 0x4, 1, 0x0, 0x3F, false⟩, -- SCH_CP_STATUS (15 Registers)
   ⟨0x50124, 0x4, 1, 0x0, 0x0, false⟩, -- SCH_CP_STATUS_CNT (R11)
   ⟨0x50128, 0x4, 1, 0x0, 0x0, true⟩, -- SCH_MGQ_FILL (R280)
   ⟨0x5012C, 0x4, 1, 0x3FF03FF, 0x0, false⟩, -- SCH_SPILL_CFG (R297)
   ⟨0x50130, 0x4, 1, 0x0, 0x0, true⟩, -- SCH_SPILL_USED (R296)
   ⟨0x50138, 0x4, 1, 0x0, 0x0, false⟩, -- SCH_RPT_UNROUTED (R291)
   ⟨0x50140, 0x4, 16, 0x0, 0x0, true⟩, -- SCH_RQ_STATE (15 Registers)
   ⟨0x60000, 0x4, 1, 0x0, 0x0, true⟩, -- HST_CTRL (R270)
   ⟨0x60004, 0x4, 1, 0x0, 0x3, false⟩, -- HST_STATUS (14 Registers)
   ⟨0x60008, 0x4, 1, 0x0, 0x0, false⟩, -- HST_STATUS_CNT (R11)
   ⟨0x6000C, 0x4, 1, 0xFFFFF, 0x0, false⟩, -- HST_NVQ (R261)
   ⟨0x60010, 0x4, 1, 0x3FFF, 0x0, false⟩, -- HST_PERIOD (R262)
   ⟨0x60018, 0x4, 1, 0x0, 0x0, true⟩, -- HST_PER_LO (14 Registers)
   ⟨0x6001C, 0x4, 1, 0x0, 0x0, true⟩, -- HST_PER_HI (14 Registers)
   ⟨0x60100, 0x20, 16, 0xF0000000, 0x0, false⟩, -- HST_CLS_CFG (R268)
   ⟨0x60104, 0x20, 16, 0x7FF07FF, 0x0, false⟩, -- HST_CLS_CYC (R268)
   ⟨0x60108, 0x20, 16, 0x7FF07FF, 0x0, false⟩, -- HST_CLS_LPE (R268)
   ⟨0x6010C, 0x20, 16, 0x7FF07FF, 0x0, false⟩, -- HST_CLS_DRAM (R268)
   ⟨0x60110, 0x20, 16, 0x0, 0x0, true⟩, -- HST_CLS_STATE (R265)
   ⟨0x60114, 0x20, 16, 0x0, 0x0, true⟩, -- HST_CLS_DRAM_USED (R264)
   ⟨0x60118, 0x20, 16, 0x0, 0x0, false⟩] -- HST_CLS_EXH_CNT (R265)

def regRows4 : List RegRow :=
  [
   ⟨0x70000, 0x4, 1, 0x1, 0x0, false⟩, -- RING_CTRL (R198)
   ⟨0x70004, 0x4, 1, 0x0, 0x7, false⟩, -- RING_STATUS (10 Registers)
   ⟨0x70008, 0x4, 1, 0x0, 0x0, true⟩, -- RING_STATE (R193)
   ⟨0x7000C, 0x4, 1, 0x0, 0x0, false⟩, -- RING_STATUS_CNT (R11)
   ⟨0x70010, 0x4, 1, 0x0, 0x0, false⟩, -- RING_EVT_CNT (R201)
   ⟨0x70020, 0x4, 8, 0x0, 0x0, true⟩, -- RING_LINK (R192)
   ⟨0x70040, 0x4, 8, 0x0, 0x0, true⟩, -- RING_ROUTE (R193)
   ⟨0x80004, 0x4, 1, 0x0, 0xF, false⟩, -- KVM_STATUS (09 Registers)
   ⟨0x80008, 0x4, 1, 0x0, 0x0, false⟩, -- KVM_STATUS_CNT (R11)
   ⟨0x80010, 0x4, 1, 0xC00001FF, 0x0, false⟩, -- KVM_HOT_CFG (R190)
   ⟨0x80014, 0x4, 1, 0x0, 0x0, false⟩, -- KVM_HOT_HIT (09 Registers)
   ⟨0x80018, 0x4, 1, 0x0, 0x0, false⟩, -- KVM_HOT_MISS (09 Registers)
   ⟨0x8001C, 0x4, 1, 0x0, 0x0, false⟩, -- KVM_COW_CNT (R178)
   ⟨0x80020, 0x4, 1, 0x0, 0x0, true⟩, -- KVM_PT_FREE (R175)
   ⟨0x80100, 0x10, 4, 0xBF01FFFF, 0x0, false⟩, -- KVM_POOL_CFG (R174)
   ⟨0x80104, 0x10, 4, 0x3FFFFFF, 0x0, false⟩, -- KVM_POOL_BASE (R174)
   ⟨0x80108, 0x10, 4, 0xFFFFF, 0x0, false⟩, -- KVM_POOL_FIRST (R174)
   ⟨0x8010C, 0x10, 4, 0x1FFFFF, 0x0, false⟩, -- KVM_POOL_COUNT (R174)
   ⟨0x80200, 0x4, 4, 0x0, 0x0, true⟩, -- KVM_POOL_FREE (R176)
   ⟨0x90004, 0x4, 1, 0x0, 0xF, false⟩, -- CAP_STATUS (11 Registers)
   ⟨0x90008, 0x4, 1, 0x0, 0x0, false⟩, -- CAP_STATUS_CNT (R11)
   ⟨0x90010, 0x4, 1, 0xFFFFFFFF, 0x0, false⟩, -- CAP_AREA_BASE_LO (R205)
   ⟨0x90014, 0x4, 1, 0xFFFFFFFF, 0x0, false⟩, -- CAP_AREA_BASE_HI (R205)
   ⟨0x90018, 0x4, 1, 0xFFFF, 0x0, false⟩] -- CAP_AREA_SIZE (R205)

def regRows5 : List RegRow :=
  [
   ⟨0x9001C, 0x4, 1, 0x0, 0x0, true⟩, -- CAP_AREA_FREE (11 Registers)
   ⟨0x90020, 0x4, 1, 0x0, 0x0, false⟩, -- CAP_CACHE_HIT (11 Registers)
   ⟨0x90024, 0x4, 1, 0x0, 0x0, false⟩, -- CAP_CACHE_MISS (11 Registers)
   ⟨0x90028, 0x4, 1, 0x0, 0x0, false⟩, -- CAP_REPL_IN_CNT (11 Registers)
   ⟨0x9002C, 0x4, 1, 0x0, 0x0, false⟩, -- CAP_REPL_OUT_CNT (R213)
   ⟨0x90030, 0x4, 1, 0x0, 0x0, true⟩, -- CAP_TOK_LO (11 Registers)
   ⟨0x90034, 0x4, 1, 0x0, 0x0, true⟩, -- CAP_TOK_HI (11 Registers)
   ⟨0x90038, 0x4, 1, 0x0, 0x0, true⟩, -- CAP_DETOK_LO (11 Registers)
   ⟨0x9003C, 0x4, 1, 0x0, 0x0, true⟩, -- CAP_DETOK_HI (11 Registers)
   ⟨0x90100, 0x4, 16, 0x0, 0x0, true⟩, -- CAP_VSLOT (R204)
   ⟨0x90140, 0x4, 16, 0x0, 0x0, true⟩, -- CAP_VMRG (11 Registers)
   ⟨0xA0000, 0x4, 1, 0x1FF, 0x0, false⟩, -- CODE_CFG (R220, 12 Registers)
   ⟨0xA0004, 0x4, 1, 0x0, 0xF, false⟩, -- CODE_STATUS (12 Registers)
   ⟨0xA0008, 0x4, 1, 0x0, 0x0, false⟩, -- CODE_STATUS_CNT (R11)
   ⟨0xA000C, 0x4, 1, 0x0, 0x0, true⟩, -- CODE_QFILL (R219)
   ⟨0xA0010, 0x4, 1, 0x0, 0x0, true⟩, -- CODE_DEC_LO (12 Registers)
   ⟨0xA0014, 0x4, 1, 0x0, 0x0, true⟩, -- CODE_DEC_HI (12 Registers)
   ⟨0xA0018, 0x4, 1, 0x0, 0x0, false⟩, -- CODE_RS_CORR_CNT (R220)
   ⟨0xA001C, 0x4, 1, 0x0, 0x0, true⟩, -- CODE_AIVER (R221)
   ⟨0xB0000, 0x4, 1, 0x1FF0000, 0x0, false⟩, -- DEV_CFG (R102)
   ⟨0xB0004, 0x4, 1, 0x0, 0x3F, false⟩, -- DEV_STATUS (05 Registers)
   ⟨0xB0008, 0x4, 1, 0x0, 0x0, false⟩, -- DEV_STATUS_CNT (R11)
   ⟨0xB0010, 0x4, 1, 0x0, 0x0, false⟩, -- DEV_HOT_HIT (R102)
   ⟨0xB0014, 0x4, 1, 0x0, 0x0, false⟩] -- DEV_HOT_MISS (R102)

def regRows6 : List RegRow :=
  [
   ⟨0xB0018, 0x4, 1, 0x0, 0x0, true⟩, -- DEV_PIX_LO (05 Registers)
   ⟨0xB001C, 0x4, 1, 0x0, 0x0, true⟩, -- DEV_PIX_HI (05 Registers)
   ⟨0xB0100, 0x10, 32, 0x0, 0x0, true⟩, -- DEV_ST_STATE (R98)
   ⟨0xB0104, 0x10, 32, 0x0, 0x0, true⟩, -- DEV_ST_LATE (05 Registers)
   ⟨0xB0108, 0x10, 32, 0x0, 0x0, true⟩, -- DEV_ST_SKIP (05 Registers)
   ⟨0xC0000, 0x4, 1, 0xFFFFFFFE, 0x0, false⟩, -- FE_CFG (04 Registers)
   ⟨0xC0004, 0x4, 1, 0x0, 0x7, false⟩, -- FE_STATUS (04 Registers)
   ⟨0xC0008, 0x4, 1, 0x0, 0x0, false⟩, -- FE_STATUS_CNT (R11)
   ⟨0xC000C, 0x4, 1, 0x800000FF, 0x0, false⟩, -- FE_SYSREF (R82)
   ⟨0xC0010, 0x4, 1, 0x83FFFFFF, 0x0, false⟩, -- FE_TRACK_CFG (R87)
   ⟨0xC0014, 0x4, 1, 0x7FF, 0x0, false⟩, -- FE_TRACK_W (R87)
   ⟨0xC0018, 0x4, 1, 0xFFF, 0x0, false⟩, -- FE_CIE_SEL (R89)
   ⟨0xC0020, 0x4, 12, 0xFFFF, 0x0, false⟩, -- FE_MAT (R89)
   ⟨0xC0050, 0x4, 1, 0xFFFFFF00, 0x0, false⟩, -- FE_RASTER_BASE_LO (R90)
   ⟨0xC0054, 0x4, 1, 0xFFFFFFFF, 0x0, false⟩, -- FE_RASTER_BASE_HI (R90)
   ⟨0xC0058, 0x4, 1, 0xFFFFFF, 0x0, false⟩, -- FE_RASTER_LINES (R90)
   ⟨0xC005C, 0x4, 1, 0x0, 0x0, false⟩, -- FE_DEAD_CNT (R86)
   ⟨0xC0060, 0x4, 1, 0x0, 0x0, false⟩, -- FE_PATCH_NOWIN (R92)
   ⟨0xC0070, 0x4, 1, 0xBFFFFFFF, 0x0, false⟩, -- FE_PB_CFG (R93)
   ⟨0xC0074, 0x4, 1, 0xFFFF, 0x0, false⟩, -- FE_PB_EXPOSE (R93)
   ⟨0xC0078, 0x4, 1, 0xFFFFFF, 0x0, false⟩, -- FE_PB_LINES (R95)
   ⟨0xC007C, 0x4, 1, 0x0, 0x0, true⟩, -- FE_PB_POS (04 Registers)
   ⟨0xD0000, 0x4, 1, 0x0, 0x3, false⟩, -- DRK_STATUS (16 Registers)
   ⟨0xD0004, 0x4, 1, 0x0, 0x0, false⟩] -- DRK_STATUS_CNT (R11)

def regRows7 : List RegRow :=
  [
   ⟨0xD0008, 0x4, 1, 0x0, 0x0, false⟩, -- DRK_CE_CNT (R321)
   ⟨0xD000C, 0x4, 1, 0x0, 0x0, false⟩, -- DRK_UE_OFS (R321)
   ⟨0xD1000, 0x40, 4, 0x87FFFFFF, 0x0, false⟩, -- DRK_SB_CTRL (R160)
   ⟨0xD1004, 0x40, 4, 0x3FFFFFF, 0x0, false⟩, -- DRK_SB_BASE (R160)
   ⟨0xD1008, 0x40, 4, 0xFFFF03FF, 0x0, false⟩, -- DRK_SB_GEOM (R160)
   ⟨0xD100C, 0x40, 4, 0xFFFFFFFF, 0x0, false⟩, -- DRK_SB_PIX (R160)
   ⟨0xD1010, 0x40, 4, 0xFFFFFFFF, 0x0, false⟩, -- DRK_SB_MARKS (R161)
   ⟨0xD1014, 0x40, 4, 0x0, 0x0, true⟩, -- DRK_SB_RDY0_LO (R161)
   ⟨0xD1018, 0x40, 4, 0x0, 0x0, true⟩, -- DRK_SB_RDY0_HI (R161)
   ⟨0xD101C, 0x40, 4, 0x0, 0x0, true⟩, -- DRK_SB_HEAD (08 Registers)
   ⟨0xD1020, 0x40, 4, 0x0, 0xF, false⟩, -- DRK_SB_STATUS (08 Registers)
   ⟨0xD1024, 0x40, 4, 0x0, 0x0, false⟩, -- DRK_SB_STATUS_CNT (R11)
   ⟨0xD1028, 0x40, 4, 0x0, 0x0, false⟩, -- DRK_SB_STALE_CNT (R163)
   ⟨0xD102C, 0x40, 4, 0x0, 0x0, true⟩, -- DRK_SB_OLDEST (08 Registers)
   ⟨0x100000, 0x10000, 8, 0xFFFFFF87, 0x0, false⟩, -- SP_CFG (R78)
   ⟨0x100004, 0x10000, 8, 0x3FFFFFFF, 0x0, false⟩, -- SP_PIX (R78)
   ⟨0x100008, 0x10000, 8, 0xFFFF, 0x0, false⟩, -- SP_CROP (R78)
   ⟨0x10000C, 0x10000, 8, 0xFFFFFFFF, 0x0, false⟩, -- SP_LINE (R78)
   ⟨0x100010, 0x10000, 8, 0x0, 0x7F, false⟩, -- SP_STATUS (04 Registers)
   ⟨0x100014, 0x10000, 8, 0x0, 0x0, false⟩, -- SP_STATUS_CNT (R11)
   ⟨0x100018, 0x10000, 8, 0x0, 0x0, false⟩, -- SP_CRC_CNT (R84)
   ⟨0x10001C, 0x10000, 8, 0x0, 0x0, true⟩, -- SP_LOCK (04 Registers)
   ⟨0x100020, 0x10000, 8, 0x0, 0x0, true⟩, -- SP_RATE (R77)
   ⟨0x180000, 0x10000, 6, 0x0, 0x0, true⟩] -- MC_CFG (R299)

def regRows8 : List RegRow :=
  [
   ⟨0x180004, 0x10000, 6, 0x0, 0x1FF, false⟩, -- MC_STATUS (16 Registers)
   ⟨0x180008, 0x10000, 6, 0x0, 0x0, false⟩, -- MC_STATUS_CNT (R11)
   ⟨0x180010, 0x10000, 6, 0x8000001F, 0x0, false⟩, -- MC_REF_CFG (R305)
   ⟨0x180014, 0x10000, 6, 0xFFFF007F, 0x0, false⟩, -- MC_ARB (R309)
   ⟨0x180020, 0x10000, 6, 0x0, 0x0, true⟩, -- MC_BXOR0 (R304)
   ⟨0x180024, 0x10000, 6, 0x0, 0x0, true⟩, -- MC_BXOR1 (R304)
   ⟨0x180028, 0x10000, 6, 0x0, 0x0, true⟩, -- MC_BXOR2 (R304)
   ⟨0x18002C, 0x10000, 6, 0x0, 0x0, true⟩, -- MC_BXOR3 (R304)
   ⟨0x180030, 0x10000, 6, 0x0, 0x0, false⟩, -- MC_CE_CNT (R318)
   ⟨0x180034, 0x10000, 6, 0x0, 0x0, false⟩, -- MC_UE_CNT (R318)
   ⟨0x180038, 0x10000, 6, 0x0, 0x0, true⟩, -- MC_UE_ADDR_LO (R318)
   ⟨0x18003C, 0x10000, 6, 0x0, 0x0, true⟩, -- MC_UE_ADDR_HI (R318)
   ⟨0x180040, 0x10000, 6, 0x0, 0x0, false⟩, -- MC_RETRY_CNT (R316)
   ⟨0x180044, 0x10000, 6, 0x0, 0x0, false⟩, -- MC_PENNANT_CNT (R312)
   ⟨0x180048, 0x10000, 6, 0x0, 0x0, false⟩, -- MC_RT_OVF_CNT (R313)
   ⟨0x18004C, 0x10000, 6, 0x0, 0x0, false⟩, -- MC_NEI_CNT (R315)
   ⟨0x180050, 0x10000, 6, 0x800000FF, 0x0, false⟩, -- MC_SCRUB_CFG (R319)
   ⟨0x180054, 0x10000, 6, 0x0, 0x0, true⟩, -- MC_SCRUB_POS (R319)
   ⟨0x180080, 0x10000, 6, 0x0, 0x0, true⟩, -- MC_EYE0 (R301)
   ⟨0x180084, 0x10000, 6, 0x0, 0x0, true⟩, -- MC_EYE1 (R301)
   ⟨0x180088, 0x10000, 6, 0x0, 0x0, true⟩, -- MC_EYE2 (R301)
   ⟨0x18008C, 0x10000, 6, 0x0, 0x0, true⟩, -- MC_EYE3 (R301)
   ⟨0x180090, 0x10000, 6, 0x0, 0x0, true⟩, -- MC_EYE4 (R301)
   ⟨0x180094, 0x10000, 6, 0x0, 0x0, true⟩] -- MC_EYE5 (R301)

def regRows9 : List RegRow :=
  [
   ⟨0x180098, 0x10000, 6, 0x0, 0x0, true⟩, -- MC_EYE6 (R301)
   ⟨0x18009C, 0x10000, 6, 0x0, 0x0, true⟩, -- MC_EYE7 (R301)
   ⟨0x1800A0, 0x10000, 6, 0x0, 0x0, true⟩, -- MC_EYE8 (R301)
   ⟨0x1800A4, 0x10000, 6, 0x0, 0x0, true⟩, -- MC_EYE9 (R301)
   ⟨0x1800A8, 0x10000, 6, 0x0, 0x0, true⟩, -- MC_EYE10 (R301)
   ⟨0x1800AC, 0x10000, 6, 0x0, 0x0, true⟩, -- MC_EYE11 (R301)
   ⟨0x1800B0, 0x10000, 6, 0x0, 0x0, true⟩, -- MC_EYE12 (R301)
   ⟨0x1800B4, 0x10000, 6, 0x0, 0x0, true⟩, -- MC_EYE13 (R301)
   ⟨0x1800B8, 0x10000, 6, 0x0, 0x0, true⟩, -- MC_EYE14 (R301)
   ⟨0x1800BC, 0x10000, 6, 0x0, 0x0, true⟩, -- MC_EYE15 (R301)
   ⟨0x1800C0, 0x10000, 6, 0x0, 0x0, true⟩, -- MC_EYE16 (R301)
   ⟨0x1800C4, 0x10000, 6, 0x0, 0x0, true⟩, -- MC_EYE17 (R301)
   ⟨0x200000, 0x20000, 8, 0x1, 0x0, false⟩, -- EN_CTRL (06 Registers)
   ⟨0x200004, 0x20000, 8, 0x0, 0x3F, false⟩, -- EN_STATUS (06 Registers)
   ⟨0x200008, 0x20000, 8, 0x0, 0x0, false⟩, -- EN_STATUS_CNT (R11)
   ⟨0x200010, 0x20000, 8, 0xFF, 0x0, true⟩, -- EN_DVFS (R126)
   ⟨0x200014, 0x20000, 8, 0x0, 0x0, true⟩, -- EN_FREQ (R126, R370)
   ⟨0x200018, 0x20000, 8, 0x0, 0x0, true⟩, -- EN_CYC_LO (06 Registers)
   ⟨0x20001C, 0x20000, 8, 0x0, 0x0, true⟩, -- EN_CYC_HI (06 Registers)
   ⟨0x200020, 0x20000, 8, 0x0, 0x0, true⟩, -- EN_MAC_LO (06 Registers)
   ⟨0x200024, 0x20000, 8, 0x0, 0x0, true⟩, -- EN_MAC_HI (06 Registers)
   ⟨0x200028, 0x20000, 8, 0x0, 0x0, false⟩, -- EN_TRAY_CE_CNT (R116)
   ⟨0x20002C, 0x20000, 8, 0x0, 0x0, true⟩, -- EN_CUR_CTX (06 Registers)
   ⟨0x200030, 0x20000, 8, 0x0, 0x0, true⟩] -- EN_SB_FILL (R122)

def regRows10 : List RegRow :=
  [
   ⟨0x200034, 0x20000, 8, 0x0, 0x0, false⟩, -- EN_ACC_SAT_CNT (R112)
   ⟨0x200038, 0x20000, 8, 0x0, 0x0, false⟩, -- EN_OUT_SAT_CNT (R132)
   ⟨0x300000, 0x10000, 8, 0x1, 0x0, false⟩, -- LPE_CTRL (09 Registers)
   ⟨0x300004, 0x10000, 8, 0x0, 0xF, false⟩, -- LPE_STATUS (09 Registers)
   ⟨0x300008, 0x10000, 8, 0x0, 0x0, false⟩, -- LPE_STATUS_CNT (R11)
   ⟨0x30000C, 0x10000, 8, 0x0, 0x0, false⟩, -- LPE_ATTN_CNT (09 Registers)
   ⟨0x300010, 0x10000, 8, 0x0, 0x0, false⟩, -- LPE_BLK_CNT (09 Registers)
   ⟨0x300014, 0x10000, 8, 0x0, 0x0, false⟩, -- LPE_STEP_CNT (09 Registers)
   ⟨0x500000, 0x4, 2048, 0xFFFFFFFF, 0x0, false⟩, -- FE_LUT0 (R89)
   ⟨0x502000, 0x4, 1, 0xFFFF, 0x0, false⟩, -- FE_LUT0, the word of entry 4,096 (R9, R89)
   ⟨0x502004, 0x4, 2048, 0xFFFFFFFF, 0x0, false⟩, -- FE_LUT1 (R89)
   ⟨0x504004, 0x4, 1, 0xFFFF, 0x0, false⟩, -- FE_LUT1, the word of entry 4,096 (R9, R89)
   ⟨0x504008, 0x4, 2048, 0xFFFFFFFF, 0x0, false⟩, -- FE_LUT2 (R89)
   ⟨0x506008, 0x4, 1, 0xFFFF, 0x0, false⟩, -- FE_LUT2, the word of entry 4,096 (R9, R89)
   ⟨0x50600C, 0x4, 2048, 0xFFFFFFFF, 0x0, false⟩, -- FE_LUT3 (R89)
   ⟨0x50800C, 0x4, 1, 0xFFFF, 0x0, false⟩, -- FE_LUT3, the word of entry 4,096 (R9, R89)
   ⟨0x510000, 0x4, 256, 0xFFFFFFFF, 0x0, false⟩, -- FE_RAMP (R93)
   ⟨0x520000, 0x4, 256, 0xFFFF, 0x0, false⟩] -- CODE_REFLTAB (12 Grade estimates)

/-- Every register of BAR0 but the array windows. -/
def regRows : List RegRow :=
  regRows0 ++ regRows1 ++ regRows2 ++ regRows3 ++ regRows4 ++ regRows5 ++ regRows6 ++ regRows7 ++ regRows8 ++ regRows9 ++ regRows10

/-- The row of the register at offset `off`, if one is allocated there. -/
def findReg (off : Nat) : Option RegRow :=
  regRows.find? (fun r => decide (r.base ≤ off) && decide ((off - r.base) % r.stride = 0) && decide ((off - r.base) / r.stride < r.n))

def resetRegs0 : Tab Word :=
  [(0x1C, 0x32), (0x28, 0x5F), (0x2C, 0x800002EE), (0x20010, 0x440502),
   (0x20014, 0x10001), (0x20040, 0x40), (0x30000, 0x1), (0x30030, 0xC8),
   (0x30200, 0x2710), (0x30204, 0x4E20), (0x30208, 0x186A0), (0x3020C, 0x186A0),
   (0x30210, 0xF4240), (0x30214, 0xF4240), (0x30218, 0xF4240), (0x3021C, 0xF4240),
   (0x30220, 0xF4240), (0x30224, 0xF4240), (0x30228, 0xF4240), (0x3022C, 0xF4240),
   (0x30230, 0xF4240), (0x30234, 0xF4240), (0x30238, 0xF4240), (0x3023C, 0xF4240),
   (0x50100, 0x660000), (0x5012C, 0x2800080), (0x6000C, 0x8000), (0x60010, 0x3E8),
   (0x60100, 0xD0000000), (0x60104, 0x19A019A), (0x60108, 0x660066), (0x6010C, 0xFC00FC)]

def resetRegs1 : Tab Word :=
  [(0x60120, 0x90000000), (0x60124, 0x4000100), (0x60128, 0x4000200), (0x6012C, 0x480007E),
   (0x60140, 0xA0000000), (0x60144, 0x20000CD), (0x60148, 0x20000CD), (0x6014C, 0x180007E),
   (0x60160, 0xA0000000), (0x60164, 0x4000000), (0x6016C, 0x3000054), (0x60180, 0xA0000000),
   (0x60184, 0x4000033), (0x60188, 0x4000066), (0x6018C, 0x3000054), (0x601A0, 0xB0000000),
   (0x601A4, 0x4000014), (0x601AC, 0x100000A), (0x601C0, 0x20000000), (0x601E0, 0x20000000),
   (0x60200, 0x20000000), (0x60220, 0x20000000), (0x60240, 0x20000000), (0x60260, 0x20000000),
   (0x60280, 0x20000000), (0x602A0, 0x20000000), (0x602C0, 0x20000000), (0x602E0, 0x20000000),
   (0x80010, 0x40), (0xA0000, 0xA), (0xB0000, 0x400000), (0xC0000, 0xEA600106)]

def resetRegs2 : Tab Word :=
  [(0xC0010, 0x800000), (0xD1000, 0x3F), (0xD1008, 0x2000000), (0xD1040, 0x3F),
   (0xD1048, 0x2000000), (0xD1080, 0x3F), (0xD1088, 0x2000000), (0xD10C0, 0x3F),
   (0xD10C8, 0x2000000), (0x100000, 0x3), (0x110000, 0x3), (0x120000, 0x3),
   (0x130000, 0x3), (0x140000, 0x3), (0x150000, 0x3), (0x160000, 0x3),
   (0x170000, 0x3), (0x180010, 0xB), (0x180014, 0x14C80010), (0x180050, 0x80000018),
   (0x190010, 0xB), (0x190014, 0x14C80010), (0x190050, 0x80000018), (0x1A0010, 0xB),
   (0x1A0014, 0x14C80010), (0x1A0050, 0x80000018), (0x1B0010, 0xB), (0x1B0014, 0x14C80010),
   (0x1B0050, 0x80000018), (0x1C0010, 0xB), (0x1C0014, 0x14C80010), (0x1C0050, 0x80000018)]

def resetRegs3 : Tab Word :=
  [(0x1D0010, 0xB), (0x1D0014, 0x14C80010), (0x1D0050, 0x80000018), (0x200000, 0x1),
   (0x200010, 0x20), (0x220000, 0x1), (0x220010, 0x20), (0x240000, 0x1),
   (0x240010, 0x20), (0x260000, 0x1), (0x260010, 0x20), (0x280000, 0x1),
   (0x280010, 0x20), (0x2A0000, 0x1), (0x2A0010, 0x20), (0x2C0000, 0x1),
   (0x2C0010, 0x20), (0x2E0000, 0x1), (0x2E0010, 0x20), (0x300000, 0x1),
   (0x310000, 0x1), (0x320000, 0x1), (0x330000, 0x1), (0x340000, 0x1),
   (0x350000, 0x1), (0x360000, 0x1), (0x370000, 0x1)]

/-- The stored registers whose reset value is not 0 (the Reset columns, R268, R328). -/
def resetRegs : Tab Word :=
  resetRegs0 ++ resetRegs1 ++ resetRegs2 ++ resetRegs3

end Sys2Proof.Machine
end

