-- ==== Sys2Proof/Machine/State.lean ====
section
/-! DEFINITION. The state of the CN8160 and its reset. Every default below is the field's value at
reset; `reset` is the instant after PWROK rises with PERST_N still asserted (R362 to R364). -/

namespace Sys2Proof.Machine

/-- No command of this block ends in a fault of the model: a context fault (R324) is a next state. -/
inductive Fault where
  /-- Raised by no meaning; it keeps the type inhabited. Safe. -/
  | never
  deriving DecidableEq, Repr

/-- Why a command has no meaning. -/
inductive Refusal where
  /-- Raised by a dispatch arm of a command that has no meaning yet. Safe. -/
  | notModelled (mnemonic : String)
  deriving DecidableEq, Repr

structure State where
  /-- The commands waiting, first in, first out. -/
  pending : List Instr := []
  /-- The model's own counter behind `Config.freeVal` (notes/assumptions/2.md). -/
  free : Nat := 0
  /-- Stored registers of BAR0 by offset; an unlisted offset holds 0. -/
  regs : Tab Word := resetRegs
  /-- The latched _HI halves, by the offset of the _HI register (R12). -/
  latch : Tab (Option Word) := []
  /-- 64-bit counters, by the offset of their _LO register (R12). -/
  ctr : Tab Nat := []
  /-- The data and the EP bit of the last host read (R12, R320). -/
  busData : Nat := 0
  busPoison : Bool := false
  /-- Byte memory by Salhan address; Trays at their debug addresses (R17, R117, R272, R357). -/
  mem : Mem := []
  /-- Poisoned 64-byte bursts of DRAM and 8-byte words of SRAM, by address (R116, R318, R321). -/
  poison : Tab Bool := []
  pins : Pins := {}
  boot : Boot := {}
  fuse : Fuse := {}
  flash : Flash := {}
  /-- The board configuration in force (R77, R299, R304). -/
  board : Board := {}
  sl : Safelight := {}
  pwr : Pwr := {}
  dbg : Dbg := {}
  sal : Salhan := {}
  tmu : Tmu := {}
  /-- The Shutter table (R62). -/
  sht : Tab Entry := []
  lanes : Tab Lane := []
  jobs : Tab Job := []
  ctxs : Tab Ctx := []
  marks : Marks := {}
  cores : Tab Core := []
  hst : Hoist := {}
  kv : Kv := {}
  ring : Ring := {}
  cap : CapUnit := {}
  fe : Fe := {}
  code : CodeUnit := {}
  /-- The stream slots of the Developer unit (R98). -/
  streams : Tab Stream := []
  /-- The hot-tile area: (job slot, tile), the latest used first (R102). -/
  hot : List (Nat × Nat) := []
  adapts : Tab (Option Adapt) := []
  mc : Mc := {}
  flt : Faults := {}
  deriving DecidableEq, Repr

/-- The machine right after reset. -/
def State.reset : State := {}

end Sys2Proof.Machine
end

