-- ==== Sys2Proof/Machine/Ops.lean ====
section
/-! DEFINITION. The shared operations: registers and flags (R9 to R12), time, memory and regions (R117,
R272), marks (R258), report rings (R290 to R297), completion of commands (R276 to R285). -/

namespace Sys2Proof.Machine

abbrev Res := Host.Outcome State Fault Refusal

/-- A value the spec leaves open, fresh each time (notes/assumptions/2.md). -/
def freshVal (s : State) : Nat := Config.freeVal s.free
def useFresh (s : State) : State := { s with free := s.free + 1 }

/-! ### Registers and flags -/

def rget (s : State) (off : Nat) : Word := tget 0 s.regs off
def rg (s : State) (off : Nat) : Nat := (rget s off).toNat
def rf (s : State) (off hi lo : Nat) : Nat := bits (rg s off) hi lo
def rset (s : State) (off : Nat) (v : Word) : State := { s with regs := tset 0 s.regs off v }
def rsetN (s : State) (off v : Nat) : State := rset s off (BitVec.ofNat 32 v)

/-- A saturating 32-bit counter register (R11). -/
def bump (s : State) (off n : Nat) : State := rsetN s off (satAdd sat32 (rg s off) n)

/-- The companion event counter of a status register (R11). -/
def cntOf (off : Nat) : Nat := if off = 0x70004 then 0x7000C else off + 4

/-- Events set a W1C flag and count, whether or not the flag was set (R11). -/
def flagN (s : State) (off b n : Nat) : State :=
  if n = 0 then s else bump (rsetN s off (putBit (rg s off) b true)) (cntOf off) n

/-- One event of a W1C flag (R11). -/
def flag (s : State) (off b : Nat) : State :=
  bump (rsetN s off (putBit (rg s off) b true)) (cntOf off) 1

/-- Several flags of one register set by one event each. -/
def flags (s : State) (off : Nat) (bs : List Nat) : State := bs.foldl (fun s b => flag s off b) s

def cget (s : State) (off : Nat) : Nat := tget 0 s.ctr off
def cadd (s : State) (off n : Nat) : State := { s with ctr := tset 0 s.ctr off ((cget s off + n) % 2 ^ 64) }

/-- An access logged as unsupported (R344). `bar` is 0, 2 or 4. -/
def logUnsup (s : State) (bar off : Nat) (write : Bool) : State :=
  flag { s with flt := { s.flt with unsupAddr := off, unsupInfo := (if write then 0x80000000 else 0) + bar,
                                    unsupCnt := satAdd sat32 s.flt.unsupCnt 1 } } 0x30004 7

/-! ### Time -/

def den (s : State) : Nat := rf s 0x20014 15 0
def num (s : State) : Nat := rf s 0x20014 31 16

/-- Published web time, in 1/65,536 line (R55, R57). -/
def wt (s : State) : Nat := s.tmu.line * 65536 + s.tmu.frac
def dt (s : State) : Nat := s.tmu.dt

/-- The device runs: power good, no reset pin, no thermal trip (R362, R363, R371). -/
def powered (s : State) : Bool := s.pins.pwrok && !s.pins.perst && !s.pins.thermtrip

/-- The device has reported ready (R364). -/
def isReady (s : State) : Bool := powered s && decide (s.boot.stage = 6)

/-! ### Memory -/

def drkBase : Nat := 0x4000000000
def drkSize : Nat := 0x3000000
def trayBase (core : Nat) : Nat := 0x4200000000 + core * 0x1000000
def traySize : Nat := 0xC00000
def hostBit : Nat := 0x8000000000000000

def dramSize (s : State) : Nat := s.board.chanGib * 6 * 0x40000000

def mrd (s : State) (a : Nat) : Byte := tget 0 s.mem a
def mwr (s : State) (a : Nat) (b : Byte) : State := { s with mem := tset 0 s.mem a b }

def rdBytes (s : State) (a : Nat) : Nat → List Byte
  | 0 => []
  | n + 1 => mrd s a :: rdBytes s (a + 1) n

def memWrite : Mem → Nat → List Byte → Mem
  | m, _, [] => m
  | m, a, b :: t => memWrite (tset 0 m a b) (a + 1) t

/-- Store bytes from `a` upward. -/
def wrBytes (s : State) (a : Nat) (bs : List Byte) : State := { s with mem := memWrite s.mem a bs }

def rdLe (s : State) (a n : Nat) : Nat := leNat (rdBytes s a n)

/-- Where the region of address `a` ends, Trays excluded (R117, R272). -/
def regionEnd (s : State) (a : Nat) : Option Nat :=
  if hostBit ≤ a then (if a < 2 * hostBit then some (2 * hostBit) else none)
  else if a < dramSize s then some (dramSize s)
  else if drkBase ≤ a ∧ a < drkBase + drkSize then some (drkBase + drkSize)
  else none

def rangeOk (s : State) (a len : Nat) : Bool :=
  match regionEnd s a with
  | none => false
  | some e => decide (a + len ≤ e)

/-- A device address range of DRAM or the Darkroom. -/
def devRangeOk (s : State) (a len : Nat) : Bool := decide (a < hostBit) && rangeOk s a len

/-- The unit a poison mark covers: a 64-byte burst of DRAM, an 8-byte word of SRAM (R318, R321). -/
def poisonKey (s : State) (a : Nat) : Nat := if a < dramSize s then a / 64 * 64 else a / 8 * 8

def isPoison (s : State) (a : Nat) : Bool := tget false s.poison (poisonKey s a)

/-- The poisoned units a range reads. -/
def poisonIn (s : State) (a len : Nat) : Option Nat :=
  ((s.poison.filter (fun e => e.2 && decide (poisonKey s a ≤ e.1) && decide (e.1 < a + len))).map (·.1)).head?

/-- A write of a whole unit clears its poison (R318, R321). -/
def clearPoison (s : State) (a len : Nat) : State :=
  { s with poison := s.poison.filter (fun e =>
      !(decide (a ≤ e.1) && decide (e.1 + (if e.1 < dramSize s then 64 else 8) ≤ a + len))) }

/-- Store bytes; the poison of every unit they fill is gone (R116, R318, R321). -/
def storeBytes (s : State) (a : Nat) (bs : List Byte) : State := clearPoison (wrBytes s a bs) a bs.length

/-- Bytes whose content the spec leaves open (notes/assumptions/2.md). -/
def fillFree (s : State) (a n : Nat) : State :=
  let k := s.free
  storeBytes { s with free := k + n } a ((List.range n).map (fun i => BitVec.ofNat 8 (Config.freeVal (k + i))))

/-! ### Parts of the state by number -/

def lane (s : State) (n : Nat) : Lane := tget {} s.lanes n
def setLane (s : State) (n : Nat) (l : Lane) : State := { s with lanes := tset {} s.lanes n l }
def ctx (s : State) (n : Nat) : Ctx := tget {} s.ctxs n
def setCtx (s : State) (n : Nat) (c : Ctx) : State := { s with ctxs := tset {} s.ctxs n c }
def job (s : State) (n : Nat) : Job := tget {} s.jobs n
def setJob (s : State) (n : Nat) (j : Job) : State := { s with jobs := tset {} s.jobs n j }

/-- The slot whose cache a job reads: a derived job shares its source's (R251). -/
def refSlotIn (s : State) : Nat → Nat → Nat
  | 0, k => k
  | n + 1, k => match (job s k).base with | some b => refSlotIn s n b | none => k
def refSlot (s : State) (k : Nat) : Nat := refSlotIn s 64 k

def ent (s : State) (n : Nat) : Entry := tget {} s.sht n
def setEnt (s : State) (n : Nat) (e : Entry) : State := { s with sht := tset {} s.sht n e }
def sq (s : State) (n : Nat) : Option SubRing := tget none s.sal.sq n
def setSq (s : State) (n : Nat) (r : Option SubRing) : State := { s with sal := { s.sal with sq := tset none s.sal.sq n r } }
def cq (s : State) (n : Nat) : Option CompRing := tget none s.sal.cq n
def setCq (s : State) (n : Nat) (r : Option CompRing) : State := { s with sal := { s.sal with cq := tset none s.sal.cq n r } }
def rq (s : State) (n : Nat) : Option RepRing := tget none s.sal.rq n
def setRq (s : State) (n : Nat) (r : Option RepRing) : State := { s with sal := { s.sal with rq := tset none s.sal.rq n r } }

/-! ### Marks -/

def mark (s : State) (m : Nat) : Nat := tget 0 s.marks.val m

/-- The contexts that wait on mark `m` for at most `v` become READY (R255, R258). -/
def wakeOn (s : State) (m v : Nat) : State :=
  { s with ctxs := s.ctxs.map (fun e =>
      match e.2.wait with
      | some (.mark m' v') =>
        if m' = m ∧ v' ≤ v ∧ e.2.st = .waiting then (e.1, { e.2 with st := .ready, wait := none }) else e
      | _ => e) }

/-- The last four distinct contexts that signalled a mark; a fifth makes it externally fed (R326). -/
def noteSignaller (s : State) (m c : Nat) : State :=
  let l := tget [] s.marks.sigs m
  if c ∈ l then s
  else if l.length < 4 then { s with marks := { s.marks with sigs := tset [] s.marks.sigs m (l ++ [c]) } }
  else { s with marks := { s.marks with sigs := tset [] s.marks.sigs m (l.drop 1 ++ [c]),
                                        extFed := tset false s.marks.extFed m true } }

/-- Add to a mark, saturating (R258). -/
def addMark (s : State) (m add : Nat) : State :=
  if add = 0 then s
  else
    let v := mark s m + add
    let s := if v > sat64 then flag s 0x50004 2 else s
    let s := { s with marks := { s.marks with val := tset 0 s.marks.val m (min v sat64) } }
    wakeOn s m (min v sat64)

/-- A signal by a context (R123, R257, R326). -/
def signalCtx (s : State) (c m add : Nat) : State := addMark (noteSignaller s m c) m add

/-- A signal by the host, the front end, a stripe buffer, the Developer unit or the ring manager. -/
def signalExt (s : State) (m add : Nat) : State :=
  addMark { s with marks := { s.marks with extFed := tset false s.marks.extFed m true } } m add

/-! ### Report rings -/

def raiseVec (s : State) (v : Option Nat) : State :=
  match v with
  | none => s
  | some n => { s with sal := { s.sal with irqs := tmod 0 s.sal.irqs n (· + 1) } }

def ringSize (log2 : Nat) : Nat := 2 ^ log2

/-- PHASE of entry number `k` of a ring (R275). -/
def phase (log2 k : Nat) : Nat := if k / ringSize log2 % 2 = 0 then 1 else 0

/-- A record of the event at the present times. -/
def mkRec (s : State) (typ : Nat) (ln : Option Nat) (src ref : Nat) (payload : List Byte) : Rec :=
  { typ := typ, lane := ln, wt := wt s, dt := dt s, src := src, ref := ref, payload := payload }

/-- The 128 bytes of a record (R290). -/
def recBytes (r : Rec) (ph : Nat) (spilled : Bool) : List Byte :=
  leBytes 2 r.typ ++ leBytes 1 (ph + 2 * b2n r.cont + 4 * b2n spilled) ++
  leBytes 1 (r.lane.getD 0xFF) ++ leBytes 4 r.rseq ++ leBytes 8 r.wt ++ leBytes 8 r.dt ++
  leBytes 4 r.src ++ leBytes 4 r.ref ++ padTo 96 r.payload

def rqRoom (r : RepRing) : Nat := ringSize r.log2 - r.unread.length

/-- Write one record into its ring, which has room; the vector follows when WM is reached (R291). -/
def writeRec (s : State) (n : Nat) (x : Rec) (spilled : Bool) : State :=
  match rq s n with
  | none => s
  | some r =>
    let s := wrBytes s (r.base + 128 * (r.wr % ringSize r.log2)) (recBytes x (phase r.log2 r.wr) spilled)
    let u := r.unread ++ [dt s]
    let s := setRq s n (some { r with wr := r.wr + 1, unread := u })
    if u.length = r.wm then raiseVec s r.vec else s

def writeRecs (s : State) (n : Nat) (xs : List Rec) (spilled : Bool) : State :=
  xs.foldl (fun s x => writeRec s n x spilled) s

def spillCap (s : State) : Nat := rf s 0x5012C 9 0 * 512
def spillUsed (s : State) : Nat := (s.sal.rq.map (fun e => match e.2 with | some r => r.spill.length | none => 0)).foldl (· + ·) 0

/-- The ring a record is routed to (R291). -/
def routeFrom (s : State) (cat : Nat) (ln : Option Nat) : List Nat → Option Nat
  | [] => none
  | n :: t =>
    match rq s n with
    | none => routeFrom s cat ln t
    | some r =>
      if r.cats.testBit cat && (match ln with | none => true | some l => r.lanes.testBit l)
      then some n else routeFrom s cat ln t

def route (s : State) (cat : Nat) (ln : Option Nat) : Option Nat := routeFrom s cat ln (List.range 16)

/-- What a verdict group adds to a tally: verdict code, action and lane (R296). -/
structure VerdictInfo where
  code : Nat
  action : Action
  lane : Nat
  deriving DecidableEq, Repr

def tallyAdd (t : Tally) (xs : List Rec) (v : Option VerdictInfo) : Tally :=
  let first := match xs with | [] => 0 | x :: _ => x.rseq
  let last := match xs.getLast? with | none => t.last | some x => x.rseq
  let cats := xs.foldl (fun c x => tset 0 c (x.typ / 256) (satAdd sat32 (tget 0 c (x.typ / 256)) 1)) t.cats
  let t := { t with first := if t.records = 0 then first else t.first, last := last, cats := cats,
                    records := t.records + xs.length }
  match v with
  | none => t
  | some i =>
    { t with codes := tset 0 t.codes i.code (satAdd sat32 (tget 0 t.codes i.code) 1),
             mark := if i.action = .mark then satAdd sat32 t.mark 1 else t.mark,
             reject := if i.action = .reject then satAdd sat32 t.reject 1 else t.reject,
             lanes := putBit t.lanes i.lane true }

def number : Nat → List Rec → List Rec
  | _, [] => []
  | k, x :: t => { x with rseq := k % 2 ^ 32, cont := decide (t ≠ []) } :: number (k + 1) t

/-- Entering SPILLING pauses a proof bed (R94, R296). -/
def bedPauseAuto (s : State) : State :=
  if s.fe.bed.st = .moving then { s with fe := { s.fe with bed := { s.fe.bed with st := .slowing, auto := true } } } else s

/-- Drop a group into the tally of ring `n` (R296). -/
def dropGroup (s : State) (n : Nat) (r : RepRing) (xs : List Rec) (v : Option VerdictInfo) : State :=
  let s := if r.mode = .dropping then s else flag s 0x50120 1
  setRq s n (some { r with mode := .dropping, tally := tallyAdd r.tally xs v })

/-- Spill a group, or drop it where the area has no room (R296). -/
def spillGroup (s : State) (n : Nat) (r : RepRing) (xs : List Rec) (v : Option VerdictInfo) : State :=
  if spillUsed s + xs.length ≤ spillCap s then setRq s n (some { r with mode := .spilling, spill := r.spill ++ xs })
  else dropGroup s n r xs v

/-- A generated group is written, spilled, dropped or found unrouted (R291, R296). -/
def reportGroup (s : State) (xs : List Rec) (v : Option VerdictInfo) : State :=
  match xs with
  | [] => s
  | x :: _ =>
    match route s (x.typ / 256) x.lane with
    | none => flag (bump s 0x50138 xs.length) 0x50120 2
    | some n =>
      match rq s n with
      | none => s
      | some r =>
        let xs := number r.rseq xs
        let r := { r with rseq := r.rseq + xs.length }
        match r.mode with
        | .normal =>
          if xs.length ≤ rqRoom r then writeRecs (setRq s n (some r)) n xs false
          else bedPauseAuto (flag (spillGroup s n r xs v) 0x50120 0)
        | .spilling => spillGroup s n r xs v
        | .dropping => dropGroup s n r xs v

def report (s : State) (typ : Nat) (ln : Option Nat) (src ref : Nat) (payload : List Byte) : State :=
  reportGroup s [mkRec s typ ln src ref payload] none

/-- The TALLY payload (R297). -/
def tallyBytes (t : Tally) : List Byte :=
  leBytes 4 t.first ++ leBytes 4 t.last ++
  ((List.range 8).map (fun c => leBytes 4 (tget 0 t.cats (c + 1)))).flatten ++
  ((List.range 10).map (fun c => leBytes 4 (tget 0 t.codes c))).flatten ++
  leBytes 4 t.mark ++ leBytes 4 t.reject ++ leBytes 4 t.lanes ++ leBytes 4 0

/-- Move spilled records into the ring while it has room (R297). -/
def drainSpill (s : State) (n : Nat) : List Rec → State
  | [] => s
  | x :: t =>
    match rq s n with
    | none => s
    | some r =>
      if rqRoom r = 0 then s
      else drainSpill (writeRec (setRq s n (some { r with spill := t })) n x true) n t

/-- After the spill queue has emptied the ring writes its TALLY or returns to NORMAL (R297). -/
def settleRing (s : State) (n : Nat) : State :=
  match rq s n with
  | none => s
  | some r =>
    if r.spill ≠ [] then s
    else match r.mode with
      | .normal => s
      | .spilling => setRq s n (some { r with mode := .normal })
      | .dropping =>
        if rqRoom r = 0 then s
        else
          let x := { mkRec s 0x0F01 none 0 0 (tallyBytes r.tally) with rseq := r.rseq % 2 ^ 32 }
          writeRec (setRq s n (some { r with mode := .normal, tally := {}, rseq := r.rseq + 1 })) n x false

def drainRing (s : State) (n : Nat) : State :=
  match rq s n with
  | none => s
  | some r => settleRing (drainSpill s n r.spill) n

/-! ### Completion of commands -/

def stOk : Nat := 0x00
def stDeferred : Nat := 0x01
def stBusy : Nat := 0x02
def stBadOpcode : Nat := 0x10
def stBadParam : Nat := 0x11
def stBadState : Nat := 0x12
def stInUse : Nat := 0x13
def stNoResource : Nat := 0x14
def stNotReady : Nat := 0x15
def stUnsupported : Nat := 0x16
def stNotPaged : Nat := 0x17
def stDenied : Nat := 0x18
def stBadSpan : Nat := 0x20
def stLaneOverlap : Nat := 0x21
def stNoMarker : Nat := 0x22
def stDecodeErr : Nat := 0x23
def stCalFail : Nat := 0x24
def stPoisoned : Nat := 0x25
def stBadImage : Nat := 0x26
def stHostErr : Nat := 0x27
def stBadLead : Nat := 0x28
def stAborted : Nat := 0x30
def stOos : Nat := 0x31
def stStarting : Nat := 0x32

/-- Reply written, DONE_MARK signalled, vector raised, in this order (R279). -/
def doReply (s : State) (n : Nat) (r : CompRing) (p : Reply) : State :=
  let s := if p.write then
      setCq (wrBytes s (r.base + 32 * (r.wr % ringSize r.log2))
        (listSet p.bytes 3 (BitVec.ofNat 8 (phase r.log2 r.wr)))) n (some { r with wr := r.wr + 1 })
    else s
  let s := if p.add = 0 then s else signalExt s p.mark p.add
  if p.irq then raiseVec s r.vec else s

def cqRoom (r : CompRing) : Bool := decide (r.wr - r.rd < ringSize r.log2)

/-- Post a reply, or let it wait for room (R281). -/
def postReply (s : State) (n : Nat) (p : Reply) : State :=
  match cq s n with
  | none => if p.add = 0 then s else signalExt s p.mark p.add
  | some r =>
    if p.write && (!cqRoom r || decide (r.wait ≠ [])) then
      flag (setCq s n (some { r with wait := r.wait ++ [p] })) 0x50120 4
    else doReply s n r p

/-- The 32 bytes of a status reply, PHASE aside (R284). -/
def replyBytes (status sqn tag idx head detail result dtime : Nat) : List Byte :=
  leBytes 2 status ++ leBytes 1 sqn ++ leBytes 1 0 ++ leBytes 4 tag ++ leBytes 2 idx ++ leBytes 2 head ++
  leBytes 4 detail ++ leBytes 8 result ++ leBytes 8 dtime

/-- A command completes (R279, R284). -/
def complete (s : State) (f : Flight) (status detail result : Nat) : State :=
  if f.c.dev then s else
  match sq s f.c.sq with
  | none => s
  | some r =>
    let good := decide (status = stOk) || decide (status = stDeferred)
    postReply s r.cq
      { sq := f.c.sq
        bytes := replyBytes status f.c.sq f.c.tag.toNat f.idx r.head detail result (dt s)
        write := !(f.c.quiet && good)
        mark := f.c.doneMark
        add := f.c.doneAdd
        irq := f.c.irq || !good }

/-- Keep an accepted command until its completing event (R286). -/
def defer (s : State) (f : Flight) (a : Await) (ctxs : List Nat) : State :=
  { s with sal := { s.sal with flights := s.sal.flights ++ [{ f with await := a, ctxs := ctxs }] } }

/-- A reply of the ring's waits for room: its command is incomplete (R279, R281). -/
def replyWaits (s : State) (n : Nat) : Bool :=
  s.sal.cq.any (fun e => match e.2 with | some r => r.wait.any (fun p => decide (p.sq = n)) | none => false)

/-- An accepted command of the ring has not completed. -/
def incomplete (s : State) (n : Nat) : Bool := s.sal.flights.any (fun g => decide (g.c.sq = n)) || replyWaits s n

/-- A ring being deleted goes once its accepted commands have completed (R282). -/
def finishDeletes (s : State) : List Flight → State
  | [] => s
  | f :: t =>
    match f.await with
    | .sqDelete n k =>
      if incomplete s n then finishDeletes s t
      else
        finishDeletes (complete (setSq { s with sal := { s.sal with flights := s.sal.flights.filter (fun g => decide (g ≠ f)) } } n none)
          f stOk 0 k) t
    | _ => finishDeletes s t

/-- Complete every command in flight that `p` selects. -/
def completeWhere (s : State) (p : Flight → Bool) (status detail result : Nat) : State :=
  let done := s.sal.flights.filter p
  let s := { s with sal := { s.sal with flights := s.sal.flights.filter (fun f => !p f) } }
  let s := done.foldl (fun s f => complete s f status detail result) s
  finishDeletes s s.sal.flights

def completeAwait (s : State) (a : Await) (status detail result : Nat) : State :=
  completeWhere s (fun f => decide (f.await = a)) status detail result

/-- A ring has a packet that may be accepted now, FENCE apart (R281, R282). -/
def ringOffers (s : State) (n : Nat) : Bool :=
  match sq s n with
  | none => false
  | some r =>
    decide (r.head ≠ r.tail) && (match cq s r.cq with | none => false | some q => decide (q.wait = [])) &&
    !(s.sal.flights.any (fun f => match f.await with | .sqDelete m _ => decide (m = n) | _ => false))

/-- Rings that the arbiter does not pass over: those whose oldest packet waits behind a FENCE are (R278). -/
def offers (s : State) (fenced : List Nat) (n : Nat) : Bool := ringOffers s n && !(fenced.contains n && incomplete s n)

def prioOf (s : State) (n : Nat) : Nat := match sq s n with | some r => r.prio | none => 0

/-- Places from the ring last served of a priority, in the order of the round robin. -/
def turnsFrom (s : State) (n : Nat) : Nat := (n + 255 - tget 255 s.sal.turn (prioOf s n)) % 256

/-- Ring m goes before ring n: a higher PRIO, or an earlier turn within one (R277). -/
def ringFirst (s : State) (m n : Nat) : Bool :=
  decide (prioOf s n < prioOf s m) || (decide (prioOf s n = prioOf s m) && decide (turnsFrom s m < turnsFrom s n))

/-- The arbiter's choice among the rings that offer a packet. -/
def arbiterTakes (s : State) (fenced : List Nat) (n : Nat) : Bool :=
  !(s.sal.sq.any (fun e => offers s fenced e.1 && ringFirst s e.1 n))

/-- The command at the head of its ring may be accepted (R277, R278, R281). -/
def acceptable (s : State) (c : Cmd) : Bool :=
  powered s && ringOffers s c.sq && !(c.fence && incomplete s c.sq) && arbiterTakes s c.fenced c.sq

def advanceHead (s : State) (n : Nat) : State :=
  match sq s n with
  | none => s
  | some r =>
    setSq { s with sal := { s.sal with turn := tset 255 s.sal.turn r.prio n } } n (some { r with head := (r.head + 1) % ringSize r.log2 })

/-- A host-memory access of the command failed (R272). -/
def hostFail (c : Cmd) (as : List Nat) : Bool := c.hostErr && as.any (fun a => decide (hostBit ≤ a))

/-- The offset of the first byte in error: a parameter out of range or a reserved byte (R276). -/
def badByte (chk : List (Bool × Nat)) (rsv : Option Nat) : Option Nat :=
  let b := ((chk.filter (fun e => !e.1)).map (·.2)) ++ rsv.toList
  match b with
  | [] => none
  | x :: t => some (t.foldl min x)

/-- The opcodes of R286. -/
def opcodes : List Nat :=
  [0x00, 0x01, 0x02, 0x03, 0x04, 0x08, 0x09, 0x0A, 0x10, 0x20, 0x21, 0x28, 0x29, 0x2A, 0x30, 0x31, 0x32, 0x38, 0x39, 0x3A,
   0x40, 0x41, 0x42, 0x43, 0x44, 0x45, 0x46] ++
  [0x60, 0x61, 0x62, 0x63, 0x64, 0x65, 0x68, 0x69, 0x6A, 0x6C, 0x6D, 0x70, 0x80, 0x81, 0x82, 0x83, 0x84, 0x85, 0x88, 0x89,
   0xA0, 0xA1, 0xA2, 0xA3, 0xA4, 0xA5, 0xA6, 0xA7, 0xB0, 0xBF]

/-- The packet carries an OPCODE that is not listed. -/
def badOpcode (c : Cmd) : Bool := match c.op with | some x => !opcodes.contains x | none => false

def earlyOp (op : Nat) : Bool := decide (op ≤ 0x1F) || (decide (0x80 ≤ op) && decide (op ≤ 0x85))
def oosOp (op : Nat) : Bool := earlyOp op || (decide (0xB0 ≤ op) && decide (op ≤ 0xBF))

/-- Accept a command packet: the checks of R276, then its effect. A command that cannot be accepted now
leaves the state as it is (R278, R281; notes/assumptions/8.md). -/
def accept (s : State) (c : Cmd) (op : Nat) (chk : List (Bool × Nat)) (body : State → Flight → State) : State :=
  if c.dev then (if isReady s then body s { c := c, idx := 0, await := .mgmt } else s)
  else if acceptable s c then
    match sq s c.sq with
    | none => s
    | some r =>
      let f : Flight := { c := c, idx := r.head, await := .mgmt }
      let s := advanceHead s c.sq
      match badByte chk c.rsv with
      | some d => complete s f (if badOpcode c then stBadOpcode else stBadParam) (if badOpcode c then 0 else d) 0
      | none =>
        if badOpcode c then complete s f stBadOpcode 0 0
        else if !isReady s && !earlyOp op then complete s f stStarting 0 0
        else if s.flt.oos && !oosOp op then complete s f stOos 0 0
        else body s f
  else s

end Sys2Proof.Machine
end

