-- ==== Sys2Proof/Machine/Tensor.lean ====
section
/-! DEFINITION. Tensors in the Tray, the array, the output stage and the vector unit (R111 to R114, R119,
R125, R127 to R141, R398). -/

namespace Sys2Proof.Machine

/-! ### Tray references and operand blocks -/

/-- An operand block (R119). -/
structure Opnd where
  addr : Nat := 0
  scale : Nat := 0
  rows : Nat := 0
  cols : Nat := 0
  pitch : Nat := 0
  fmt : Nat := 0
  rsv : Nat := 0
  deriving DecidableEq, Repr, Inhabited

def le (bs : List Byte) (off n : Nat) : Nat := leNat ((bs.drop off).take n)

def opnd (bs : List Byte) (o : Nat) : Opnd :=
  { addr := le bs o 4, scale := le bs (o + 4) 4, rows := le bs (o + 8) 2, cols := le bs (o + 10) 2,
    pitch := le bs (o + 12) 3, fmt := bits (le bs (o + 15) 1) 3 0, rsv := bits (le bs (o + 15) 1) 7 4 }

def isCB (f : Nat) : Bool := decide (f = 1) || decide (f = 2)
def isFloat (f : Nat) : Bool := decide (3 ≤ f) && decide (f ≤ 6)

/-- Bits of an element of a format (R127). -/
def elemBits (f : Nat) : Nat :=
  if f = 2 then 4 else if f = 5 then 16 else if f = 6 ∨ f = 7 then 32 else 8

def rowBytes (o : Opnd) : Nat := ceilDiv (o.cols * elemBits o.fmt) 8
def extent (o : Opnd) : Nat := (o.rows - 1) * o.pitch + rowBytes o
def codeBytes (o : Opnd) : Nat := o.rows * (o.cols / 32)

/-- The operand block is well formed (R119). -/
def opndOk (o : Opnd) : Bool :=
  decide (o.rsv = 0) && decide (o.fmt ≤ 8) && decide (1 ≤ o.rows) && decide (1 ≤ o.cols) &&
  decide (o.addr % 64 = 0) && decide (o.pitch % 64 = 0) && decide (rowBytes o ≤ o.pitch) &&
  decide (o.addr < 2 ^ 25) && decide (o.scale < 2 ^ 25) &&
  (if isCB o.fmt then decide (o.cols % 32 = 0) else decide (o.scale = 0))

/-- The address of a Tray reference in the windows of a context (R115). -/
def trayAddr (c : Ctx) (ref : Nat) : Nat :=
  trayBase c.core + (if bit ref 24 then c.shrBase else c.privBase) + ref % 2 ^ 24

/-- The extent stays in its window, and a write has the right to it (R115). -/
def windowOk (c : Ctx) (ref len : Nat) (write : Bool) : Bool :=
  let size := if bit ref 24 then c.shrSize else c.privSize
  decide (ref % 2 ^ 24 + len ≤ size) && (!write || !bit ref 24 || c.sharedWr)

def ivals (c : Ctx) (o : Opnd) (write : Bool) : List Ival :=
  ⟨trayAddr c o.addr, extent o, write⟩ ::
  (if isCB o.fmt then [⟨trayAddr c o.scale, codeBytes o, write⟩] else [])

def opndInWindow (c : Ctx) (o : Opnd) (write : Bool) : Bool :=
  windowOk c o.addr (extent o) write && (!isCB o.fmt || windowOk c o.scale (codeBytes o) write)

/-! ### Reading and writing elements -/

/-- The raw code of element (r, i) of an operand at base address `a`. -/
def rawElem (s : State) (a : Nat) (o : Opnd) (r i : Nat) : Nat :=
  let row := a + r * o.pitch
  if o.fmt = 2 then bits (mrd s (row + i / 2)).toNat (if i % 2 = 0 then 3 else 7) (if i % 2 = 0 then 0 else 4)
  else rdLe s (row + i * (elemBits o.fmt / 8)) (elemBits o.fmt / 8)

/-- The integer of a code of an integer or CB format. -/
def intElem (f c : Nat) : Int :=
  if f = 2 then ofTwos 4 c else if f = 7 then ofTwos 32 c else if f = 8 then (c : Int) else ofTwos 8 c

def fmtOf (f : Nat) : Fmt := if f = 3 then e4m3 else if f = 4 then e5m2 else if f = 5 then bf16 else fp32

/-- The value of an element, block codes aside. -/
def valElem (f c : Nat) : FV := if isFloat f then decodeF (fmtOf f) c else fint (intElem f c)

/-- The block code of element (r, i). -/
def blockCode (s : State) (c : Ctx) (o : Opnd) (r i : Nat) : Nat :=
  if isCB o.fmt then (mrd s (trayAddr c o.scale + r * (o.cols / 32) + i / 32)).toNat else 1

/-- Row r of an operand, as exact values with codes applied and no second-level scale (R129). -/
def rowVals (s : State) (c : Ctx) (o : Opnd) (r : Nat) : List FV :=
  (List.range o.cols).map (fun i =>
    let v := valElem o.fmt (rawElem s (trayAddr c o.addr) o r i)
    if isCB o.fmt then (let k := blockCode s c o r i; if k = 0 then .zero false else fmul v (fint k)) else v)

/-- The bytes of a row of raw codes. -/
def packRow (f : Nat) : List Nat → List Byte
  | [] => []
  | [x] => if f = 2 then [BitVec.ofNat 8 (x % 16)] else leBytes (elemBits f / 8) x
  | x :: y :: t =>
    if f = 2 then BitVec.ofNat 8 (x % 16 + 16 * (y % 16)) :: packRow f t
    else leBytes (elemBits f / 8) x ++ packRow f (y :: t)

def writeRow (s : State) (c : Ctx) (o : Opnd) (r : Nat) (codes : List Nat) : State :=
  storeBytes s (trayAddr c o.addr + r * o.pitch) (packRow o.fmt codes)

/-! ### Conversion to a format (R132, R135) -/

/-- The code of a value in a format that is not CB, and whether it saturated or wrote NaN to an integer. -/
def toFmt (f : Nat) (x : FV) : Nat × Bool :=
  if isFloat f then (let (v, b) := roundF (fmtOf f) x; (encodeF (fmtOf f) v, b))
  else if f = 8 then (let (v, b) := toInt 0 255 x; (v.toNat, b))
  else if f = 7 then (let (v, b) := toInt (-2147483648) 2147483647 x; (twos 32 v, b))
  else (let (v, b) := toInt (-128) 127 x; (twos 8 v, b))

def qmax (f : Nat) : Nat := if f = 2 then 7 else 127

/-- The largest magnitude of a block, NaN left out; none for infinity (R135). -/
def blockMax : List FV → Option (Int × Nat) → Option (Int × Nat)
  | [], m => m
  | .inf _ :: _, _ => none
  | .num n d :: t, some (a, b) => blockMax t (if a * d < n.natAbs * (b : Int) then some (n.natAbs, d) else some (a, b))
  | _ :: t, m => blockMax t m

/-- Code and elements of one block, with the number of saturated or NaN elements (R135). -/
def blockCodes (qm : Nat) (ts : List FV) : Nat × List Int × Nat :=
  let c : Nat := match blockMax ts (some (0, 1)) with
    | none => 255
    | some (n, d) => min 255 (ceilDiv n.toNat (d * qm))
  let q (t : FV) : Int × Nat :=
    if c = 0 then (0, if t = .nan then 1 else 0)
    else match fdiv t (fint c) with
      | .nan => (0, 1)
      | .inf b => (if b then -(qm : Int) else qm, 1)
      | .zero _ => (0, 0)
      | .num n d =>
        let k := rhe n d
        if k < -(qm : Int) then (-(qm : Int), 1) else if (qm : Int) < k then (qm, 1) else (k, 0)
  let es := ts.map q
  let qs := es.map (·.1)
  (if qs.all (· = 0) then 0 else c, qs, (es.map (·.2)).foldl (· + ·) 0)

/-- Split a list in blocks of 32 (R129). -/
def blocks32 {α : Type} : Nat → List α → List (List α)
  | 0, _ => []
  | n + 1, l => if l.isEmpty then [] else l.take 32 :: blocks32 n (l.drop 32)

/-- Write one row of values to a CB operand with divisor `sc`; the count is of saturations. -/
def writeCbRow (s : State) (c : Ctx) (o : Opnd) (r : Nat) (sc : FV) (vs : List FV) : State × Nat :=
  let bs := (blocks32 (vs.length / 32 + 1) (vs.map (fun v => fdiv v sc))).map (blockCodes (qmax o.fmt))
  let s := writeRow s c o r ((bs.map (fun b => b.2.1)).flatten.map (twos (if o.fmt = 2 then 4 else 8)))
  let s := storeBytes s (trayAddr c o.scale + r * (o.cols / 32)) (bs.map (fun b => BitVec.ofNat 8 b.1))
  (s, (bs.map (fun b => b.2.2)).foldl (· + ·) 0)

/-- Write one row of values to an operand (stage 6 or a vector result). -/
def writeVals (s : State) (c : Ctx) (o : Opnd) (r : Nat) (sc : FV) (vs : List FV) : State × Nat :=
  if isCB o.fmt then writeCbRow s c o r sc vs
  else
    let es := vs.map (toFmt o.fmt)
    (writeRow s c o r (es.map (·.1)), (es.filter (·.2)).length)

/-! ### The array (R111, R112, R131, R141) -/

/-- The operand pairs of the array (R111): whether the pair is accepted. -/
def pairOk (a b : Nat) : Bool :=
  ((decide (a = 0) || decide (a = 8)) && decide (b = 0)) || (decide (a = 1) && decide (b = 1)) ||
  (decide (a = 1) && decide (b = 2)) || (decide (a = 2) && decide (b = 2)) ||
  ((decide (a = 3) || decide (a = 4)) && (decide (b = 3) || decide (b = 4))) || (decide (a = 5) && decide (b = 5))

def pairKt (a b : Nat) : Nat := if a = 2 ∧ b = 2 then 256 else 128
def pairLw (a b : Nat) : Nat := if a = 1 ∧ b = 2 then 4 else if a = 5 then 16 else 8

def sat48lim : Int := 140737488355327
def sat48 (x : Int) : Int × Nat :=
  if x < -sat48lim then (-sat48lim, 1) else if sat48lim < x then (sat48lim, 1) else (x, 0)

/-- An element entering the array: integer value (or float value) and its block code. -/
structure AElem where
  i : Int
  f : FV
  code : Nat
  deriving DecidableEq, Repr, Inhabited

def aElem (fmt raw code : Nat) : AElem :=
  if isFloat fmt then ⟨0, decodeF (fmtOf fmt) raw, 1⟩ else ⟨intElem fmt raw, .nan, code⟩

def aRow (s : State) (c : Ctx) (o : Opnd) (r : Nat) : List AElem :=
  (List.range o.cols).map (fun i => aElem o.fmt (rawElem s (trayAddr c o.addr) o r i) (blockCode s c o r i))

/-- The exact sum of one block of integer products, times both codes (R112, R129). -/
def intBlock (a b : List AElem) : Int :=
  let sum := (a.zip b).foldl (fun t p => t + p.1.i * p.2.i) 0
  match a, b with
  | x :: _, y :: _ => sum * x.code * y.code
  | _, _ => 0

/-- The exact sum of one block of floating-point products; an exact sum of zero is +0 (R131). -/
def fpBlock (a b : List AElem) : FV :=
  let v := (a.zip b).foldl (fun t p => fadd t (fmul p.1.f p.2.f)) (.zero false)
  if fisZero v then .zero false else v

/-- An INT48 or FP32 accumulator with its saturation count (R112). -/
def reduceInt : Nat → List AElem → List AElem → Int → Nat → Int × Nat
  | 0, _, _, acc, k => (acc, k)
  | n + 1, a, b, acc, k =>
    if a.isEmpty then (acc, k)
    else
      let (acc, j) := sat48 (acc + intBlock (a.take 32) (b.take 32))
      reduceInt n (a.drop 32) (b.drop 32) acc (k + j)

/-- An FP32 accumulator takes a block sum; one that has become NaN or infinite stays so (R112, R131). -/
def accFp (acc t : FV) : FV × Bool :=
  match acc with
  | .nan => (.nan, false)
  | .inf b => (.inf b, false)
  | _ => roundF fp32 (fadd acc t)

def reduceFp : Nat → List AElem → List AElem → FV → Nat → FV × Nat
  | 0, _, _, acc, k => (acc, k)
  | n + 1, a, b, acc, k =>
    if a.isEmpty then (acc, k)
    else
      let (t, o1) := roundF fp32 (fpBlock (a.take 32) (b.take 32))
      let (acc, o2) := accFp acc t
      reduceFp n (a.drop 32) (b.drop 32) acc (k + b2n o1 + b2n o2)

/-- A value between the stages: exact on the integer path, FP32 otherwise (R133). -/
structure Acc where
  v : FV
  intPath : Bool
  accSat : Nat := 0
  outSat : Nat := 0
  deriving DecidableEq, Repr, Inhabited

def dot (isFp : Bool) (a b : List AElem) : Acc :=
  if isFp then (let (v, k) := reduceFp (a.length / 32 + 1) a b (.zero false) 0; ⟨v, false, k, 0⟩)
  else (let (v, k) := reduceInt (a.length / 32 + 1) a b 0 0; ⟨fint v, true, k, 0⟩)

/-! ### The output stage (R125, R133, R134) -/

/-- The output-stage block (R119). -/
structure OutStage where
  bias : Nat := 0
  mult : Nat := 0
  lut : Nat := 0
  oscale : Nat := 0
  actA : Nat := 0
  actB : Nat := 0
  ctrl : Nat := 0
  rsv : Nat := 0
  deriving DecidableEq, Repr, Inhabited

def outStage (bs : List Byte) (o : Nat) : OutStage :=
  { bias := le bs o 4, mult := le bs (o + 4) 4, lut := le bs (o + 8) 4, oscale := le bs (o + 12) 4,
    actA := le bs (o + 16) 4, actB := le bs (o + 20) 4, ctrl := le bs (o + 24) 4, rsv := le bs (o + 28) 4 }

def OutStage.biasEn (o : OutStage) : Bool := bit o.ctrl 0
def OutStage.multEn (o : OutStage) : Bool := bit o.ctrl 1
def OutStage.act (o : OutStage) : Nat := bits o.ctrl 4 2
def OutStage.argmax (o : OutStage) : Bool := bit o.ctrl 5

/-- A positive, finite, normal FP32 scale (R130). -/
def scaleOk (c : Nat) : Bool := decide (c < 2 ^ 31) && decide (1 ≤ c / 2 ^ 23) && decide (c / 2 ^ 23 < 255)

def finite32 (c : Nat) : Bool := decide (bits c 30 23 ≠ 255)

/-- The checks of the block at issue (R119, R130, R134). -/
def outStageOk (o : OutStage) (fmt : Nat) : Bool :=
  decide (o.rsv = 0) && decide (o.ctrl < 64) && decide (o.act ≤ 4) &&
  decide (o.bias < 2 ^ 25) && decide (o.mult < 2 ^ 25) && decide (o.lut < 2 ^ 25) &&
  (!isCB fmt || scaleOk o.oscale) &&
  (if o.act = 3 ∨ o.act = 4 then finite32 o.actA && finite32 o.actB && flt (fp32Of o.actA) (fp32Of o.actB) else true)

/-- Stages 2 and 3 for channel n (R133). -/
def biasMult (s : State) (c : Ctx) (o : OutStage) (n : Nat) (a : Acc) : Acc :=
  let a := if o.biasEn then
      (if a.intPath then
        (let b := ofTwos 48 (rdLe s (trayAddr c o.bias + 8 * n) 6)
         match fadd a.v (fint b) with
         | .num i _ => let (v, k) := sat48 i; { a with v := fint v, accSat := a.accSat + k }
         | z => { a with v := z })
       else
        (let (v, k) := roundF fp32 (fadd a.v (fp32Of (rdLe s (trayAddr c o.bias + 4 * n) 4)))
         { a with v := v, outSat := a.outSat + b2n k }))
    else a
  if o.multEn then
    let (v1, k1) := roundF fp32 a.v
    let (v2, k2) := roundF fp32 (fmul v1 (fp32Of (rdLe s (trayAddr c o.mult + 4 * n) 4)))
    { a with v := v2, intPath := false, outSat := a.outSat + b2n (k1 || k2) }
  else a

/-- LUT of R134: the points are read as FP32. -/
def lutVal (pt : Nat → FV) (a b v : FV) : FV × Bool :=
  match v with
  | .nan => (.nan, false)
  | _ =>
    let u := fdiv (fmul (fsub v a) (fint 256)) (fsub b a)
    if fle u (.zero false) then (pt 0, false)
    else if fle (fint 256) u then (pt 256, false)
    else match u with
      | .num n d =>
        let i := (n / (d : Int)).toNat
        roundF fp32 (fadd (pt i) (fmul (fsub u (fint i)) (fsub (pt (i + 1)) (pt i))))
      | _ => (pt 0, false)

/-- Stage 4 (R133). -/
def activate (s : State) (c : Ctx) (o : OutStage) (a : Acc) : Acc :=
  let pa := fp32Of o.actA
  let pb := fp32Of o.actB
  if o.act = 1 then { a with v := match a.v with
    | .nan => .nan
    | .zero true => .zero Config.reluZeroNeg
    | v => if flt v (.zero false) then .zero false else v }
  else if o.act = 2 then
    (if flt a.v (.zero false) then
      (let p := fmul a.v pa
       if a.intPath then
        (match p with
         | .num n d => { a with v := fint (rhe n d) }
         | .zero _ => { a with v := fint 0 }
         | _ => { a with v := p })
       else let (v, k) := roundF fp32 p; { a with v := v, outSat := a.outSat + b2n k })
     else a)
  else if o.act = 3 ∨ o.act = 4 then
    (let v0 := if a.intPath then rn32 a.v else a.v
     if o.act = 3 then
       { a with intPath := false, v := if v0 = .nan then .nan else if flt v0 pa then pa else if flt pb v0 then pb else v0 }
     else
       let (v, k) := lutVal (fun i => fp32Of (rdLe s (trayAddr c o.lut + 4 * i) 4)) pa pb v0
       { a with intPath := false, v := v, outSat := a.outSat + b2n k })
  else a

/-- Index of the largest value, NaN above all numbers, lowest index on ties (R125, R398). -/
def argmaxFrom : List FV → Nat → Nat → FV → Nat
  | [], _, best, _ => best
  | v :: t, i, best, bv =>
    if bv = .nan then best
    else if v = .nan ∨ flt bv v then argmaxFrom t (i + 1) i v else argmaxFrom t (i + 1) best bv

def argmax : List FV → Nat
  | [] => 0
  | v :: t => argmaxFrom t 1 0 v

/-- Counters of saturation to add to a core (R112, R132). -/
structure Sats where
  acc : Nat := 0
  out : Nat := 0
  deriving DecidableEq, Repr, Inhabited

def sumSats (l : List Acc) : Sats := ⟨(l.map (·.accSat)).foldl (· + ·) 0, (l.map (·.outSat)).foldl (· + ·) 0⟩

/-- Stages 2 to 4 for a row of channels whose first is number `n0`. -/
def stageRow (s : State) (c : Ctx) (o : OutStage) (row : List Acc) : List Acc :=
  row.mapIdx (fun n a => activate s c o (biasMult s c o n a))

/-- Stages 6 to 8 of one output row (R125). -/
def finishRow (s : State) (c : Ctx) (o : OutStage) (out : Opnd) (r : Nat) (row : List Acc) (k : Sats) : State × Sats :=
  let k := let z := sumSats row; (⟨k.acc + z.acc, k.out + z.out⟩ : Sats)
  if o.argmax then (writeRow s c out r [argmax (row.map (·.v))], k)
  else
    let (s, j) := writeVals s c out r (fp32Of o.oscale) (row.map (·.v))
    (s, ⟨k.acc, k.out + j⟩)

/-- Count saturations of a core; each sets its flag and counts as one event of it (R11, R112, R132). -/
def countSats (s : State) (core : Nat) (k : Sats) : State :=
  let b := 0x200000 + core * 0x20000
  bump (flagN (bump (flagN s (b + 4) 2 k.acc) (b + 0x34) k.acc) (b + 4) 3 k.out) (b + 0x38) k.out

/-! ### GEMM (R113, R141) -/

structure Gemm where
  a : Opnd
  b : Opnd
  c : Opnd
  os : OutStage
  deriving DecidableEq, Repr, Inhabited

def gemmOf (bs : List Byte) : Gemm := ⟨opnd bs 0x10, opnd bs 0x20, opnd bs 0x30, outStage bs 0x40⟩

/-- Shapes, formats and output-stage checks of a GEMM (R111, R119, R124, R125). -/
def gemmOk (g : Gemm) : Bool :=
  opndOk g.a && opndOk g.b && opndOk g.c && pairOk g.a.fmt g.b.fmt && decide (g.a.cols = g.b.cols) &&
  decide (g.c.rows = g.a.rows) &&
  (if g.os.argmax then decide (g.c.fmt = 8) && decide (g.c.cols = 1) && decide (g.b.rows ≤ 256)
   else decide (g.c.cols = g.b.rows)) && outStageOk g.os g.c.fmt

/-- One row of A against every weight row, through the output stage. -/
def gemmRow (s : State) (c : Ctx) (g : Gemm) (ws : List (List AElem)) (r : Nat) (k : Sats) : State × Sats :=
  let a := aRow s c g.a r
  finishRow s c g.os g.c r (stageRow s c g.os (ws.map (fun w => dot (isFloat g.a.fmt) a w))) k

def gemmRows (c : Ctx) (g : Gemm) (ws : List (List AElem)) : List Nat → State × Sats → State × Sats
  | [], x => x
  | r :: t, (s, k) => gemmRows c g ws t (gemmRow s c g ws r k)

def runGemm (s : State) (c : Ctx) (g : Gemm) : State :=
  let ws := (List.range g.b.rows).map (aRow s c g.b)
  let (s, k) := gemmRows c g ws (List.range g.a.rows) (s, {})
  countSats s c.core k

/-- Clocks of a GEMM of M rows: chunks of up to 256 rows (R113). -/
def gemmClocks (m n k kt lw r : Nat) : Nat :=
  let one (mc : Nat) := ceilDiv n 128 * ceilDiv k kt * max (mc * r) lw
  m / 256 * one 256 + (if m % 256 = 0 then 0 else one (m % 256)) + 300

/-! ### Vector unit (R114, R138, R140, R398) -/

/-- The Tray intervals an output-stage block reads for N channels (R122). -/
def osIvals (c : Ctx) (o : OutStage) (n : Nat) (intPair : Bool) : List Ival :=
  (if o.biasEn then [⟨trayAddr c o.bias, n * (if intPair then 8 else 4), false⟩] else []) ++
  (if o.multEn then [⟨trayAddr c o.mult, n * 4, false⟩] else []) ++
  (if o.act = 4 then [⟨trayAddr c o.lut, 257 * 4, false⟩] else [])

def osInWindow (c : Ctx) (o : OutStage) (n : Nat) (intPair : Bool) : Bool :=
  (!o.biasEn || windowOk c o.bias (n * (if intPair then 8 else 4)) false) &&
  (!o.multEn || windowOk c o.mult (n * 4) false) && (!decide (o.act = 4) || windowOk c o.lut 1028 false)

structure Vec where
  s0 : Opnd
  s1 : Opnd
  s2 : Opnd
  d : Opnd
  op : Nat
  rowwise : Bool
  imm0 : Nat
  imm1 : Nat
  deriving DecidableEq, Repr, Inhabited

def vecOf (bs : List Byte) : Vec :=
  ⟨opnd bs 0x10, opnd bs 0x20, opnd bs 0x30, opnd bs 0x40, le bs 0x50 1, bit (le bs 0x51 1) 0, le bs 0x54 4, le bs 0x58 4⟩

/-- How many sources an operation reads; none for an operation that is not listed. -/
def vecArity (op : Nat) : Option Nat :=
  if op ∈ [0, 1, 2, 4, 5, 8] then some 2
  else if op ∈ [3, 9] then some 3
  else if op ∈ [6, 7, 0x10, 0x11, 0x12, 0x13, 0x14, 0x15, 0x18, 0x20, 0x21, 0x22] then some 1
  else none

def isReduce (op : Nat) : Bool := decide (0x20 ≤ op) && decide (op ≤ 0x22)
def isTrans (op : Nat) : Bool := decide (0x10 ≤ op) && decide (op ≤ 0x15)

def unusedOpnd (o : Opnd) : Bool := decide (o = {})

def srcShapeOk (d o : Opnd) : Bool :=
  (decide (o.rows = d.rows) || decide (o.rows = 1)) && (decide (o.cols = d.cols) || decide (o.cols = 1))

/-- The checks of a VEC descriptor at issue (R119, R138, R398). -/
def vecOk (v : Vec) : Bool :=
  match vecArity v.op with
  | none => false
  | some n =>
    let used := [v.s0, v.s1, v.s2].take n
    opndOk v.d && used.all opndOk && ([v.s0, v.s1, v.s2].drop n).all unusedOpnd &&
    decide (v.rowwise = isReduce v.op) &&
    (if isReduce v.op then decide (v.d.cols = 1) && decide (v.d.rows = v.s0.rows)
     else if v.op = 0x18 then decide (v.s0.rows = v.d.rows) && decide (v.s0.cols = v.d.cols)
     else used.all (srcShapeOk v.d)) &&
    (if v.op = 0x18 then (!isCB v.s0.fmt || scaleOk v.imm0) && (!isCB v.d.fmt || scaleOk v.imm1)
     else used.all (fun o => !isCB o.fmt) && !isCB v.d.fmt)

/-- Element-wise MAX and MIN: NaN propagates (R398). -/
def vmax (x y : FV) : FV :=
  if x = .nan ∨ y = .nan then .nan
  else if fisZero x ∧ fisZero y ∧ x ≠ y then .zero Config.maxZeroNeg
  else if flt x y then y else x
def vmin (x y : FV) : FV :=
  if x = .nan ∨ y = .nan then .nan
  else if fisZero x ∧ fisZero y ∧ x ≠ y then .zero Config.minZeroNeg
  else if flt y x then y else x

/-- The exact result of an element operation (R114, R140). -/
def vecElem (op : Nat) (x y z i0 i1 : FV) : FV :=
  if op = 0 then fadd x y else if op = 1 then fsub x y else if op = 2 then fmul x y
  else if op = 3 then fadd (fmul x y) z else if op = 4 then vmax x y else if op = 5 then vmin x y
  else if op = 6 then fabs x else if op = 7 then fadd (fmul x i0) i1
  else if op = 8 then (if flt y x then fint 1 else .zero false)
  else if op = 9 then (if fisZero x then z else y)
  else if op = 0x10 then fexp2 x else if op = 0x11 then flog2 x else if op = 0x12 then frecip x
  else if op = 0x13 then frsqrt x else if op = 0x14 then fsigmoid x else if op = 0x15 then ftanh x
  else x

/-- One source element with broadcast; a subnormal reads as zero in a transcendental operation (R114). -/
def vecSrc (s : State) (c : Ctx) (o : Opnd) (trans : Bool) (r i : Nat) : FV :=
  let r := if o.rows = 1 then 0 else r
  let i := if o.cols = 1 then 0 else i
  let raw := rawElem s (trayAddr c o.addr) o r i
  if isFloat o.fmt && trans && isSubnormal (fmtOf o.fmt) raw then .zero (fisNeg (decodeF (fmtOf o.fmt) raw))
  else valElem o.fmt raw

def vecRow (s : State) (c : Ctx) (v : Vec) (r : Nat) : List FV :=
  let t := isTrans v.op
  (List.range v.d.cols).map (fun i =>
    vecElem v.op (vecSrc s c v.s0 t r i)
      (if unusedOpnd v.s1 then .zero false else vecSrc s c v.s1 t r i)
      (if unusedOpnd v.s2 then .zero false else vecSrc s c v.s2 t r i) (fp32Of v.imm0) (fp32Of v.imm1))

def rowMax : List FV → FV
  | [] => .nan
  | v :: t => t.foldl (fun m x => if m = .nan then m else if x = .nan ∨ flt m x then x else m) v

/-- The reductions (R398). -/
def reduceRow (op : Nat) (vs : List FV) : FV :=
  if op = 0x20 then vs.foldl (fun a x => rn32 (fadd a x)) (.zero false)
  else if op = 0x21 then rowMax vs else fint (argmax vs)

def vecResult (s : State) (c : Ctx) (v : Vec) (r : Nat) : List FV :=
  if isReduce v.op then [reduceRow v.op (rowVals s c v.s0 r)]
  else if v.op = 0x18 then
    (rowVals s c v.s0 r).map (fun x => if isCB v.s0.fmt then fmul x (fp32Of v.imm0) else x)
  else vecRow s c v r

def vecRows (c : Ctx) (v : Vec) : List Nat → State → State
  | [], s => s
  | r :: t, s => vecRows c v t (writeVals s c v.d r (fp32Of v.imm1) (vecResult s c v r)).1

def runVec (s : State) (c : Ctx) (v : Vec) : State := vecRows c v (List.range v.d.rows) s

/-- Results a clock (R114). -/
def vecRate (v : Vec) : Nat :=
  let used := [v.s0, v.s1, v.s2].filter (fun o => !unusedOpnd o)
  let all (p : Nat → Bool) := used.all (fun o => p o.fmt)
  if isTrans v.op then 64
  else if all (fun f => decide (f = 0) || decide (f = 8)) && (decide (v.d.fmt = 0) || decide (v.d.fmt = 8)) &&
      decide (v.op ∈ [0, 1, 4, 5, 6, 8]) then 1024
  else if all (fun f => decide (f = 5) || decide (f = 3) || decide (f = 4)) && decide (v.d.fmt = 5) then 512
  else 256

def vecClocks (v : Vec) : Nat := ceilDiv (v.d.rows * v.d.cols) (vecRate v) + 50

end Sys2Proof.Machine
end

