-- ==== Sys2Proof/Machine/Conv.lean ====
section
/-! DEFINITION. Convolution, pooling and the Grain codec (R120, R139, R142 to R158). -/

namespace Sys2Proof.Machine

/-! ### Image and window blocks (R119, R120) -/

structure Img where
  addr : Nat
  scale : Nat
  h : Nat
  w : Nat
  c : Nat
  fmt : Nat
  fmtRsv : Nat
  mode : Nat
  modeRsv : Nat
  deriving DecidableEq, Repr, Inhabited

def imgOf (bs : List Byte) (o : Nat) : Img :=
  ⟨le bs o 4, le bs (o + 4) 4, le bs (o + 8) 2, le bs (o + 10) 2, le bs (o + 12) 2,
   bits (le bs (o + 14) 1) 3 0, bits (le bs (o + 14) 1) 7 4, bits (le bs (o + 15) 1) 1 0, bits (le bs (o + 15) 1) 7 2⟩

/-- The image as an operand: H rows of W x C elements, the pitch rounded up to 64 bytes. -/
def Img.opnd (i : Img) : Opnd :=
  { addr := i.addr, scale := i.scale, rows := i.h, cols := i.w * i.c,
    pitch := ceilDiv (ceilDiv (i.w * i.c * elemBits i.fmt) 8) 64 * 64, fmt := i.fmt }

def imgOk (i : Img) : Bool :=
  decide (i.fmtRsv = 0) && decide (i.modeRsv = 0) && decide (i.fmt ≤ 8) && decide (1 ≤ i.h) && decide (1 ≤ i.w) &&
  decide (1 ≤ i.c) && decide (i.addr < 2 ^ 25) && decide (i.scale < 2 ^ 25) &&
  (if isCB i.fmt then decide (i.c % 32 = 0) else decide (i.scale = 0))

structure Win where
  sy : Nat
  sx : Nat
  dy : Nat
  dx : Nat
  pt : Nat
  pb : Nat
  pl : Nat
  pr : Nat
  deriving DecidableEq, Repr, Inhabited

def winOf (bs : List Byte) (o : Nat) : Win :=
  ⟨le bs o 2, le bs (o + 2) 2, le bs (o + 4) 2, le bs (o + 6) 2,
   le bs (o + 8) 2, le bs (o + 10) 2, le bs (o + 12) 2, le bs (o + 14) 2⟩

def winOk (w : Win) : Bool := decide (1 ≤ w.sy) && decide (1 ≤ w.sx) && decide (1 ≤ w.dy) && decide (1 ≤ w.dx)

/-- Output size in one direction; none where the numerator is negative (R120). -/
def outSize (n p q d k s : Nat) : Option Nat :=
  if n + p + q < d * (k - 1) + 1 then none else some ((n + p + q - d * (k - 1) - 1) / s + 1)

/-- Sampling position (R142). -/
def samp (o s k d p : Nat) : Int := (o * s + k * d : Nat) - (p : Int)

def inImg (i : Int) (n : Nat) : Bool := decide (0 ≤ i) && decide (i < n)

/-- Mirror about the edge pixels (R143). -/
def refl (i : Int) (n : Nat) : Nat :=
  if n = 1 then 0
  else
    let p : Int := 2 * ((n : Int) - 1)
    let j := i % p
    (if j ≥ n then p - j else j).toNat

def clampIdx (i : Int) (n : Nat) : Nat := (max 0 (min i ((n : Int) - 1))).toNat

/-! ### CONV_TAP -/

structure Conv where
  im : Img
  w : Opnd
  out : Opnd
  os : OutStage
  win : Win
  kh : Nat
  kw : Nat
  gw : Nat
  oc : Nat
  padc : Nat
  oh : Nat
  ow : Nat
  deriving DecidableEq, Repr, Inhabited

def convOf (bs : List Byte) : Conv :=
  ⟨imgOf bs 0x10, opnd bs 0x20, opnd bs 0x30, outStage bs 0x40, winOf bs 0x60, le bs 0x70 1, le bs 0x71 1,
   le bs 0x72 1, le bs 0x74 2, le bs 0x76 2, le bs 0x78 2, le bs 0x7A 2⟩

/-- G, the input channels a tap reads. -/
def Conv.g (d : Conv) : Nat := if d.gw = 0 then d.im.c else d.gw

/-- Output channels of a group (R150). -/
def Conv.hg (d : Conv) : Nat := if d.gw = 0 then d.oc else d.oc * d.gw / d.im.c

/-- A reserved bit of PAD_CONST is set (R143). -/
def padRsvBad (fmt p : Nat) : Bool :=
  if fmt = 1 ∨ fmt = 5 then false else if fmt = 2 then decide (bits p 7 4 ≠ 0) else decide (p / 256 ≠ 0)

def depthPair (a b : Nat) : Bool :=
  ((decide (a = 0) || decide (a = 8)) && decide (b = 0)) ||
  ((decide (a = 3) || decide (a = 4)) && (decide (b = 3) || decide (b = 4))) || (decide (a = 5) && decide (b = 5))

/-- The checks of a CONV_TAP at issue (R111, R120, R124, R125, R143, R150). -/
def convOk (d : Conv) : Bool :=
  imgOk d.im && opndOk d.w && opndOk d.out && winOk d.win && decide (1 ≤ d.kh) && decide (1 ≤ d.kw) &&
  decide (d.gw ∈ [0, 1, 2, 4, 8, 16, 32, 64]) &&
  decide (outSize d.im.h d.win.pt d.win.pb d.win.dy d.kh d.win.sy = some d.oh) &&
  decide (outSize d.im.w d.win.pl d.win.pr d.win.dx d.kw d.win.sx = some d.ow) &&
  (decide (d.gw = 0) || (decide (d.im.c % d.gw = 0) && decide (d.oc * d.gw % d.im.c = 0))) &&
  decide (d.w.rows = d.oc) && decide (d.w.cols = d.kh * d.kw * d.g) && decide (d.out.rows = d.oh) &&
  (if d.os.argmax then decide (d.out.fmt = 8) && decide (d.out.cols = d.ow) && decide (d.oc ≤ 256)
   else decide (d.out.cols = d.ow * d.oc)) &&
  (if d.gw = 1 then depthPair d.im.fmt d.w.fmt else pairOk d.im.fmt d.w.fmt) &&
  !((isCB d.im.fmt || isCB d.w.fmt) && decide (d.gw ∈ [1, 2, 4, 8, 16])) &&
  !(decide (d.im.mode = 1) && padRsvBad d.im.fmt d.padc) && outStageOk d.os d.out.fmt

/-- PAD_CONST as an input element (R143). -/
def padElem (fmt p : Nat) : AElem :=
  if fmt = 1 then aElem 1 (p % 256) (p / 256) else if fmt = 2 then aElem 2 (p % 16) (p / 256)
  else if fmt = 5 then aElem 5 p 1 else aElem fmt (p % 256) 1

/-- Pixel (y, x), channel ch, of the image. -/
def pix (s : State) (c : Ctx) (i : Img) (y x ch : Nat) : AElem :=
  aElem i.fmt (rawElem s (trayAddr c i.addr) i.opnd y (x * i.c + ch)) (blockCode s c i.opnd y (x * i.c + ch))

/-- The input at a position under the padding mode; none is a padded position of ZERO (R143, R144). -/
def xAt (s : State) (c : Ctx) (d : Conv) (iy ix : Int) (ch : Nat) : Option AElem :=
  if inImg iy d.im.h && inImg ix d.im.w then some (pix s c d.im iy.toNat ix.toNat ch)
  else if d.im.mode = 0 then none
  else if d.im.mode = 1 then some (padElem d.im.fmt d.padc)
  else if d.im.mode = 2 then some (pix s c d.im (clampIdx iy d.im.h) (clampIdx ix d.im.w) ch)
  else some (pix s c d.im (refl iy d.im.h) (refl ix d.im.w) ch)

/-- Add one block to an accumulator (R112, R131). -/
def addBlock (isFp : Bool) (a : Acc) (xs ws : List AElem) : Acc :=
  if isFp then
    let (t, o1) := roundF fp32 (fpBlock xs ws)
    let (v, o2) := accFp a.v t
    { a with v := v, accSat := a.accSat + b2n o1 + b2n o2 }
  else
    match a.v with
    | .num i _ => let (v, k) := sat48 (i + intBlock xs ws); { a with v := fint v, accSat := a.accSat + k }
    | _ => let (v, k) := sat48 (intBlock xs ws); { a with v := fint v, accSat := a.accSat + k }

/-- Channels [b x 32, ...) of a tap for output channel n at (oy, ox) (R145). -/
def tapBlock (s : State) (c : Ctx) (d : Conv) (n : Nat) (iy ix : Int) (tap b : Nat) (a : Acc) : Acc :=
  let g0 := if d.gw = 0 then 0 else n / d.hg * d.gw
  let chs := (List.range (min 32 (d.g - 32 * b))).map (· + 32 * b)
  let ps := chs.filterMap (fun ch =>
    (xAt s c d iy ix (g0 + ch)).map (fun x =>
      (x, aElem d.w.fmt (rawElem s (trayAddr c d.w.addr) d.w n (tap * d.g + ch)) (blockCode s c d.w n (tap * d.g + ch)))))
  if ps.isEmpty then a else addBlock (isFloat d.im.fmt) a (ps.map (·.1)) (ps.map (·.2))

/-- The accumulator of output channel n at (oy, ox), in the order of R145. -/
def convAcc (s : State) (c : Ctx) (d : Conv) (oy ox n : Nat) : Acc :=
  let fp := isFloat d.im.fmt
  (List.range (d.kh * d.kw)).foldl (fun a t =>
    let iy := samp oy d.win.sy (t / d.kw) d.win.dy d.win.pt
    let ix := samp ox d.win.sx (t % d.kw) d.win.dx d.win.pl
    (List.range (ceilDiv d.g 32)).foldl (fun a b => tapBlock s c d n iy ix t b a) a)
    ⟨if fp then .zero false else fint 0, !fp, 0, 0⟩

/-- One output row: every pixel's channels through stages 2 to 4, then stages 6 to 8. -/
def convRow (s : State) (c : Ctx) (d : Conv) (oy : Nat) (k : Sats) : State × Sats :=
  let pxs := (List.range d.ow).map (fun ox => stageRow s c d.os ((List.range d.oc).map (convAcc s c d oy ox)))
  let z := sumSats pxs.flatten
  let k : Sats := ⟨k.acc + z.acc, k.out + z.out⟩
  if d.os.argmax then (writeRow s c d.out oy (pxs.map (fun p => argmax (p.map (·.v)))), k)
  else
    let (s, j) := writeVals s c d.out oy (fp32Of d.os.oscale) (pxs.flatten.map (·.v))
    (s, ⟨k.acc, k.out + j⟩)

def convRows (c : Ctx) (d : Conv) : List Nat → State × Sats → State × Sats
  | [], x => x
  | r :: t, (s, k) => convRows c d t (convRow s c d r k)

/-- Saturations of a depthwise CONV_TAP, which the vector unit computes, are not counted (R132, R150). -/
def runConv (s : State) (c : Ctx) (d : Conv) : State :=
  let (s, k) := convRows c d (List.range d.oh) (s, {})
  if d.gw = 1 then s else countSats s c.core k

/-- Taps in one direction with some sampled position in the image (R147). -/
def liveTaps (o st k d p n : Nat) : Nat :=
  ((List.range k).filter (fun t => (List.range o).any (fun q => inImg (samp q st t d p) n))).length

/-- Executed taps (R147). -/
def execTaps (d : Conv) : Nat :=
  if d.im.mode = 2 ∨ d.im.mode = 3 then d.kh * d.kw
  else liveTaps d.oh d.win.sy d.kh d.win.dy d.win.pt d.im.h * liveTaps d.ow d.win.sx d.kw d.win.dx d.win.pl d.im.w

/-- Tiles of output channels: ordinary, or the diagonal mapping (R146, R151). -/
def convTiles (d : Conv) : Nat :=
  if d.gw = 0 then ceilDiv d.oc 128
  else if d.hg ≤ 128 then
    ceilDiv (d.im.c / d.gw) (max 1 (min (pairKt d.im.fmt d.w.fmt / d.gw) (128 / max 1 d.hg)))
  else d.im.c / d.gw * ceilDiv d.hg 128

/-- Nominal clocks of a CONV_TAP (R146, R148, R152). -/
def convClocks (d : Conv) : Nat :=
  if d.gw = 1 then
    ceilDiv (d.oh * d.ow * d.oc * execTaps d) (if d.im.fmt = 5 then 256 else 512) + 300
  else
    let kt := pairKt d.im.fmt d.w.fmt
    let lw := pairLw d.im.fmt d.w.fmt
    let r := if d.im.fmt = 5 then 2 else 1
    let ck := if d.gw = 0 then ceilDiv d.g kt else 1
    let m := d.oh * d.ow
    let one (mc : Nat) := convTiles d * execTaps d * (ck * max (mc * r) lw)
    let z := if d.im.mode = 1 then (d.kh * d.kw - execTaps d) * convTiles d * ck * lw else 0
    m / 256 * one 256 + (if m % 256 = 0 then 0 else one (m % 256)) + 300 + z

/-! ### POOL (R139, R154, R155) -/

structure Pool where
  im : Img
  out : Opnd
  win : Win
  os : OutStage
  kh : Nat
  kw : Nat
  deriving DecidableEq, Repr, Inhabited

def poolOf (bs : List Byte) : Pool :=
  ⟨imgOf bs 0x10, opnd bs 0x20, winOf bs 0x30, outStage bs 0x40, le bs 0x60 1, le bs 0x61 1⟩

def poolOh (d : Pool) : Nat := (outSize d.im.h d.win.pt d.win.pb d.win.dy d.kh d.win.sy).getD 0
def poolOw (d : Pool) : Nat := (outSize d.im.w d.win.pl d.win.pr d.win.dx d.kw d.win.sx).getD 0

def poolOk (d : Pool) : Bool :=
  imgOk d.im && opndOk d.out && winOk d.win && decide (1 ≤ d.kh) && decide (1 ≤ d.kw) &&
  (outSize d.im.h d.win.pt d.win.pb d.win.dy d.kh d.win.sy).isSome &&
  (outSize d.im.w d.win.pl d.win.pr d.win.dx d.kw d.win.sx).isSome &&
  decide (d.out.rows = poolOh d) && !d.os.biasEn && !d.os.argmax && outStageOk d.os d.out.fmt &&
  (if d.im.mode = 3 then
     decide (d.kh = 1) && decide (d.kw = 1) && decide (d.win = ⟨1, 1, 1, 1, 0, 0, 0, 0⟩) && decide (d.im.c ≤ 256) &&
     decide (d.out.fmt = 8) && decide (d.out.cols = poolOw d)
   else decide (d.out.cols = poolOw d * d.im.c))

/-- Element value with its code, widened exactly (R139). -/
def pixVal (s : State) (c : Ctx) (i : Img) (y x ch : Nat) : FV :=
  let e := pix s c i y x ch
  if isFloat i.fmt then e.f else fint (e.i * e.code)

/-- The in-image values of a window, in row-major order (R154). -/
def winVals (s : State) (c : Ctx) (d : Pool) (oy ox ch : Nat) : List FV :=
  (List.range (d.kh * d.kw)).filterMap (fun t =>
    let iy := samp oy d.win.sy (t / d.kw) d.win.dy d.win.pt
    let ix := samp ox d.win.sx (t % d.kw) d.win.dx d.win.pl
    if inImg iy d.im.h && inImg ix d.im.w then some (pixVal s c d.im iy.toNat ix.toNat ch) else none)

def poolMax : List FV → FV
  | [] => .zero false
  | v :: t => t.foldl vmax v

/-- One pooled value (R139, R154). -/
def poolVal (d : Pool) (vs : List FV) : FV :=
  if vs.isEmpty then .zero false
  else if d.im.mode = 0 then poolMax vs
  else
    let n := if d.im.mode = 1 then d.kh * d.kw else vs.length
    if isFloat d.im.fmt then
      match vs with
      | [] => .zero false
      | v :: t =>
        match t.foldl (fun a x => rn32 (fadd a x)) v with
        | .zero true => .zero Config.avgZeroNeg
        | sum => rn32 (fdiv sum (fint n))
    else fdiv (vs.foldl fadd (.zero false)) (fint n)

def poolRow (s : State) (c : Ctx) (d : Pool) (oy : Nat) (k : Nat) : State × Nat :=
  if d.im.mode = 3 then
    (writeRow s c d.out oy ((List.range d.im.w).map (fun x => argmax ((List.range d.im.c).map (pixVal s c d.im oy x)))), k)
  else
    let vs := ((List.range (poolOw d)).map (fun ox => (List.range d.im.c).map (fun ch => poolVal d (winVals s c d oy ox ch)))).flatten
    let (s, j) := writeVals s c d.out oy (fp32Of d.os.oscale) vs
    (s, k + j)

def poolRows (c : Ctx) (d : Pool) : List Nat → State × Nat → State × Nat
  | [], x => x
  | r :: t, (s, k) => poolRows c d t (poolRow s c d r k)

def runPool (s : State) (c : Ctx) (d : Pool) : State :=
  let (s, k) := poolRows c d (List.range (poolOh d)) (s, 0)
  countSats s c.core ⟨0, k⟩

def poolClocks (d : Pool) : Nat :=
  poolOh d * poolOw d * ceilDiv d.im.c 128 * (if d.im.mode = 3 then 1 else d.kh * d.kw) + 100

/-! ### Grain codec (R156, R157) -/

def grainBits (ratio : Nat) : Nat := if ratio = 1 then 5 else if ratio = 2 then 3 else 1
def grainSize (ratio : Nat) : Nat := if ratio = 1 then 96 else if ratio = 2 then 64 else 32

def bitlen (n : Nat) : Nat := if n = 0 then 0 else Nat.log2 n + 1

def listMin : List Int → Int
  | [] => 0
  | x :: t => t.foldl min x
def listMax : List Int → Int
  | [] => 0
  | x :: t => t.foldl max x

/-- mn, s and the codes of one group of 32 values. -/
def grainGroup (n : Nat) (vs : List Int) : Int × Nat × List Nat :=
  let mn := listMin vs
  let sh := bitlen (listMax vs - mn).toNat - n
  (mn, sh, vs.map (fun v => (v - mn).toNat / 2 ^ sh))

/-- A block of 128 bytes compressed to the stored size of the ratio (R156). -/
def grainCompress (ratio : Nat) (bs : List Byte) : List Byte :=
  let n := grainBits ratio
  let vs := bs.map (fun b => ofTwos 8 b.toNat)
  let gs := (blocks32 5 vs).map (grainGroup n)
  let hdr := (gs.mapIdx (fun j g => (twos 8 g.1 + g.2.1 * 256) * 2 ^ (11 * j))).foldl (· + ·) 0
  let ks := ((gs.map (fun g => g.2.2)).flatten.mapIdx (fun i k => k * 2 ^ (44 + n * i))).foldl (· + ·) 0
  leBytes (grainSize ratio) (hdr + ks)

/-- Expansion of a stored block to 128 bytes (R157). -/
def grainExpand (ratio : Nat) (bs : List Byte) : List Byte :=
  let n := grainBits ratio
  let w := leNat bs
  (List.range 128).map (fun i =>
    let h := bits w (11 * (i / 32) + 10) (11 * (i / 32))
    let sh := h / 256
    let v : Int := ofTwos 8 (h % 256) + ((bits w (44 + n * (i + 1) - 1) (44 + n * i) * 2 ^ sh + 2 ^ sh / 2 : Nat) : Int)
    BitVec.ofNat 8 (twos 8 (max (-128) (min 127 v))))

def blocks128 : Nat → List Byte → List (List Byte)
  | 0, _ => []
  | n + 1, l => if l.isEmpty then [] else l.take 128 :: blocks128 n (l.drop 128)

def chunksOf (k : Nat) : Nat → List Byte → List (List Byte)
  | 0, _ => []
  | n + 1, l => if l.isEmpty then [] else l.take k :: chunksOf k n (l.drop k)

end Sys2Proof.Machine
end

