-- ==== Sys2Proof/Machine/Kv.lean ====
section
/-! DEFINITION. The KV page manager and the attention arithmetic (R166 to R190, R193, R196, R198, R200). -/

namespace Sys2Proof.Machine

/-! ### Sequences and pages -/

def seqKey (c q : Nat) : Nat := c * 1024 + q
def seq (s : State) (k : Nat) : Option Seq := tget none s.kv.seqs k
def setSeq (s : State) (k : Nat) (q : Option Seq) : State := { s with kv := { s.kv with seqs := tset none s.kv.seqs k q } }

def lenOf (q : Seq) (l : Nat) : Nat := q.len.getD l 0

/-- The reported length: the least of its LEN[l] (R167). -/
def repLen (q : Seq) : Nat := match q.len with | [] => 0 | x :: t => t.foldl min x

/-- Bytes of one head's elements in a row (R172). -/
def ebOf (q : Seq) : Nat := if q.fmt = 2 then q.headDim / 2 else q.headDim
def codesRow (q : Seq) : Nat := if q.fmt = 3 then 0 else q.headDim / 32
def headBytes (q : Seq) : Nat := 2 * (64 * ebOf q + 64 * codesRow q)
def summBytes (q : Seq) : Nat := ceilDiv (q.kvHeads * q.headDim * 2) 64 * 64

/-- The page image size (R172). -/
def pageBytes (q : Seq) : Nat := q.kvHeads * headBytes q + summBytes q

def poolReg (s : State) (p o : Nat) : Nat := rg s (0x80100 + 16 * p + o)
def poolPsize (s : State) (p : Nat) : Nat := bits (poolReg s p 0) 16 0
def poolLayers (s : State) (p : Nat) : Nat := bits (poolReg s p 0) 29 24 + 1
def poolEn (s : State) (p : Nat) : Bool := bit (poolReg s p 0) 31

/-- Bytes of a frame of a pool (R174). -/
def frameBytes (s : State) (p : Nat) : Nat := ceilDiv (poolLayers s p * poolPsize s p * 64) 4096 * 4096
def frameAddr (s : State) (p f : Nat) : Nat := poolReg s p 4 * 4096 + (f - poolReg s p 8) * frameBytes s p

/-- The address of the page of block b, layer l (R173). -/
def pageAddr (s : State) (q : Seq) (b l : Nat) : Option Nat :=
  if q.paged then
    (match tget none q.pt b with
     | none => none
     | some f => some (frameAddr s q.pool f + l * poolPsize s q.pool * 64))
  else some (q.region + (b * q.layers + l) * pageBytes q)

def frRef (s : State) (f : Nat) : Nat := tget 0 s.kv.ref f
def frPin (s : State) (f : Nat) : Nat := tget 0 s.kv.pin f

/-- The hot-page cache drops every page of a frame when it is returned (R176). -/
def dropHot (s : State) (f : Nat) : State :=
  if frRef s f = 0 ∧ frPin s f = 0 then { s with kv := { s.kv with hot := s.kv.hot.filter (fun k => decide (k / 64 ≠ f)) } } else s

def incRef (s : State) (f : Nat) : State := { s with kv := { s.kv with ref := tmod 0 s.kv.ref f (· + 1) } }
def decRef (s : State) (f : Nat) : State := dropHot { s with kv := { s.kv with ref := tmod 0 s.kv.ref f (· - 1) } } f
def pinFrame (s : State) (f : Nat) : State := { s with kv := { s.kv with pin := tmod 0 s.kv.pin f (· + 1) } }
def unpinFrame (s : State) (f : Nat) : State := dropHot { s with kv := { s.kv with pin := tmod 0 s.kv.pin f (· - 1) } } f

/-- Frames of pool p that are allocated (REF or PIN above 0). -/
def poolUsed (s : State) (p : Nat) : Nat :=
  let lo := poolReg s p 8
  let hi := lo + poolReg s p 12
  let inR (k : Nat) : Bool := decide (lo ≤ k) && decide (k < hi)
  (s.kv.ref.filter (fun e => inR e.1)).length + (s.kv.pin.filter (fun e => inR e.1 && decide (frRef s e.1 = 0))).length

def poolFree (s : State) (p : Nat) : Nat := poolReg s p 12 - poolUsed s p

def findFrame (s : State) : Nat → Nat → Option Nat
  | 0, _ => none
  | n + 1, f => if frRef s f = 0 ∧ frPin s f = 0 then some f else findFrame s n (f + 1)

/-- The lowest free frame of a pool (R176; which free frame is taken is DESIGN CHOICE, entry 11). -/
def allocFrame (s : State) (p : Nat) : Option Nat := findFrame s (poolReg s p 12) (poolReg s p 8)

/-- Page-table chunks of 64 entries in use (R175). -/
def chunksOfSeq (q : Seq) : Nat := ((q.pt.map (fun e => e.1 / 64)).eraseDups).length
def chunksUsed (s : State) : Nat :=
  (s.kv.seqs.map (fun e => match e.2 with | some q => chunksOfSeq q | none => 0)).foldl (· + ·) 0
def ptFree (s : State) : Nat := 16384 - chunksUsed s

def setPt (q : Seq) (b : Nat) (f : Option Nat) : Seq := { q with pt := tset none q.pt b f }

/-! ### Copy on write and allocation (R176, R178) -/

/-- Rows of block b that are valid for layer l of the writer. -/
def validRows (q : Seq) (b l : Nat) : Nat := min 64 (lenOf q l - 64 * b)

def copyBytes (s : State) (src dst n : Nat) : State := storeBytes s dst (rdBytes s src n)

/-- Copy rows 0 to n - 1 of one head of a page. -/
def copyHead (q : Seq) (src dst n : Nat) (s : State) (g : Nat) : State :=
  let o := g * headBytes q
  let h := 64 * ebOf q
  let k := 64 * codesRow q
  let s := copyBytes s (src + o) (dst + o) (n * ebOf q)
  let s := copyBytes s (src + o + h) (dst + o + h) (n * codesRow q)
  let s := copyBytes s (src + o + h + k) (dst + o + h + k) (n * ebOf q)
  copyBytes s (src + o + 2 * h + k) (dst + o + 2 * h + k) (n * codesRow q)

/-- The bytes that `copyHead` reads: where each span begins, and its length. -/
def copySpans (q : Seq) (src n g : Nat) : List (Nat × Nat) :=
  let o := src + g * headBytes q
  let h := 64 * ebOf q
  let k := 64 * codesRow q
  [(o, n * ebOf q), (o + h, n * codesRow q), (o + h + k, n * ebOf q), (o + 2 * h + k, n * codesRow q)]

/-- The bytes that `copyPage` reads. -/
def pageSpans (q : Seq) (src n : Nat) : List (Nat × Nat) :=
  ((List.range q.kvHeads).map (copySpans q src n)).flatten ++
    (if n = 64 then [(src + q.kvHeads * headBytes q, summBytes q)] else [])

def copyPage (s : State) (q : Seq) (src dst n : Nat) : State :=
  let s := (List.range q.kvHeads).foldl (copyHead q src dst n) s
  if n = 64 then copyBytes s (src + q.kvHeads * headBytes q) (dst + q.kvHeads * headBytes q) (summBytes q) else s

/-- The copy of block b's frame into a fresh one (R178); none when the pool has no frame. -/
def cow (s : State) (k b : Nat) : Option State :=
  match seq s k with
  | none => none
  | some q =>
    match tget none q.pt b, allocFrame s q.pool with
    | some f, some g =>
      let ps := poolPsize s q.pool * 64
      let s := pinFrame s f
      let s := incRef s g
      let s := (List.range q.layers).foldl (fun s l =>
        copyPage s q (frameAddr s q.pool f + l * ps) (frameAddr s q.pool g + l * ps) (validRows q b l)) s
      let s := setSeq s k (some (setPt q b (some g)))
      let s := rsetN s 0x8001C (rg s 0x8001C + 1)
      some (unpinFrame (decRef s f) f)
    | _, _ => none

/-- Make block b writable for an append: allocate it, or copy a shared frame (R176, R178). -/
def ensureBlock (s : State) (k b : Nat) : Option State :=
  match seq s k with
  | none => none
  | some q =>
    if !q.paged then some s
    else match tget none q.pt b with
      | some f => if frRef s f > 1 then cow s k b else some s
      | none =>
        match allocFrame s q.pool with
        | none => none
        | some f =>
          if ptFree s = 0 ∧ !(q.pt.any (fun e => decide (e.1 / 64 = b / 64))) then none
          else some (setSeq (incRef s f) k (some (setPt q b (some f))))

def ensureBlocks (k : Nat) : List Nat → State → Option State
  | [], s => some s
  | b :: t, s =>
    match ensureBlock s k b with
    | none => none
    | some s => ensureBlocks k t s

/-- The blocks an append of T positions at `pos` writes. -/
def appendBlocks (pos t : Nat) : List Nat :=
  (List.range ((pos + t - 1) / 64 - pos / 64 + 1)).map (· + pos / 64)

/-- The frames blocks 0 to n - 1 name (R177). -/
def framesOf (q : Seq) (bs : List Nat) : List Nat :=
  if q.paged then bs.filterMap (fun b => tget none q.pt b) else []

/-! ### Writing and reading keys and values (R171, R172) -/

def sigmaOf (q : Seq) (l g : Nat) : Nat × Nat := q.sigma.getD (l * q.kvHeads + g) (0x3F800000, 0x3F800000)

/-- Element and block codes of one head row (R171): the bytes of elements and of codes. -/
def kvBytes (fmt : Nat) (sg : Nat) (vs : List FV) : List Byte × List Byte :=
  if fmt = 3 then (packRow 3 (vs.map (enc e4m3)), [])
  else
    let bs := (blocks32 (vs.length / 32 + 1) (vs.map (fun v => fdiv v (fp32Of sg)))).map (blockCodes (qmax fmt))
    (packRow fmt ((bs.map (fun b => b.2.1)).flatten.map (twos (if fmt = 2 then 4 else 8))),
     bs.map (fun b => BitVec.ofNat 8 b.1))

/-- Store one row of K (or V) of head g at page address `p`, row r. -/
def putKv (s : State) (q : Seq) (p g r : Nat) (isV : Bool) (bs : List Byte × List Byte) : State :=
  let o := p + g * headBytes q + (if isV then 64 * ebOf q + 64 * codesRow q else 0)
  storeBytes (storeBytes s (o + r * ebOf q) bs.1) (o + 64 * ebOf q + r * codesRow q) bs.2

/-- One head row of K (or V) as exact values q x c. -/
def getKv (s : State) (q : Seq) (p g r : Nat) (isV : Bool) : List FV :=
  let o := p + g * headBytes q + (if isV then 64 * ebOf q + 64 * codesRow q else 0)
  let row : Opnd := { rows := 1, cols := q.headDim, pitch := ebOf q, fmt := q.fmt }
  (List.range q.headDim).map (fun d =>
    let v := valElem q.fmt (rawElem s (o + r * ebOf q) row 0 d)
    if q.fmt = 3 then v
    else
      let c := (mrd s (o + 64 * ebOf q + r * codesRow q + d / 32)).toNat
      if c = 0 then .zero false else fmul v (fint c))

/-- IEEE binary16 (R172). -/
def fp16 : Fmt := ⟨10, -14, 5, 2047, 5, true⟩

/-- The summary key of head g of a full page (R172). -/
def summaryKey (s : State) (q : Seq) (p l g : Nat) : List Nat :=
  let sk := fp32Of (sigmaOf q l g).1
  let rows := (List.range 64).map (fun r => getKv s q p g r false)
  (List.range q.headDim).map (fun d =>
    let sum := rows.foldl (fun a row => rn32 (fadd a (fmul (row.getD d .nan) sk))) (.zero false)
    enc fp16 (fmul sum (fq 1 64)))

def putSummary (s : State) (q : Seq) (p l : Nat) : State :=
  (List.range q.kvHeads).foldl (fun s g =>
    storeBytes s (p + q.kvHeads * headBytes q + g * q.headDim * 2) ((summaryKey s q p l g).map (leBytes 2)).flatten) s

def slice {α : Type} (l : List α) (a n : Nat) : List α := (l.drop a).take n

/-- Write position `pos` of layer l from rows of K and V (all heads), and the summary when it fills a page. -/
def putPos (s : State) (q : Seq) (l pos : Nat) (k v : List FV) : State :=
  match pageAddr s q (pos / 64) l with
  | none => s
  | some p =>
    let r := pos % 64
    let s := (List.range q.kvHeads).foldl (fun s g =>
      let sg := sigmaOf q l g
      putKv (putKv s q p g r false (kvBytes q.fmt sg.1 (slice k (g * q.headDim) q.headDim)))
        q p g r true (kvBytes q.fmt sg.2 (slice v (g * q.headDim) q.headDim))) s
    if r = 63 then putSummary s q p l else s

/-! ### The attention row (R169, R196) -/

/-- Online softmax state: m, l and acc, and whether a score was NaN, +infinity or -infinity. -/
structure Soft where
  m : FV := .inf true
  l : FV := .zero false
  acc : List FV := []
  nan : Bool := false
  pos : Bool := false
  neg : Bool := false
  deriving DecidableEq, Repr, Inhabited

def dotBlocks (q k : List FV) : Nat → FV → FV
  | 0, a => a
  | n + 1, a =>
    if q.isEmpty then a
    else
      let b := ((q.take 32).zip (k.take 32)).foldl (fun t p => fadd t (fmul p.1 p.2)) (.zero false)
      let b := if fisZero b then .zero false else b
      dotBlocks (q.drop 32) (k.drop 32) n (rn32 (fadd a (rn32 b)))

/-- Maximum with NaN above every number (R169). -/
def nmax (x y : FV) : FV := if x = .nan ∨ y = .nan then .nan else if flt x y then y else x

/-- EXP2 of R140 on an FP32 value: a subnormal reads as zero. -/
def exp2q (x : FV) : FV :=
  rn32 (fexp2 (if isSubnormal fp32 (encodeF fp32 x) then .zero (fisNeg x) else x))

/-- One 64-position block of the loop of R169. `ks` and `vs` are the attended rows of the block. -/
def softBlock (f : FV) (q : List FV) (ks vs : List (List FV)) (t : Soft) : Soft :=
  let sc := ks.map (fun k => rn32 (fmul (dotBlocks q k (q.length / 32 + 1) (.zero false)) f))
  let mnew := sc.foldl nmax t.m
  let alpha := exp2q (rn32 (fsub t.m mnew))
  let e := sc.map (fun x => exp2q (rn32 (fsub x mnew)))
  let eb := e.map (rn bf16)
  let l := rn32 (fadd (rn32 (fmul t.l alpha)) (e.foldl (fun a x => rn32 (fadd a x)) (.zero false)))
  let half (h d : Nat) : FV :=
    let x := ((slice eb (32 * h) 32).zip (slice vs (32 * h) 32)).foldl
      (fun a p => fadd a (fmul p.1 (p.2.getD d .nan))) (.zero false)
    rn32 (if fisZero x then .zero false else x)
  let pv (d : Nat) : FV := (List.range (ceilDiv ks.length 32)).foldl (fun a h => rn32 (fadd a (half h d))) (.zero false)
  { m := mnew, l := l, acc := t.acc.mapIdx (fun d a => rn32 (fadd (rn32 (fmul a alpha)) (pv d)))
    nan := t.nan || sc.contains .nan, pos := t.pos || sc.contains (.inf false), neg := t.neg || sc.contains (.inf true) }

/-- The scores of the row include a NaN, or infinities of both signs (R169). -/
def Soft.bad (t : Soft) : Bool := t.nan || (t.pos && t.neg)

/-- Run blocks `bs` of a row whose last attended position is `last`. -/
def softBlocks (s : State) (q : Seq) (l g last : Nat) (f : FV) (qr : List FV) : List Nat → Soft → Soft
  | [], t => t
  | b :: bs, t =>
    match pageAddr s q b l with
    | none => softBlocks s q l g last f qr bs t
    | some p =>
      let n := min 64 (last + 1 - 64 * b)
      let ks := (List.range n).map (fun i => getKv s q p g i false)
      let vs := (List.range n).map (fun i => getKv s q p g i true)
      softBlocks s q l g last f qr bs (softBlock f qr ks vs t)

def softInit (hd : Nat) : Soft := { acc := List.replicate hd (.zero false) }

def softEnd (sv : FV) (t : Soft) : List FV :=
  t.acc.map (fun a => rn bf16 (rn32 (fdiv (rn32 (fmul a sv)) t.l)))

/-- Merge of two partials in ascending shard order (R196). -/
def softMerge (t p : Soft) : Soft :=
  let mnew := nmax t.m p.m
  let a := exp2q (rn32 (fsub t.m mnew))
  let b := exp2q (rn32 (fsub p.m mnew))
  { m := mnew, l := rn32 (fadd (rn32 (fmul t.l a)) (rn32 (fmul p.l b))),
    acc := (t.acc.zip p.acc).map (fun x => rn32 (fadd (rn32 (fmul x.1 a)) (rn32 (fmul x.2 b))))
    nan := t.nan || p.nan, pos := t.pos || p.pos, neg := t.neg || p.neg }

/-- How a row selects its blocks: LOCAL, RING over G shards, COARSE (R169, R196, R200). -/
inductive AttnMode where
  | loc
  | ring (g nb : Nat)
  | coarse (topP winW : Nat)
  deriving DecidableEq, Repr, Inhabited

/-- Candidate with a higher score goes first, ties to the lower block (R200). -/
def insScore (x : Nat × FV) : List (Nat × FV) → List (Nat × FV)
  | [] => [x]
  | y :: t => if flt y.2 x.2 || (decide (x.2 = .nan) && decide (y.2 ≠ .nan)) then x :: y :: t else y :: insScore x t

def insNat (x : Nat) : List Nat → List Nat
  | [] => [x]
  | y :: t => if x < y then x :: y :: t else if x = y then y :: t else y :: insNat x t

/-- The page of block b is full: its summary is valid (R172). -/
def pageFull (q : Seq) (l b : Nat) : Bool := decide (64 * b + 64 ≤ lenOf q l)

/-- The candidates of a COARSE row: the full pages before its window (R200). -/
def coarseCands (q : Seq) (l lastB winW : Nat) : List Nat :=
  (List.range (lastB + 1 - max winW 1)).filter (fun b => pageFull q l b)

/-- The blocks a COARSE row visits (R200). -/
def coarseSel (s : State) (q : Seq) (l g lastB topP winW : Nat) (sm : FV) (qr : List FV) : List Nat :=
  let lo := lastB + 1 - max winW 1
  let sel := (List.range (lastB + 1 - lo)).map (· + lo)
  let sc := (coarseCands q l lastB winW).filterMap (fun b => (pageAddr s q b l).map (fun p =>
    let base := p + q.kvHeads * headBytes q + g * q.headDim * 2
    let dotp := (qr.mapIdx (fun d x => (d, x))).foldl
      (fun a dx => rn32 (fadd a (fmul dx.2 (decodeF fp16 (rdLe s (base + 2 * dx.1) 2))))) (.zero false)
    (b, rn32 (fmul dotp sm))))
  ((sc.foldl (fun l x => insScore x l) []).take topP).foldl (fun l x => insNat x.1 l) sel

/-- Output of one row of one head, and whether its scores make it NaN (R169). -/
def attnRow (s : State) (q : Seq) (l g last : Nat) (sm : Nat) (mode : AttnMode) (qr : List FV) : List FV × Bool :=
  let f := rn32 (fmul (fp32Of (sigmaOf q l g).1) (fp32Of sm))
  let sv := fp32Of (sigmaOf q l g).2
  let run (bs : List Nat) : Soft := softBlocks s q l g last f qr bs (softInit q.headDim)
  let all := List.range (last / 64 + 1)
  let done (t : Soft) : List FV × Bool := (softEnd sv t, t.bad)
  match mode with
  | .loc => done (run all)
  | .coarse p w => done (run (coarseSel s q l g (last / 64) p w (fp32Of sm) qr))
  | .ring n nb =>
    let shard (j : Nat) : List Nat := all.filter (fun b => decide (j * nb / n ≤ b) && decide (b < (j + 1) * nb / n))
    let parts := ((List.range n).map shard).filter (fun x => !x.isEmpty)
    done ((parts.map run).foldl softMerge (softInit q.headDim))

/-! ### ATTN descriptors (R167, R170, R197) -/

structure Attn where
  q : Opnd
  o : Opnd
  k : Opnd
  v : Opnd
  seq : Nat
  layer : Nat
  headDim : Nat
  qHeads : Nat
  kvHeads : Nat
  qPos : Nat
  kvLen : Nat
  sm : Nat
  mode : Nat
  causal : Bool
  append : Bool
  topP : Nat
  winW : Nat
  deriving DecidableEq, Repr, Inhabited

def attnOf (bs : List Byte) : Attn :=
  { q := opnd bs 0x10, o := opnd bs 0x20, k := opnd bs 0x30, v := opnd bs 0x40, seq := le bs 0x50 2,
    layer := le bs 0x52 2, headDim := le bs 0x54 2, qHeads := le bs 0x56 1, kvHeads := le bs 0x57 1,
    qPos := le bs 0x58 4, kvLen := le bs 0x5C 4, sm := le bs 0x60 4, mode := bits (le bs 0x64 1) 1 0,
    causal := bit (le bs 0x64 1) 2, append := bit (le bs 0x64 1) 3, topP := le bs 0x65 1, winW := le bs 0x66 1 }

/-- The shape checks of an ATTN (R119). -/
def attnOk (a : Attn) : Bool :=
  opndOk a.q && opndOk a.o && decide (a.q.fmt = 5) && decide (a.o.fmt = 5) && decide (a.q.rows = a.o.rows) &&
  decide (a.q.cols = a.o.cols) && decide (a.q.rows ≤ 4096) && decide (a.headDim ∈ [64, 128, 256]) &&
  decide (1 ≤ a.qHeads) && decide (a.qHeads ≤ 128) && decide (1 ≤ a.kvHeads) && decide (a.qHeads % a.kvHeads = 0) &&
  decide (a.q.cols = a.qHeads * a.headDim) && decide (1 ≤ a.kvLen) && decide (a.kvLen ≤ 65536) && decide (a.mode ≤ 2) &&
  (if a.mode = 2 then decide (8 ≤ a.topP) && decide (a.topP ≤ 64) && decide (a.winW ≤ 64)
   else decide (a.topP = 0) && decide (a.winW = 0)) &&
  (if a.append then
     opndOk a.k && opndOk a.v && decide (a.k.fmt = 5) && decide (a.v.fmt = 5) && decide (a.k.rows = a.q.rows) &&
     decide (a.v.rows = a.q.rows) && decide (a.k.cols = a.kvHeads * a.headDim) && decide (a.v.cols = a.kvHeads * a.headDim)
   else unusedOpnd a.k && unusedOpnd a.v)

/-- The cause an ATTN faults with against its sequence (R167). -/
def attnCause (s : State) (key : Nat) (a : Attn) : Option Nat :=
  match seq s key with
  | none => some 0x0301
  | some q =>
    let n := lenOf q a.layer
    let t := if a.append then a.q.rows else 0
    if q.layers ≤ a.layer ∨ a.headDim ≠ q.headDim ∨ a.kvHeads ≠ q.kvHeads then some 0x0101
    else if a.append ∧ a.qPos ≠ n then some 0x0302
    else if a.append ∧ q.maxLen < a.qPos + t then some 0x0303
    else if n + t < a.kvLen then some 0x0303
    else none

/-- Last attended position of query row t (R167 context). -/
def lastOf (a : Attn) (t : Nat) : Nat := if a.causal then min (a.kvLen - 1) (a.qPos + t) else a.kvLen - 1

/-- Append the new keys and values (R168, R171). -/
def appendRows (s : State) (c : Ctx) (key : Nat) (a : Attn) : State :=
  match seq s key with
  | none => s
  | some q =>
    (List.range a.q.rows).foldl (fun s t =>
      putPos s q a.layer (a.qPos + t) (rowVals s c a.k t) (rowVals s c a.v t)) s

/-- The view of the sequence a row reads: its lengths with the append included (R168). -/
def withAppend (q : Seq) (a : Attn) : Seq :=
  if a.append then { q with len := listSet q.len a.layer (lenOf q a.layer + a.q.rows) } else q

/-- Compute and write every output row; each NaN row of a head sets NAN_ROW and counts (R11, R169). -/
def attnOut (s : State) (c : Ctx) (q : Seq) (a : Attn) (mode : AttnMode) : State :=
  (List.range a.q.rows).foldl (fun s t =>
    let qr := rowVals s c a.q t
    let out := (List.range a.qHeads).map (fun h =>
      attnRow s q a.layer (h / (a.qHeads / a.kvHeads)) (lastOf a t) a.sm mode (slice qr (h * a.headDim) a.headDim))
    let s := writeRow s c a.o t ((out.map (·.1)).flatten.map (encodeF bf16))
    flagN s (0x300004 + c.core * 0x10000) 0 (out.filter (·.2)).length) s

def attnNb (a : Attn) : Nat := lastOf a (a.q.rows - 1) / 64 + 1

/-- R170 for `rows` query rows that visit `nb` blocks. -/
def loupeClocks (a : Attn) (rows nb : Nat) : Nat :=
  let rq := rows * a.qHeads / a.kvHeads
  a.kvHeads * nb * (2 * max (2 * rq * ceilDiv a.headDim 128) 16 + rq) + 400

/-- Nominal clocks in LOCAL and RING mode (R170, R197). -/
def attnClocks (a : Attn) (g : Nat) : Nat := loupeClocks a a.q.rows (attnNb a) + 200 * g

/-- The blocks a row of a COARSE ATTN visits, over all heads (R200). -/
def rowSel (s : State) (c : Ctx) (q : Seq) (a : Attn) (p w t : Nat) : List Nat :=
  ((List.range a.qHeads).map (fun h =>
    coarseSel s q a.layer (h / (a.qHeads / a.kvHeads)) (lastOf a t / 64) p w (fp32Of a.sm)
      (slice (rowVals s c a.q t) (h * a.headDim) a.headDim))).flatten.eraseDups

/-- Nominal clocks of a COARSE ATTN: R170 for each set of up to 16 rows over the union of their selections, and the scoring (R200).
They are computed at issue, so an ATTN that appends scores the pages that are full before its append (DESIGN CHOICE,
notes/assumptions/77.md). -/
def coarseClocks (s : State) (c : Ctx) (q : Seq) (a : Attn) : Nat :=
  ((List.range (ceilDiv a.q.rows 16)).map (fun i =>
    let ts := (List.range (min 16 (a.q.rows - 16 * i))).map (· + 16 * i)
    let u := (ts.map (rowSel s c q a a.topP a.winW)).flatten.eraseDups
    let cs := coarseCands q a.layer (lastOf a (16 * i + ts.length - 1) / 64) a.winW
    loupeClocks a ts.length u.length + a.kvHeads * ceilDiv cs.length 16 * (ts.length * a.qHeads / a.kvHeads))).foldl (· + ·) 0

/-! ### The ring (R193, R198) -/

def linkUp (s : State) (k : Nat) : Bool := s.ring.trained && s.ring.up.testBit (k % 8)
def linksDown (s : State) : Nat := ((List.range 8).filter (fun k => !linkUp s k)).length

/-- 0 NOT_READY, 1 FULL, 2 FOLDED, 3 SPLIT. -/
def ringState (s : State) : Nat :=
  if !s.ring.trained then 0 else if linksDown s = 0 then 1 else if linksDown s = 1 then 2 else 3

/-- Cores START to START + G - 1 lie in one arc: every link between neighbours among them is UP, or at most
one link of the ring is DOWN, which leaves one arc of eight (R193). -/
def oneArc (s : State) (start g : Nat) : Bool :=
  s.ring.trained &&
  ((List.range (g - 1)).all (fun i => linkUp s (start + i)) || decide (linksDown s ≤ 1))

def group (s : State) (g : Nat) : Option RGroup := tget none s.ring.groups g

/-- The links make a RING ATTN of the group run as COARSE (R198). -/
def arcFalls (s : State) (r : RGroup) : Bool := decide (ringState s = 0) || !oneArc s r.start r.g

/-- A RING ATTN of the group that issues now runs as COARSE (R198). -/
def ringFalls (s : State) (r : RGroup) : Bool := bit (rg s 0x70000) 0 || arcFalls s r

end Sys2Proof.Machine
end

