-- ==== Sys2Proof/Machine/Shutter.lean ====
section
/-! DEFINITION. Operations on lanes, the Shutter table, the marker outputs and the encoder (R32 to R39,
R51 to R54, R57 to R72, R397, R401, R342). -/

namespace Sys2Proof.Machine

/-! ### Jobs and lane copies -/

def LaneCfg.pixStart (c : LaneCfg) : Nat := bits c.span.toNat 15 0
def LaneCfg.pixEnd (c : LaneCfg) : Nat := bits c.span.toNat 31 16
def LaneCfg.gap (c : LaneCfg) : Nat := bits c.job.toNat 11 10
def LaneCfg.slot (c : LaneCfg) : Nat := bits c.job.toNat 5 0
def LaneCfg.rejectMk (c : LaneCfg) : Nat := bits c.markers.toNat 3 0
def LaneCfg.markMk (c : LaneCfg) : Nat := bits c.markers.toNat 7 4
def LaneCfg.markEn (c : LaneCfg) : Bool := bit c.markers.toNat 8
def LaneCfg.objSlots (c : LaneCfg) : Nat := bits c.slots.toNat 8 0

/-- LEN_LINES and WID_PIX (R29). -/
def lenLines (i : JobImage) : Nat := ceilDiv (i.design.h * 65536) i.design.pL
def widPix (i : JobImage) : Nat := ceilDiv (i.design.w * 65536) i.design.pX

def laneImg (s : State) (c : LaneCfg) : JobImage := (job s c.slot).img

/-- The output of the fail-safe action (R68), and of an action. -/
def failOut (i : JobImage) (c : LaneCfg) : Nat := if i.failMark then c.markMk else c.rejectMk
def failAction (i : JobImage) : Action := if i.failMark then .mark else .reject

/-- The lane names output `n` in its active copy; MARK_MK counts only with MARK_EN set (R342). -/
def names (c : LaneCfg) (n : Nat) : Bool := decide (c.rejectMk = n) || (c.markEn && decide (c.markMk = n))

def isActive (st : LaneSt) : Bool := decide (st = .acquiring) || decide (st = .running) || decide (st = .stopping)

def laneCode : LaneSt → Nat
  | .stopped => 0 | .acquiring => 1 | .running => 2 | .stopping => 3 | .outOfService => 4

def inflight (l : Lane) : Nat := (l.objs.filter (fun o => !o.late)).length

/-- Lanes listed in the state (all others hold their reset value). -/
def laneIds (s : State) : List Nat := s.lanes.map (·.1)

/-! ### Shutter entries -/

def hostN (s : State) : Nat := rf s 0x20040 10 0

/-- Entries outside the host partition that nothing holds (TMU_SH_FREE). -/
def shFree (s : State) : Nat :=
  4096 - hostN s - (s.sht.filter (fun e => decide (hostN s ≤ e.1) && decide (e.2.owner ≠ .free))).length

def findFree (s : State) : Nat → Nat → Option Nat
  | 0, _ => none
  | n + 1, k => if (ent s k).owner = .free then some k else findFree s n (k + 1)

/-- The lowest free hardware entry. -/
def freeEntry (s : State) : Option Nat := findFree s (4096 - hostN s) (hostN s)

/-- Word 2 of an entry (R62). -/
def word2 (valid dev : Bool) (typ ln out len : Nat) : Word :=
  BitVec.ofNat 32 (b2n valid * 2 ^ 31 + b2n dev * 2 ^ 30 + typ % 16 * 2 ^ 26 + ln % 32 * 2 ^ 21 + out % 16 * 2 ^ 16 + len % 2 ^ 16)

/-- The hardware arms entry `k` (R64, R65). -/
def armHw (s : State) (k : Nat) (own : Owner) (dev : Bool) (typ ln out len par target : Nat) : State :=
  setEnt s k { w0 := BitVec.ofNat 32 target, w1 := BitVec.ofNat 32 (target / 2 ^ 32),
               w2 := word2 true dev typ ln out len, w3 := BitVec.ofNat 32 par,
               owner := own, armed := true, dev := dev, typ := typ, lane := ln, out := out, len := len,
               par := par, target := target }

/-- An entry reserved and idle. -/
def idleEntry (own : Owner) : Entry := { owner := own }

/-- How many object entries a lane may hold (R397). -/
def allowedSlots (l : Lane) : Nat :=
  if l.startPend then
    (if l.st = .stopped then l.pend.objSlots else max l.act.objSlots l.pend.objSlots)
  else if l.st = .stopped then 0 else l.act.objSlots

/-- A host entry frees: VALID clears, and words 0, 1 and 3 keep what the host has written since it was armed (R65, R66). -/
def freeHost (e : Entry) : Entry := { w0 := e.w0, w1 := e.w1, w2 := e.w2 &&& 0x7FFFFFFF, w3 := e.w3 }

/-- An entry frees: a lane's entry goes back to its reservation or, where that is too large, to the free
pool; any other entry becomes free (R66, R397). -/
def releaseEntry (s : State) (k : Nat) : State :=
  match (ent s k).owner with
  | .lane n =>
    let l := lane s n
    if allowedSlots l < l.entries.length ∨ l.entries.contains k = false then
      setEnt (setLane s n { l with entries := l.entries.filter (· ≠ k) }) k {}
    else setEnt s k (idleEntry (.lane n))
  | .host => setEnt s k (freeHost (ent s k))
  | _ => setEnt s k {}

/-- Idle entries a lane holds beyond its reservation return to the free pool (R397). -/
def trimEntries (s : State) (n : Nat) : List Nat → State
  | [] => s
  | k :: t =>
    let l := lane s n
    if allowedSlots l < l.entries.length ∧ (ent s k).armed = false ∧ (ent s k).asserted = false then
      trimEntries (setEnt (setLane s n { l with entries := l.entries.filter (· ≠ k) }) k {}) n t
    else trimEntries s n t

def trimLane (s : State) (n : Nat) : State := trimEntries s n (lane s n).entries

/-- Reserve `m` more object entries for a lane (R397). -/
def reserveEntries (s : State) (n : Nat) : Nat → State
  | 0 => s
  | m + 1 =>
    match freeEntry s with
    | none => s
    | some k =>
      reserveEntries (setLane (setEnt s k (idleEntry (.lane n))) n
        { lane s n with entries := (lane s n).entries ++ [k] }) n m

def reserveSpan (s : State) (n : Nat) : State :=
  match (lane s n).spanEntry with
  | some _ => s
  | none =>
    match freeEntry s with
    | none => s
    | some k => setLane (setEnt s k (idleEntry (.lane n))) n { lane s n with spanEntry := some k }

/-- Nothing is armed in the entry and no pulse runs in it. -/
def entIdle (s : State) (k : Nat) : Bool := !((ent s k).armed || (ent s k).asserted)

/-- The entry holds a LANE_START or a LANE_STOP (R62). -/
def holdsLine (s : State) (k : Nat) : Bool := (ent s k).armed && (decide ((ent s k).typ = 4) || decide ((ent s k).typ = 5))

/-- A reserved entry of the lane that no object uses (R39). An entry of a start or stop line gives way to an object: the lane
itself keeps the line (notes/assumptions/18.md). -/
def idleSlot (s : State) (n : Nat) : Option Nat :=
  let l := lane s n
  let open' (k : Nat) : Bool := entIdle s k || holdsLine s k
  if (l.entries.filter (fun k => !open' k)).length < l.act.objSlots then (l.entries.find? (entIdle s)).orElse (fun _ => l.entries.find? open') else none

/-- A scheduled start or stop line stands in an idle entry of the lane's reservation, if one is idle (R62; DESIGN CHOICE,
notes/assumptions/18.md). -/
def armLine (s : State) (n typ target : Nat) : State :=
  match (lane s n).entries.find? (entIdle s) with
  | none => s
  | some k => armHw s k (.lane n) false typ n 0 0 0 target

/-- The entry of a line that fires or is cancelled frees (R66). -/
def freeLine (s : State) (n typ : Nat) : State :=
  ((lane s n).entries.filter (fun k => (ent s k).armed && decide ((ent s k).typ = typ))).foldl releaseEntry s

/-! ### Gap spans -/

/-- The web time at which a span's drive ends: its end at the gate, at a whole line; a line count whose low 32 bits
are all ones runs one line longer (R63). -/
def spanEndLine (e : Nat) : Nat :=
  let k := ceilDiv e 65536
  if k % 2 ^ 32 = 0xFFFFFFFF then k + 1 else k

/-- The span entry shows the lane's first span (R62, R63). -/
def syncSpan (s : State) (n : Nat) : State :=
  let l := lane s n
  match l.spanEntry with
  | none => s
  | some k =>
    match l.spans.filter (·.drives) with
    | [] => setEnt s k (idleEntry (.lane n))
    | x :: _ =>
      let far := match x.stop with
        | none => 0xFFFFFFFF
        | some e =>
          let m := spanEndLine (e + x.gate * 65536)
          if m < s.tmu.line + 2 ^ 31 then m % 2 ^ 32 else 0xFFFFFFFF
      armHw s k (.lane n) false 7 n x.out 0 far (x.start + x.gate * 65536)

def addSpan (s : State) (n : Nat) (x : Span) : State :=
  syncSpan (setLane s n { lane s n with spans := (lane s n).spans ++ [x] }) n

/-- Open the gap span of a lane from `start` (R38). Only GAP_ACTION 1 drives: the reserved values 2 and 3 act as NONE (DESIGN
CHOICE, notes/assumptions/77.md). -/
def openGap (s : State) (n start cause : Nat) : State :=
  let l := lane s n
  let i := laneImg s l.act
  addSpan s n { start := start, cause := cause, gate := i.gateOfs, out := failOut i l.act, drives := decide (l.act.gap = 1) }

/-- Close the lane's open gap at `stop` and report it (R38, R295). -/
def closeGap (s : State) (n stop : Nat) : State :=
  let l := lane s n
  match l.spans.find? (fun x => decide (x.stop = none)) with
  | none => s
  | some x =>
    let e := max stop x.start
    let ys := l.spans.map (fun y => if y.stop = none then { y with stop := some e } else y)
    let s := setLane s n { l with spans := ys.filter (fun y => y.drives && decide (y.stop ≠ some y.start)) }
    let s := if x.start < stop then
        report s 0x0201 (some n) 0 0 (leBytes 8 x.start ++ leBytes 8 stop ++ leBytes 1 x.cause) else s
    syncSpan s n

/-! ### Marker outputs -/

def mkCfg (s : State) (n : Nat) : Nat := rg s (0x20100 + 4 * n)
def leadLines (s : State) (n : Nat) : Nat := bits (mkCfg s n) 27 16
def leadT (s : State) (n : Nat) : Nat := bits (mkCfg s n) 15 0
def pol (s : State) (n : Nat) : Bool := bit (mkCfg s n) 30

/-- The lane holds its fail-safe output on `n` (R60, R68, R335, R336). -/
def laneHolds (s : State) (l : Lane) (n : Nat) : Bool :=
  ((l.encHold || l.oosHold) && decide (failOut (laneImg s l.act) l.act = n)) ||
  l.spans.any (fun x => x.driving && decide (x.out = n))

/-- Output `n` is commanded active, by either copy of the table: the OR of pulses, holds, spans and tier C holds, and of what only
copy B commands (R51, R68, R74, R342). -/
def outActive (s : State) (n : Nat) : Bool :=
  s.sht.any (fun e => e.2.asserted && decide (e.2.out = n)) ||
  s.lanes.any (fun e => laneHolds s e.2 n) || bit s.flt.hold n || bit s.tmu.dupB n

/-- Boundary-scan instructions that act on pins take effect (R354). -/
def bscanOk (s : State) : Bool :=
  s.pins.perst || (decide (s.dbg.lock = 2) && s.lanes.all (fun e => decide (e.2.st = .stopped)))

/-- The outputs are high-impedance (R72, R354, R385). -/
def outsHiZ (s : State) : Bool :=
  !s.boot.everReady || s.pins.thermtrip || !s.pins.pwrok || (decide (s.dbg.tap = 5) && bscanOk s)

/-- The commanded electrical level of output `n` after POL (R401). -/
def cmdLevel (s : State) (n : Nat) : Bool := xor (if outsHiZ s then false else outActive s n) (pol s n)

def levelWord (s : State) : Nat :=
  (List.range 16).foldl (fun a n => a + b2n (cmdLevel s n) * 2 ^ n) 0

/-! ### The line-rate estimate -/

def advSum (l : List (Nat × Nat)) (since : Nat) : Nat :=
  (l.filter (fun e => decide (since ≤ e.1))).foldl (fun a e => a + e.2) 0

/-- TMU_RATE, unsigned 24.8 lines per second (R396). While fewer than 256 advances have been made, W reaches back to the oldest
of them; the quotient is rounded down and stays below 2^32 (DESIGN CHOICE, notes/assumptions/77.md). -/
def rate (s : State) : Nat :=
  match s.tmu.adv with
  | [] => 0
  | l@(x :: _) =>
    let t256 := ((l.take 256).getLast?.getD x).1
    let start := min (dt s - 1000000) t256
    let w := max 1000000 (dt s - start)
    min 0xFFFFFFFF (advSum l start * 1000000000 / (256 * w))

/-- Record an advance of web time, keeping what R396 can still ask for. -/
def pushAdv (s : State) (d : Nat) : State :=
  let l := (dt s, d) :: s.tmu.adv
  { s with tmu := { s.tmu with adv := l.take 256 ++ (l.drop 256).filter (fun e => decide (dt s < e.1 + 1000001)) } }

/-- Web time + TMU_RATE x LEAD_T has reached `t` (R70). -/
def leadReached (s : State) (out t : Nat) : Bool :=
  decide (t * 10000000 ≤ wt s * 10000000 + rate s * leadT s out * 256)

/-! ### Lane state changes -/

def putLaneState (s : State) (n : Nat) (st : LaneSt) (cause : Nat) : State :=
  let l := lane s n
  report (setLane s n { l with st := st }) 0x0203 (some n) 0 0
    (leBytes 1 (laneCode l.st) ++ leBytes 1 (laneCode st) ++ leBytes 2 cause)

/-- Registration of every origin before the stop line is settled (R52): no search window reaches before it any more, or the last
that did has closed; a lane that does not predict searches for one pitch past the stop line. -/
def regSettled (s : State) (l : Lane) : Bool :=
  let d := (laneImg s l.act).design
  match l.lastOrigin with
  | some o => decide (l.stopLine + d.search * 65536 ≤ o + d.pitch) || (decide (l.stopLine ≤ o + d.pitch) && l.winDone)
  | none => decide (l.stopLine + d.pitch ≤ wt s)

/-- A STOPPING lane that has settled registration and has no objects in flight becomes STOPPED (R35). -/
def checkStopped (s : State) (n : Nat) : State :=
  let l := lane s n
  if l.st = .stopping ∧ inflight l = 0 ∧ regSettled s l then trimLane (putLaneState s n .stopped 0) n else s

def sameDesign (a b : Design) : Bool := decide ({ a with background := [] } = { b with background := [] })

/-- The scheduled start takes effect: the pending copy becomes active in one step (R36, R54). The lane enters ACQUIRING from any
state, ACQUIRING among them, and LANE_STATE gives both (DESIGN CHOICE, notes/assumptions/77.md). -/
def startNow (s : State) (n : Nat) : State :=
  let s := freeLine (freeLine s n 4) n 5
  let l := lane s n
  let i := laneImg s l.pend
  let cont := (decide (l.st = .running) && (l.stopPend && decide (l.stopLine = l.startLine)) &&
                sameDesign (laneImg s l.act).design i.design)
  let s := closeGap s n l.startLine
  let l := lane s n
  let l' := { l with act := l.pend, startPend := false, stopPend := false,
                     prev := if l.st = .stopped then none else some (l.act, l.stopLine, l.lastOrigin),
                     nextSeq := if l.st = .stopped then 0 else l.nextSeq,
                     startedAt := some l.startLine, winDone := false,
                     lastOrigin := if cont then l.lastOrigin else none }
  let s := setLane s n l'
  let s := if cont then s else openGap (putLaneState s n .acquiring 0) n l.startLine 0
  trimLane s n

/-- The stop line is reached: STOPPING, and the gap from the stop line opens (R35, R38, R52). -/
def stopNow (s : State) (n : Nat) : State :=
  let s := freeLine s n 5
  let l := lane s n
  let s := closeGap s n l.stopLine
  let s := setLane s n { lane s n with stopPend := false }
  checkStopped (openGap (putLaneState s n .stopping 0) n l.stopLine 1) n

/-! ### Encoder -/

/-- Several flags set by one event, which counts once (R60). -/
def flagsOne (s : State) (off : Nat) (bs : List Nat) : State :=
  bump (rsetN s off (bs.foldl (fun v b => putBit v b true) (rg s off))) (cntOf off) 1

/-- An active lane holds its fail-safe output and reports (R60). A lane that has become STOPPED while it still holds writes no new
report: only its advance starts again (DESIGN CHOICE, notes/assumptions/77.md). -/
def encFaultLane (cause : Nat) (s : State) (n : Nat) : State :=
  let l := lane s n
  if isActive l.st then
    report (setLane s n { l with encHold := true, encFrom := none }) 0x0301 (some n) 0 0
      (leBytes 4 s.tmu.debt ++ leBytes 1 cause)
  else if l.encHold then setLane s n { l with encFrom := none } else s

/-- A fault condition of the encoder with the flags of its event (R60). -/
def encCondition (s : State) (bs : List Nat) (cause : Nat) : State :=
  let was := bit (rg s 0x20004) 2
  let s := flagsOne s 0x20004 (2 :: bs)
  if was then s else (laneIds s).foldl (encFaultLane cause) s

/-- One encoder count in either direction against the check period (R60). -/
def periodCount (s : State) : State :=
  let zEn := bit (rg s 0x20010) 3
  let z := s.tmu.zCnt + 1
  if zEn then
    if rg s 0x20018 + rf s 0x20010 27 20 + 1 ≤ z then
      encCondition { s with tmu := { s.tmu with zCnt := 0, ill := 0, perCnt := 0 } } [1] 2
    else { s with tmu := { s.tmu with zCnt := z } }
  else if s.tmu.perCnt + 1 = 65536 then { s with tmu := { s.tmu with zCnt := z, perCnt := 0, ill := 0 } }
  else { s with tmu := { s.tmu with zCnt := z, perCnt := s.tmu.perCnt + 1 } }

/-- The tier C hold of output `n` may end (R342). -/
def holdDone (s : State) (n : Nat) : Bool :=
  let ls := (s.lanes.map (·.2)).filter (fun l => l.startedAt ≠ none && names l.act n)
  decide (ls ≠ []) && ls.all (fun l =>
    (decide (l.st = .acquiring) || decide (l.st = .running)) &&
    (match l.startedAt with
     | none => false
     | some a => decide (a + ((laneImg s l.act).gateOfs + lenLines (laneImg s l.act)) * 65536 ≤ wt s)))

def releaseHolds (s : State) : State :=
  { s with flt := { s.flt with hold := (List.range 16).foldl (fun h n => if bit h n && holdDone s n then putBit h n false else h) s.flt.hold } }

/-- What follows an advance of web time: encoder holds, tier C holds and stopping lanes (R52, R60, R342). -/
def afterAdvanceLane (s : State) (n : Nat) : State :=
  let l := lane s n
  let i := laneImg s l.act
  let done := match l.encFrom with
    | none => false
    | some a => !(bit (rg s 0x20004) 2) && decide (a + (i.gateOfs + lenLines i) * 65536 ≤ wt s)
  checkStopped (if done then setLane s n { l with encHold := false, encFrom := none } else s) n

def afterAdvance (s : State) : State := (laneIds s).foldl afterAdvanceLane (releaseHolds s)

/-- Web time advances to line count, remainder and published fraction (R57, R396). -/
def advanceTo (s : State) (line rem frac : Nat) : State :=
  let old := wt s
  let s := { s with tmu := { s.tmu with line := line, rem := rem, frac := frac } }
  afterAdvance (pushAdv s (wt s - old))

end Sys2Proof.Machine
end

