-- ==== Sys2Proof/Machine/FaultOps.lean ====
section
/-! DEFINITION. Deferred page-table edits and step boundaries (R180 to R182), fault records, context reset,
escalation (R323 to R342). -/

namespace Sys2Proof.Machine

/-! ### Page-table edits (R180, R181) -/

/-- Invalidate every block at or beyond position n (R180). -/
def dropBlocks (k n : Nat) : List (Nat × Option Nat) → State → State
  | [], s => s
  | (b, f) :: t, s =>
    match seq s k, f with
    | some q, some f => if n ≤ 64 * b then dropBlocks k n t (decRef (setSeq s k (some (setPt q b none))) f) else dropBlocks k n t s
    | _, _ => dropBlocks k n t s

def truncateSeq (s : State) (k n : Nat) : State :=
  match seq s k with
  | none => s
  | some q => dropBlocks k n q.pt (setSeq s k (some { q with len := q.len.map (min n) }))

def shareBlocks (src dst : Nat) : List Nat → State → State
  | [], s => s
  | b :: t, s =>
    match seq s src, seq s dst with
    | some a, some q =>
      (match tget none a.pt b with
       | some f => shareBlocks src dst t (incRef (setSeq s dst (some (setPt q b (some f)))) f)
       | none => shareBlocks src dst t s)
    | _, _ => s

def shareSeq (s : State) (src dst n : Nat) : State :=
  let s := shareBlocks src dst (List.range (ceilDiv n 64)) s
  match seq s dst with
  | none => s
  | some q => setSeq s dst (some { q with len := List.replicate q.layers n })

def closeSeq (s : State) (k : Nat) : State := setSeq (truncateSeq s k 0) k none

def applyEdit (s : State) (k : Nat) : KvEdit → State
  | .share src n => shareSeq s src k n
  | .truncate n => truncateSeq s k n
  | .release => truncateSeq s k 0
  | .close => closeSeq s k

def editOp : KvEdit → Nat
  | .share _ _ => 0
  | .truncate _ => 1
  | _ => 2

/-- The KV_EDIT report of an applied edit (R181, R295). -/
def editReport (s : State) (k gen steps : Nat) (e : KvEdit) : State :=
  report s 0x0601 none (k / 1024) (ctx s (k / 1024)).tag
    (leBytes 4 steps ++ leBytes 4 gen ++ leBytes 2 (k % 1024) ++ leBytes 1 (editOp e))

def applyEdits (k gen steps : Nat) : List KvEdit → State → State
  | [], s => s
  | e :: t, s => applyEdits k gen steps t (editReport (applyEdit s k e) k gen steps e)

/-- The length the sequence had at its last step boundary (R180). -/
def markBound (s : State) (k : Nat) : State :=
  match seq s k with
  | none => s
  | some q => setSeq s k (some { q with bound := repLen q })

/-- The edits of one boundary, or one immediate edit: one new generation, which an internal edit of the same
boundary may have begun already (R181, R185). -/
def runEdits (s : State) (k : Nat) (es : List KvEdit) (begun : Bool := false) : State :=
  match seq s k with
  | none => s
  | some q =>
    if es.isEmpty then markBound s k
    else
      let gen := if begun then q.gen else (q.gen + 1) % 2 ^ 32
      markBound (applyEdits k gen q.steps es (setSeq s k (some { q with gen := gen, defer := [] }))) k

def seqsOf (s : State) (c : Nat) : List Nat :=
  (s.kv.seqs.filter (fun e => decide (e.1 / 1024 = c) && e.2.isSome)).map (·.1)

/-- The steps of one boundary are counted before any edit of it applies, so that every edit names the same step (R181, R186); `also`
lists the members of searches, which take part in the boundary whether or not an ATTN of theirs ran. -/
def countStep (also : List Nat) (s : State) (k : Nat) : State :=
  match seq s k with
  | none => s
  | some q => if q.inStep || !q.defer.isEmpty || also.contains k then setSeq s k (some { q with steps := q.steps + 1 }) else s

def countSteps (s : State) (c : Nat) (also : List Nat) : State := (seqsOf s c).foldl (countStep also) s

/-- The step boundary of one sequence (R181); `moved` lists those whose internal edits have been applied. -/
def boundarySeq (moved : List Nat) (s : State) (k : Nat) : State :=
  match seq s k with
  | none => s
  | some q =>
    if q.inStep || !q.defer.isEmpty then
      runEdits (setSeq s k (some { q with inStep := false })) k q.defer (moved.contains k)
    else if moved.contains k then markBound s k else s

def closeSteps (s : State) (c : Nat) (moved : List Nat) : State := (seqsOf s c).foldl (boundarySeq moved) s

/-- The step boundary of a context without a search (R181). -/
def stepBoundary (s : State) (c : Nat) : State := closeSteps (countSteps s c []) c []

/-! ### Cores -/

def core (s : State) (n : Nat) : Core := tget {} s.cores n
def setCore (s : State) (n : Nat) (k : Core) : State := { s with cores := tset {} s.cores n k }

/-- Remove a context's descriptors from its core, with their pins (R331 steps 3 and 4). -/
def dropDescs (s : State) (c : Nat) : State :=
  let n := (ctx s c).core
  let k := core s n
  let gone := k.q.filter (fun d => decide (d.ctx = c))
  let s := setCore s n { k with q := k.q.filter (fun d => decide (d.ctx ≠ c)) }
  (gone.map (·.pins)).flatten.foldl unpinFrame s

/-! ### Escalation windows (R334) -/

def recent (s : State) (secs : Nat) (l : List Nat) : List Nat :=
  l.filter (fun t => decide (s.flt.clock < t + secs * 1000000000))

def laneCount (s : State) (n : Nat) : Nat := (recent s s.flt.laneS (tget [] s.flt.laneEv n)).length
def devCount (s : State) : Nat := (recent s s.flt.devS s.flt.devEv).length

/-- Event times are held for the widest windows that ESC_CFG can set, of 600 s and 3,600 s: a change of the limits keeps them (R334). -/
def countLane (s : State) (n : Nat) : State :=
  { s with flt := { s.flt with laneEv := tset [] s.flt.laneEv n (recent s 600 (tget [] s.flt.laneEv n) ++ [s.flt.clock]) } }

def countDev (s : State) : State :=
  { s with flt := { s.flt with devEv := recent s 3600 s.flt.devEv ++ [s.flt.clock] } }

/-! ### Records (R329, R330) -/

/-- A fault to record: what the detecting unit knows. -/
structure Hit where
  cause : Nat
  tier : Nat
  kz : Bool := false
  ctx : Option Nat := none
  core : Option Nat := none
  lane : Option Nat := none
  descTag : Nat := 0
  pc : Nat := 0
  addr : Nat := 0
  mem : List Nat := []
  deriving DecidableEq, Repr

def ctxCode : CtxSt → Nat
  | .free => 0 | .opened => 1 | .ready => 2 | .running => 3 | .waiting => 4 | .stopped => 5 | .faulted => 6

/-- A member of a knot is given as its context and, where it stands behind a unit's queue, that unit × 65,536. -/
def memCtx (e : Nat) : Nat := e % 65536

/-- A member entry: CTX, KIND, STATE, OBJ, WAITED, SINCE. -/
def memberOf (s : State) (e : Nat) : Nat × Nat × Nat × Nat × Nat × Nat :=
  let c := memCtx e
  let x := ctx s c
  let ko := match x.wait with
    | some (.mark m _) => (0, m)
    | some (.barrier g) => (1, g)
    | none => (2, x.core * 8 + e / 65536)
  let since := if x.st = .waiting then x.waitSince else tget (dt s) s.flt.blocked c
  (c, ko.1, ctxCode x.st, ko.2, dt s - since, since)

/-- A mark's signallers (R326). -/
def signallers (s : State) (m : Nat) : List Nat :=
  ((s.ctxs.filter (fun e => decide (e.2.st ≠ .free) && decide (e.2.endMark = m) && decide (e.2.endAdd ≠ 0))).map (·.1) ++
    tget [] s.marks.sigs m).eraseDups

def markEntry (s : State) (m : Nat) : Nat × Bool × List Nat × Nat :=
  (m, tget false s.marks.extFed m, (signallers s m).take 4, mark s m)

/-- Descriptors of unit u in a core's queue. -/
def unitQ (k : Core) (u : Nat) : List QDesc := k.q.filter (fun d => decide (d.unit = u))

/-- Places that they take: a merged pass takes one (R187). -/
def places (k : Core) (u : Nat) : Nat := ((unitQ k u).filter (·.lead)).length
def sbFill (k : Core) : Nat := (k.q.filter (·.lead)).length

/-- A core entry of 64 bytes, zero-filled to 128 when written (R330). -/
def coreEntry (s : State) (n : Nat) : List Byte :=
  let k := core s n
  leBytes 2 (k.cur.getD 0) ++ leBytes 1 (sbFill k) ++ leBytes 1 (b2n k.halted + 2 * b2n (k.q.isEmpty && decide (rf s (0x200000 + n * 0x20000) 0 0 = 1)) + 4 * b2n k.stop) ++
  leBytes 1 k.eff ++ leBytes 3 0 ++ ((List.range 6).map (fun u => leBytes 1 (places k u))).flatten ++ leBytes 2 0 ++
  ((List.range 6).map (fun u => match unitQ k u with
    | [] => leBytes 8 0
    | d :: _ => leBytes 2 d.ctx ++ leBytes 2 0 ++ leBytes 4 d.tag)).flatten

/-- The Salhan rings that carry a command naming the context, then the core run queues (R330). -/
def queueEntries (s : State) (c : Option Nat) : List (Nat × Nat × Nat × Nat) :=
  let sqs := match c with
    | none => []
    | some c => ((s.sal.flights.filter (fun (f : Flight) => f.ctxs.contains c)).map (fun (f : Flight) => f.c.sq)).eraseDups
  sqs.map (fun n => match sq s n with | some r => (0, n, r.head, r.tail) | none => (0, n, 0, 0)) ++
  (List.range 8).map (fun n => (3, n, 0, (s.ctxs.filter (fun e => decide (e.2.core = n) && decide (e.2.st = .ready))).length))

/-- Write a record and emit FAULT_NOTICE (R329). -/
def writeRecord (s : State) (h : Hit) : State :=
  let x := match h.ctx with | some c => ctx s c | none => {}
  let i := s.flt.head
  let r : FaultRec :=
    { rseq := s.flt.count, cause := h.cause, tier := h.tier, kz := h.kz, ctx := h.ctx,
      core := match h.ctx with | some _ => some x.core | none => h.core
      lane := h.lane, tag := x.tag, dt := dt s, wt := wt s, epoch := s.flt.epoch, descTag := h.descTag, pc := h.pc,
      addr := h.addr, laneMask := x.lanes,
      laneCnt := match h.lane with | some n => laneCount s n | none => 0
      devCnt := devCount s, members := h.mem.map (memberOf s),
      marks := (h.mem.filterMap (fun c => match (ctx s (memCtx c)).wait with | some (.mark m _) => some (markEntry s m) | _ => none)).eraseDups,
      cores := (List.range 8).map (coreEntry s), queues := queueEntries s h.ctx }
  let s := { s with flt := { s.flt with ring := tset {} s.flt.ring i r, head := (i + 1) % 64, count := s.flt.count + 1 } }
  report s 0x0801 h.lane (h.ctx.getD 0) x.tag (leBytes 2 h.cause ++ leBytes 1 i ++ leBytes 1 h.tier)

/-- CRC-32 (IEEE 802.3), bit by bit. -/
def crcBits : Nat → Nat → Nat
  | 0, c => c
  | n + 1, c => crcBits n (if c % 2 = 1 then (c / 2) ^^^ 0xEDB88320 else c / 2)
def crc32 (bs : List Byte) : Nat := (bs.foldl (fun c b => crcBits 8 (c ^^^ b.toNat)) 0xFFFFFFFF) ^^^ 0xFFFFFFFF

/-- The 4 KiB of a record (R330). -/
def recordBytes (r : FaultRec) : List Byte :=
  let mem := (r.members.take 32).map (fun m => leBytes 2 m.1 ++ leBytes 1 m.2.1 ++ leBytes 1 m.2.2.1 ++ leBytes 2 m.2.2.2.1 ++
    leBytes 2 0 ++ leBytes 8 m.2.2.2.2.1 ++ leBytes 8 m.2.2.2.2.2 ++ leBytes 8 0)
  let mk := (r.marks.take 16).map (fun m => leBytes 2 m.1 ++ leBytes 1 (b2n m.2.1) ++ leBytes 1 m.2.2.1.length ++ leBytes 4 0 ++
    leBytes 8 m.2.2.2 ++ padTo 8 (m.2.2.1.map (leBytes 2)).flatten ++ leBytes 8 0)
  let qs := (r.queues.take 64).map (fun q => leBytes 1 q.1 ++ leBytes 1 q.2.1 ++ leBytes 2 0 ++ leBytes 4 q.2.2.1 ++ leBytes 4 q.2.2.2 ++ leBytes 4 0)
  let trunc := decide (32 < r.members.length) || decide (16 < r.marks.length) || decide (64 < r.queues.length)
  let hd := leBytes 4 r.rseq ++ leBytes 2 r.cause ++ leBytes 1 r.tier ++
    leBytes 1 (b2n r.ctx.isSome + 2 * b2n (decide (r.cause = 0x0401)) + 4 * b2n trunc + 8 * b2n r.kz) ++
    leBytes 2 (r.ctx.getD 0) ++ leBytes 1 (r.core.getD 0xFF) ++ leBytes 1 (r.lane.getD 0xFF) ++ leBytes 4 r.tag ++
    leBytes 8 r.dt ++ leBytes 8 r.wt ++ leBytes 4 r.epoch ++ leBytes 4 r.descTag ++ leBytes 8 r.pc ++ leBytes 8 r.addr ++
    leBytes 4 r.laneMask ++ leBytes 2 r.laneCnt ++ leBytes 2 r.devCnt ++
    leBytes 1 (min 32 r.members.length) ++ leBytes 1 (min 16 r.marks.length) ++ leBytes 1 (min 64 r.queues.length)
  let body := padTo 0x80 hd ++ padTo 1024 mem.flatten ++ padTo 512 mk.flatten ++
    padTo 1024 (r.cores.map (padTo 128)).flatten ++ padTo 1024 qs.flatten ++ List.replicate 380 0
  body ++ leBytes 4 (crc32 body)

/-! ### Lanes and the device out of service (R335, R336) -/

/-- A lane goes OUT_OF_SERVICE (R35, R335). It keeps the entries it holds, those reserved for its cancelled start among them,
until LANE_RESTORE (DESIGN CHOICE, notes/assumptions/77.md). -/
def laneOos (s : State) (n cause : Nat) (hold : Bool) : State :=
  let s := freeLine (freeLine (closeGap s n (wt s)) n 4) n 5
  let l := lane s n
  if l.st = .outOfService then s
  else
    putLaneState (setLane s n { l with startPend := false, stopPend := false, oosHold := hold, oosAt := wt s, stopLine := wt s }) n
      .outOfService cause

def laneEscalate (s : State) (n : Nat) : State :=
  if (lane s n).st = .outOfService then s
  else laneOos (flag (writeRecord s { cause := 0x0801, tier := 5, lane := some n }) 0x30004 3) n 0x0801 true

/-- The lane holds under R336: it was active, already holding, or its span entry drives. -/
def holdsAtOos (l : Lane) : Bool := isActive l.st || l.oosHold || l.spans.any (·.driving)

def oosLane (cause : Nat) (s : State) (n : Nat) : State :=
  let l := lane s n
  laneOos s n cause (holdsAtOos l)

/-- The device goes out of service with the record of its cause (R336); a further such fault is recorded (R329). -/
def deviceOos (s : State) (h : Hit) : State :=
  if s.flt.oos then (if h.cause = 0x0802 then s else writeRecord s { h with tier := 6 })
  else
    let s := flag (writeRecord s { h with tier := 6 }) 0x30004 4
    (List.range 32).foldl (oosLane h.cause) { s with flt := { s.flt with oos := true, oosCause := h.cause } }

/-- Lanes and device that an event brought to their thresholds (R334 to R336). -/
def escalate (s : State) (ls : List Nat) (dev : Bool) : State :=
  if dev then deviceOos s { cause := 0x0802, tier := 6 } else ls.foldl laneEscalate s

/-- Count an event for lanes and device; which of them it brings to their thresholds (R334). -/
def countEvent (s : State) (ls : List Nat) (dev : Bool) : State × List Nat × Bool :=
  let s := ls.foldl countLane s
  let s := if dev then countDev s else s
  (s, ls.filter (fun n => decide (s.flt.laneN ≤ laneCount s n)), dev && decide (s.flt.devN ≤ devCount s))

/-- An event without a reset: record, count, escalate at detection (R324, R336). -/
def eventFault (s : State) (h : Hit) (ls : List Nat) (dev : Bool) : State :=
  let (s, el, ed) := countEvent s ls dev
  escalate (writeRecord s h) el ed

/-! ### Context reset (R331 to R333) -/

/-- The outcome an object input takes if it has none yet. -/
def giveField (s : State) (n key i : Nat) (o : FieldOut) : State :=
  let l := lane s n
  setLane s n { l with objs := l.objs.map (fun ob =>
    if ob.key = key ∧ tget none ob.fields i = none then { ob with fields := tset none ob.fields i (some o) } else ob) }

def giveCmp (s : State) (n key : Nat) (o : FieldOut) (pixs cells : List Nat) : State :=
  let l := lane s n
  setLane s n { l with objs := l.objs.map (fun ob =>
    if ob.key = key ∧ ob.cmp = none then { ob with cmp := some o, pix := pixs, cell := cells } else ob) }

/-- Every input the context owed takes STALE (R332). -/
def staleOwed (s : State) (c : Nat) : State :=
  (ctx s c).owes.foldl (fun s w => match w.2.2 with
    | some i => giveField s w.1 w.2.1 i { out := .stale, d := 0xFFFF }
    | none => giveCmp s w.1 w.2.1 { out := .stale } [] []) s

/-- Commands in flight that name the context complete with ABORTED (R283); a CTX_ABORT waits for the reset. -/
def abortFor (s : State) (c : Nat) : State :=
  completeWhere s (fun f => f.ctxs.contains c && decide (f.await ≠ .ctxAbort c)) stAborted 0 0

/-- A ring group being closed goes once none of its ATTNs is in flight (R286). -/
def sweepRing (s : State) (g : Nat) : State :=
  if s.sal.flights.any (fun f => decide (f.await = .ringClose g)) &&
      !s.cores.any (fun e => e.2.q.any (fun d => decide (d.group = some g))) then
    completeAwait { s with ring := { s.ring with groups := tset none s.ring.groups g none } } (.ringClose g) stOk 0 0
  else s

def sweepRings (s : State) : State := (s.ring.groups.map (·.1)).foldl sweepRing s

/-! ### Adaptations (R247, R250) -/

def adapt (s : State) (k : Nat) : Option Adapt := tget none s.adapts k
def setAdapt (s : State) (k : Nat) (a : Option Adapt) : State := { s with adapts := tset none s.adapts k a }

def adCode : AdSt → Nat
  | .opened => 0 | .training => 1 | .paused => 2 | .trained => 3 | .accepted => 4 | .rejected => 5

/-- A state change: DONE is incremented and ADAPT_STATE reported; its codes are not in the spec (R235, R250, R295). -/
def adaptMove (s : State) (k : Nat) (st : AdSt) (cause : Nat) : State :=
  match adapt s k with
  | none => s
  | some a =>
    let s := setAdapt s k (some { a with st := st })
    signalExt (report s 0x0704 none k 0 (leBytes 1 (Config.adaptCode (adCode a.st)) ++ leBytes 1 (Config.adaptCode (adCode st)) ++
      leBytes 1 (Config.adaptCode (16 + cause)))) a.p.done 1

/-- The reset of a training context discards the open batch; the run enters PAUSED with cause FAULT (1). -/
def adaptFault (s : State) (c : Nat) : State :=
  match (ctx s c).ad with
  | none => s
  | some k =>
    match adapt s k with
    | none => s
    | some a =>
      if a.st ≠ .training then s
      else completeAwait (adaptMove (setAdapt s k (some { a with slots := [], fed := [], gslot := [], pausing := false })) k .paused 1) (.adaptPause k) stOk 0 0

/-- A training context that faults makes its sample corrupt in the open step; a reset that another's fault or the host brings
(PARTITION_RESET, RING_MISMATCH, HOST_ABORT) does not (R246, R247; DEDUCED, notes/assumptions/77.md). -/
def faultSample (s : State) (c cause : Nat) : State :=
  match (ctx s c).ad, (ctx s c).sample with
  | some k, some i =>
    (match adapt s k with
     | some a => if a.st = .training ∧ cause ∉ [0x0305, 0x0501, 0x0502, 0x0503] then setAdapt s k (some { a with bad := a.bad ++ [(a.t, i)] }) else s
     | none => s)
  | _, _ => s

/-- Steps 3 to 8 of a context reset (R331); the Caption unit's work for the context goes with its descriptors. -/
def resetSteps (s : State) (c : Nat) : State :=
  let s := sweepRings (dropDescs s c)
  let s := { s with cap := { s.cap with det := tset none s.cap.det c none } }
  let s := stepBoundary s c
  let s := adaptFault (staleOwed s c) c
  abortFor s c

/-- A barrier of group g is open: some member's ATTN waits at it. -/
def barrierOpen (s : State) (g : Nat) : Bool := s.cores.any (fun e => e.2.q.any (fun d => d.barrier && decide (d.group = some g)))

/-- Faults detected in one clock come in ascending context ID, each context once (R333). -/
def ascending (l : List Nat) : List Nat := l.foldr insNat []

/-- The other members of the context's groups with an open barrier, and of those whose ATTN it has in flight (R201,
R331). -/
def groupMates (s : State) (c : Nat) : List Nat :=
  let own := ((core s (ctx s c).core).q.filter (fun d => decide (d.ctx = c))).filterMap (·.group)
  ascending (s.ring.groups.map (fun e => match e.2 with
    | some r => if r.ctxs.contains c && (own.contains e.1 || barrierOpen s e.1) then r.ctxs.filter (· ≠ c) else []
    | none => [])).flatten

/-- The lanes that a fault of the context counts in: none for a training context (R247, R324). -/
def servedLanes (s : State) (c : Nat) : List Nat := if (ctx s c).ad.isSome then [] else bitList (ctx s c).lanes 32

/-- What a cause counts in (R324): served lanes, device. -/
def causeCounts (cause : Nat) : Bool × Bool :=
  if cause = 0x0501 ∨ cause = 0x0502 ∨ cause = 0x0503 then (false, false)
  else if cause = 0x0105 ∨ cause = 0x0504 ∨ cause = 0x0505 then (false, true) else (true, true)

def activeResets (s : State) : Nat := (s.flt.resets.filter (·.active)).length

/-- The faulted context of one fault: recorded, counted, its reset begun or queued (R329, R331, R333). -/
def faultOne (s : State) (c : Nat) (h : Hit) : State :=
  let x := ctx s c
  if x.st = .free ∨ x.st = .opened then s
  else if x.st = .faulted then bump s 0x30050 1
  else
    let k := causeCounts h.cause
    let (s, el, ed) := countEvent s (if k.1 then servedLanes s c else []) k.2
    let s := flagsOne (writeRecord s { h with ctx := some c }) 0x30004
      (0 :: (if h.cause = 0x0401 then [1] else if h.cause = 0x0402 then [2] else []))
    let s := if h.cause < 0x0401 then flag s (0x200004 + x.core * 0x20000) 1 else s
    let s := faultSample (setCtx s c { ctx s c with st := .faulted, cause := h.cause, stopReq := false, held := false }) c h.cause
    let go := decide (activeResets s < 16)
    let s := { s with flt := { s.flt with resets := s.flt.resets ++ [{ ctx := c, active := go, lanes := el, dev := ed }] } }
    if go then setCtx (resetSteps s c) c { ctx (resetSteps s c) c with wait := none } else s

/-- A fault and the RING_MISMATCH faults of its group mates (R201, R331 step 7). -/
def faultCtx (s : State) (c : Nat) (h : Hit) : State :=
  let mates := if (ctx s c).st = .faulted ∨ (ctx s c).st = .free ∨ (ctx s c).st = .opened then [] else groupMates s c
  mates.foldl (fun s m => faultOne s m { cause := 0x0305, tier := 1 }) (faultOne s c h)

/-- A fault of the descriptor at the context's program position (R124, R330). -/
def faultDesc (s : State) (c cause addr : Nat) : State :=
  let x := ctx s c
  faultCtx s c { cause := cause, tier := 1, descTag := rdLe s (x.pc + 4) 4, pc := x.pc, addr := addr }

/-! ### Tier B (R339, R340, R359) -/

/-- Safelight runs firmware: not halted, not swapping, not in tier M (R338, R352, R359). -/
def slAvail (s : State) : Bool :=
  powered s && s.sl.running && !s.sl.halted && decide (s.sl.swapAt = none) && !s.boot.tierM

def placedOn (s : State) (mask : Nat) : List Nat :=
  (s.ctxs.filter (fun e => decide (e.2.st ≠ .free) && mask.testBit e.2.core)).map (·.1)

/-- The members, on other cores, of the ring groups with a member on the cores (R339). -/
def outsideMates (s : State) (mask : Nat) : List Nat :=
  ascending (s.ring.groups.map (fun e => match e.2 with
    | some r => if r.ctxs.any (fun c => mask.testBit (ctx s c).core) then r.ctxs.filter (fun c => !mask.testBit (ctx s c).core) else []
    | none => [])).flatten

/-- Commands in flight that name a context placed on the cores complete with ABORTED, CTX_ABORTs too (R283). -/
def abortPlaced (s : State) (mask : Nat) : State :=
  completeWhere s (fun f => f.ctxs.any (placedOn s mask).contains) stAborted 0 0

/-- While the tier B of its core waits the named context is FAULTED and issues nothing (R393). -/
def holdNamed (s : State) (r : TierBRun) : State :=
  match r.ctx with
  | none => s
  | some c =>
    let x := ctx s c
    if x.st = .ready ∨ x.st = .running ∨ x.st = .waiting then
      setCtx s c { x with st := .faulted, cause := r.cause, stopReq := false, held := false }
    else s

/-- It enters the tier B as the other contexts of the core do. -/
def freeNamed (s : State) (r : TierBRun) : State :=
  match r.ctx with
  | none => s
  | some c =>
    let x := ctx s c
    if x.st = .faulted ∧ s.flt.resets.all (fun r => decide (r.ctx ≠ c)) then
      setCtx s c { x with st := if x.wait.isSome then .waiting else .running }
    else s

/-- A tier B begins: record, then every context on the cores that is not OPEN faults with PARTITION_RESET, and the
other members of their ring groups with RING_MISMATCH (R255, R339). -/
def runTierB (s : State) (r : TierBRun) : State :=
  let h : Hit := { cause := r.cause, tier := 3, kz := r.kz, ctx := r.ctx, mem := r.mem, pc := r.desc.1, descTag := r.desc.2 }
  let s := flag (writeRecord s h) 0x30004 5
  let s := { s with flt := { s.flt with tierB := satAdd sat32 s.flt.tierB 1 },
                    boot := { s.boot with tierB := s.boot.tierB ++ [{ r with started := true }] } }
  let s := (outsideMates s r.mask).foldl (fun s c => faultOne s c { cause := 0x0305, tier := 1 })
    ((placedOn s r.mask).foldl (fun s c => faultOne s c { cause := 0x0502, tier := 1 }) s)
  abortPlaced s r.mask

/-- A tier B is asked for; it waits while Safelight does not run (R359). -/
def askTierB (s : State) (r : TierBRun) : State :=
  if slAvail s then runTierB s r
  else holdNamed { s with boot := { s.boot with tierB := s.boot.tierB ++ [{ r with started := false }] } } r

/-- The tier Bs that waited begin once Safelight runs. -/
def runWaiting (s : State) : State :=
  let w := s.boot.tierB.filter (fun r => !r.started)
  w.foldl runTierB { w.foldl freeNamed s with boot := { s.boot with tierB := s.boot.tierB.filter (·.started) } }

/-- HANG or WATCHDOG: tier A, or tier B of the context's core under KZ mode, which counts once (R340). -/
def hangFault (s : State) (c : Nat) (h : Hit) : State :=
  if bit (rg s 0x30000) 1 then
    if s.boot.tierB.any (fun r => decide (r.ctx = some c)) then s
    else
      let (s, el, ed) := countEvent s (servedLanes s c) true
      askTierB (flag s 0x30004 (if h.cause = 0x0401 then 1 else 2))
        { mask := 2 ^ (ctx s c).core, lanes := el, dev := ed, ctx := some c, cause := h.cause, kz := true, mem := h.mem,
          desc := (h.pc, h.descTag) }
  else faultCtx s c h

end Sys2Proof.Machine
end

