-- ==== Sys2Proof/Machine/Hoist.lean ====
section
/-! DEFINITION. Hoist budgets: reserves, caps, charging, boundaries, COMMIT (R262 to R270). -/

namespace Sys2Proof.Machine

def clsOff (c : Nat) : Nat := 0x60100 + 32 * c

/-- The active settings of a class: CFG, CYC, LPE, DRAM (R270). -/
def hstAct (s : State) (c : Nat) : Nat × Nat × Nat × Nat :=
  match tget none s.hst.act c with
  | some x => x
  | none => ((tget 0 resetRegs (clsOff c)).toNat, (tget 0 resetRegs (clsOff c + 4)).toNat,
             (tget 0 resetRegs (clsOff c + 8)).toNat, (tget 0 resetRegs (clsOff c + 12)).toNat)

def rsvOf (w : Nat) : Nat := bits w 10 0
def capOf (w : Nat) : Nat := bits w 26 16
def clsEn (s : State) (c : Nat) : Bool := bit (hstAct s c).1 31
def clsStrict (s : State) (c : Nat) : Bool := bit (hstAct s c).1 30

def hstKey (c core u : Nat) : Nat := c * 64 + core * 8 + u

/-- The grade's maximum frequency, in 50 MHz (R4, R126). -/
def gradeMax (s : State) : Nat := if s.fuse.speed = 2 then 26 else 32

/-- EFF of a core at the last boundary, in 50 MHz (R263). -/
def effAt (s : State) (core : Nat) : Nat := (tget none s.hst.eff core).getD (gradeMax s)

/-- Clocks of `share`/1,024 of a period on a core (R263). -/
def unitClocks (s : State) (core share : Nat) : Nat := share * s.hst.period * (effAt s core * 50) / 1024

def unitWord (s : State) (c u : Nat) : Nat := if u = 3 then (hstAct s c).2.2.1 else (hstAct s c).2.1
def unitRsv (s : State) (c core u : Nat) : Nat := unitClocks s core (rsvOf (unitWord s c u))
def unitCap (s : State) (c core u : Nat) : Nat := unitClocks s core (capOf (unitWord s c u))
def dramRsv (s : State) (c : Nat) : Nat := rsvOf (hstAct s c).2.2.2 * s.hst.period * 100
def dramCap (s : State) (c : Nat) : Nat := capOf (hstAct s c).2.2.2 * s.hst.period * 100

def unitUsed (s : State) (c core u : Nat) : Nat := tget 0 s.hst.used (hstKey c core u)
def dramUsed (s : State) (c : Nat) : Nat := tget 0 s.hst.dram c

/-- Units with a budget: ARRAY, OUTPUT, VEC, LOUPE (R262). -/
def hasBudget (u : Nat) : Bool := decide (u ≤ 3)

/-- The class may issue on the unit, with DRAM if `dram` bytes are needed (R264, R265). -/
def underCap (s : State) (c core u dram : Nat) : Bool :=
  (!hasBudget u || decide (unitUsed s c core u < unitCap s c core u)) &&
  (decide (dram = 0) || decide (dramUsed s c < dramCap s c))

def sumOf (l : List Nat) : Nat := l.foldl (· + ·) 0

/-- The class is within its reserve (R260). -/
def inReserve (s : State) (c core u dram : Nat) : Bool :=
  (!hasBudget u || decide (unitUsed s c core u < unitRsv s c core u)) &&
  (decide (dram = 0) || decide (dramUsed s c < dramRsv s c))

/-- A cap is reached: EXH, once a period for the counter of the class (R265). -/
def noteExh (s : State) (c : Nat) : State :=
  let s := flag s 0x60004 0
  if tget false s.hst.past c then s
  else bump { s with hst := { s.hst with past := tset false s.hst.past c true } } (clsOff c + 0x18) 1

def chargeUnit (s : State) (c core u clocks : Nat) : State :=
  if clocks = 0 ∨ !hasBudget u then s
  else
    let old := unitUsed s c core u
    let cap := unitCap s c core u
    let s := { s with hst := { s.hst with used := tset 0 s.hst.used (hstKey c core u) (old + clocks) } }
    if old < cap ∧ cap ≤ old + clocks then noteExh s c else s

def chargeDram (s : State) (c bytes : Nat) : State :=
  if bytes = 0 then s
  else
    let old := dramUsed s c
    let cap := dramCap s c
    let s := { s with hst := { s.hst with dram := tset 0 s.hst.dram c (old + bytes) } }
    if old < cap ∧ cap ≤ old + bytes then noteExh s c else s

/-- Bytes of a transfer that the DRAM counter counts: those of an address in DRAM. -/
def dramOf (s : State) (a len : Nat) : Nat := if a < dramSize s then len else 0

/-! ### Charging a descriptor while it executes (R188, R264) -/

/-- The descriptor of a unit that completes next, with the partners of its pass (R187). -/
def headPass (k : Core) (u : Nat) : List QDesc :=
  match unitQ k u with
  | [] => []
  | d :: t => d :: t.takeWhile (fun e => !e.lead)

/-- Clocks charged to one entry of a pass (R188). -/
def passShare (p : List QDesc) (clocks : Nat) (d : QDesc) : Nat :=
  let total := sumOf (p.map (·.rows))
  if p.length ≤ 1 ∨ total = 0 then clocks else ceilDiv (clocks * d.rows) total

/-- Change the entries of a unit's head pass: `k` is 0 before its lead, 1 within it, 2 after it. -/
def mapHead (u : Nat) (f : QDesc → QDesc) : Nat → List QDesc → List QDesc
  | _, [] => []
  | k, d :: t =>
    if d.unit ≠ u ∨ k = 2 then d :: mapHead u f k t
    else if k = 1 ∧ d.lead then d :: mapHead u f 2 t
    else f d :: mapHead u f 1 t

/-- A unit's head pass executes, unless it waits at a barrier. -/
def startHead (k : Core) (u : Nat) : Core :=
  { k with q := mapHead u (fun d => if d.barrier ∨ d.begun.isSome then d else { d with begun := some k.cyc }) 0 k.q }

def startHeads (k : Core) : Core := (List.range 5).foldl startHead k

/-- Clocks for which an entry has executed; `cyc` counts 20 a clock. -/
def ranClocks (k : Core) (d : QDesc) : Nat := match d.begun with | some b => (k.cyc - b) / 20 | none => 0

/-- Charge an entry what it owes of `clocks` clocks of its pass. -/
def chargeEntry (n u : Nat) (p : List QDesc) (clocks : Nat) (s : State) (d : QDesc) : State :=
  chargeUnit s (ctx s d.ctx).cls n u (passShare p clocks d - d.charged)

/-- Bring the charges of a unit's head pass up to the present clock. -/
def accrueUnit (s : State) (n u : Nat) : State :=
  let k := core s n
  match headPass k u with
  | [] => s
  | d :: t =>
    let p := d :: t
    let c := ranClocks k d
    let s := p.foldl (chargeEntry n u p c) s
    setCore s n { k with q := mapHead u (fun e => { e with charged := max e.charged (passShare p c e) }) 0 k.q }

def accrue (s : State) : State :=
  (List.range 8).foldl (fun s n => if (core s n).q.isEmpty then s else (List.range 4).foldl (accrueUnit · n ·) s) s

/-! ### Boundaries (R262, R263, R265, R270) -/

/-- Usage beyond the cap is carried, at most one cap. -/
def carry (used cap : Nat) : Nat := min cap (used - cap)

def renewUsed (s : State) : Tab Nat :=
  tmap 0 s.hst.used (fun k u => carry u (unitCap s (k / 64) (k / 8 % 8) (k % 8)))
def renewDram (s : State) : Tab Nat := tmap 0 s.hst.dram (fun c u => carry u (dramCap s c))

def shadow (s : State) (c : Nat) : Nat × Nat × Nat × Nat :=
  (rg s (clsOff c), rg s (clsOff c + 4), rg s (clsOff c + 8), rg s (clsOff c + 12))

/-- The shadows of every class, as COMMIT takes them over. -/
def shadows (s : State) : Tab (Option (Nat × Nat × Nat × Nat)) := (List.range 16).foldl (fun t c => tset none t c (some (shadow s c))) []

/-- The shadows taken over become active. -/
def applyShadows (s : State) : State := { s with hst := { s.hst with pend := false, act := s.hst.next, next := [] } }

/-- Some budget of class `c` is used up by what was carried. -/
def carriedOut (s : State) (c : Nat) : Bool :=
  (decide (0 < dramUsed s c) && decide (dramCap s c ≤ dramUsed s c)) ||
  s.hst.used.any (fun e => decide (e.1 / 64 = c) && decide (0 < e.2) && decide (unitCap s c (e.1 / 8 % 8) (e.1 % 8) ≤ e.2))

/-- HELD ends with the budgets renewed (R255, R265). -/
def clearHeld (s : State) : State :=
  { s with ctxs := s.ctxs.map (fun e => (e.1, if e.2.held then { e.2 with held := false } else e.2)) }

/-- A boundary falls at a multiple of the period in device time (R262). -/
def boundaryDue (s : State) : Bool :=
  decide (dt s % (s.hst.period * 1000) = 0) && decide (s.hst.lastAt ≠ dt s)

/-- Usage is renewed under the old budgets, then settings, period and EFF are taken over; a class whose carried usage fills a cap has
reached it (R265). -/
def boundary (s : State) : State :=
  let u := renewUsed s
  let d := renewDram s
  let s := if s.hst.pend then applyShadows s else s
  let eff := (List.range 8).foldl (fun t n => tset none t n (some (core s n).eff)) s.hst.eff
  let h := { s.hst with used := u, dram := d, past := [], eff := eff, period := rf s 0x60010 13 0, lastAt := dt s }
  let s := cadd (clearHeld { s with hst := h }) 0x60018 1
  ((List.range 16).filter (carriedOut s)).foldl noteExh s

/-! ### COMMIT (R270) -/

def enShadows (s : State) : List (Nat × Nat × Nat × Nat) :=
  ((List.range 16).map (shadow s)).filter (fun x => bit x.1 31)

def shadowOk (x : Nat × Nat × Nat × Nat) : Bool :=
  let one (w : Nat) : Bool := decide (rsvOf w ≤ capOf w) && (!bit x.1 30 || decide (capOf w = rsvOf w))
  one x.2.1 && one x.2.2.1 && one x.2.2.2

def commitOk (s : State) : Bool :=
  let e := enShadows s
  decide (sumOf (e.map (fun x => rsvOf x.2.1)) ≤ 1024) && decide (sumOf (e.map (fun x => rsvOf x.2.2.1)) ≤ 1024) &&
  decide (sumOf (e.map (fun x => rsvOf x.2.2.2)) ≤ 1152) && ((List.range 16).map (shadow s)).all shadowOk &&
  s.ctxs.all (fun x => decide (x.2.st = .free) || bit (shadow s x.2.cls).1 31)

def commit (s : State) : State :=
  if commitOk s then { s with hst := { s.hst with pend := true, next := shadows s } }
  else logUnsup (flag s 0x60004 1) 0 0x60000 true

def execHstCommit (s : State) : Res := .next (if powered s then commit s else s)

end Sys2Proof.Machine
end

