-- ==== Sys2Proof/Machine/Unicode.lean ====
section
/-! DEFINITION. Character properties of Unicode 15.1.0 (R203): Script, White_Space, General_Category Nd, and the
C and F entries of CaseFolding.txt (R214). Script 0 is Unknown, 1 Common, 2 Inherited
(notes/assumptions/14.md). -/

namespace Sys2Proof.Machine

/-- (first, last, script). -/
def scriptRows0 : List (Nat × Nat × Nat) :=
  [(0, 64, 1), (65, 90, 3), (91, 96, 1), (97, 122, 3), (123, 169, 1), (170, 170, 3), (171, 185, 1), (186, 186, 3),
   (187, 191, 1), (192, 214, 3), (215, 215, 1), (216, 246, 3), (247, 247, 1), (248, 696, 3), (697, 735, 1),
   (736, 740, 3), (741, 745, 1), (746, 747, 4), (748, 767, 1), (768, 879, 2), (880, 883, 5), (884, 884, 1),
   (885, 887, 5), (890, 893, 5), (894, 894, 1), (895, 895, 5), (900, 900, 5), (901, 901, 1), (902, 902, 5),
   (903, 903, 1), (904, 906, 5), (908, 908, 5), (910, 929, 5), (931, 993, 5), (994, 1007, 6), (1008, 1023, 5),
   (1024, 1156, 7), (1157, 1158, 2), (1159, 1327, 7), (1329, 1366, 8)]

def scriptRows1 : List (Nat × Nat × Nat) :=
  [(1369, 1418, 8), (1421, 1423, 8), (1425, 1479, 9), (1488, 1514, 9), (1519, 1524, 9), (1536, 1540, 10),
   (1541, 1541, 1), (1542, 1547, 10), (1548, 1548, 1), (1549, 1562, 10), (1563, 1563, 1), (1564, 1566, 10),
   (1567, 1567, 1), (1568, 1599, 10), (1600, 1600, 1), (1601, 1610, 10), (1611, 1621, 2), (1622, 1647, 10),
   (1648, 1648, 2), (1649, 1756, 10), (1757, 1757, 1), (1758, 1791, 10), (1792, 1805, 11), (1807, 1866, 11),
   (1869, 1871, 11), (1872, 1919, 10), (1920, 1969, 12), (1984, 2042, 13), (2045, 2047, 13), (2048, 2093, 14),
   (2096, 2110, 14), (2112, 2139, 15), (2142, 2142, 15), (2144, 2154, 11), (2160, 2190, 10), (2192, 2193, 10),
   (2200, 2273, 10), (2274, 2274, 1), (2275, 2303, 10), (2304, 2384, 16)]

def scriptRows2 : List (Nat × Nat × Nat) :=
  [(2385, 2388, 2), (2389, 2403, 16), (2404, 2405, 1), (2406, 2431, 16), (2432, 2435, 17), (2437, 2444, 17),
   (2447, 2448, 17), (2451, 2472, 17), (2474, 2480, 17), (2482, 2482, 17), (2486, 2489, 17), (2492, 2500, 17),
   (2503, 2504, 17), (2507, 2510, 17), (2519, 2519, 17), (2524, 2525, 17), (2527, 2531, 17), (2534, 2558, 17),
   (2561, 2563, 18), (2565, 2570, 18), (2575, 2576, 18), (2579, 2600, 18), (2602, 2608, 18), (2610, 2611, 18),
   (2613, 2614, 18), (2616, 2617, 18), (2620, 2620, 18), (2622, 2626, 18), (2631, 2632, 18), (2635, 2637, 18),
   (2641, 2641, 18), (2649, 2652, 18), (2654, 2654, 18), (2662, 2678, 18), (2689, 2691, 19), (2693, 2701, 19),
   (2703, 2705, 19), (2707, 2728, 19), (2730, 2736, 19), (2738, 2739, 19)]

def scriptRows3 : List (Nat × Nat × Nat) :=
  [(2741, 2745, 19), (2748, 2757, 19), (2759, 2761, 19), (2763, 2765, 19), (2768, 2768, 19), (2784, 2787, 19),
   (2790, 2801, 19), (2809, 2815, 19), (2817, 2819, 20), (2821, 2828, 20), (2831, 2832, 20), (2835, 2856, 20),
   (2858, 2864, 20), (2866, 2867, 20), (2869, 2873, 20), (2876, 2884, 20), (2887, 2888, 20), (2891, 2893, 20),
   (2901, 2903, 20), (2908, 2909, 20), (2911, 2915, 20), (2918, 2935, 20), (2946, 2947, 21), (2949, 2954, 21),
   (2958, 2960, 21), (2962, 2965, 21), (2969, 2970, 21), (2972, 2972, 21), (2974, 2975, 21), (2979, 2980, 21),
   (2984, 2986, 21), (2990, 3001, 21), (3006, 3010, 21), (3014, 3016, 21), (3018, 3021, 21), (3024, 3024, 21),
   (3031, 3031, 21), (3046, 3066, 21), (3072, 3084, 22), (3086, 3088, 22)]

def scriptRows4 : List (Nat × Nat × Nat) :=
  [(3090, 3112, 22), (3114, 3129, 22), (3132, 3140, 22), (3142, 3144, 22), (3146, 3149, 22), (3157, 3158, 22),
   (3160, 3162, 22), (3165, 3165, 22), (3168, 3171, 22), (3174, 3183, 22), (3191, 3199, 22), (3200, 3212, 23),
   (3214, 3216, 23), (3218, 3240, 23), (3242, 3251, 23), (3253, 3257, 23), (3260, 3268, 23), (3270, 3272, 23),
   (3274, 3277, 23), (3285, 3286, 23), (3293, 3294, 23), (3296, 3299, 23), (3302, 3311, 23), (3313, 3315, 23),
   (3328, 3340, 24), (3342, 3344, 24), (3346, 3396, 24), (3398, 3400, 24), (3402, 3407, 24), (3412, 3427, 24),
   (3430, 3455, 24), (3457, 3459, 25), (3461, 3478, 25), (3482, 3505, 25), (3507, 3515, 25), (3517, 3517, 25),
   (3520, 3526, 25), (3530, 3530, 25), (3535, 3540, 25), (3542, 3542, 25)]

def scriptRows5 : List (Nat × Nat × Nat) :=
  [(3544, 3551, 25), (3558, 3567, 25), (3570, 3572, 25), (3585, 3642, 26), (3647, 3647, 1), (3648, 3675, 26),
   (3713, 3714, 27), (3716, 3716, 27), (3718, 3722, 27), (3724, 3747, 27), (3749, 3749, 27), (3751, 3773, 27),
   (3776, 3780, 27), (3782, 3782, 27), (3784, 3790, 27), (3792, 3801, 27), (3804, 3807, 27), (3840, 3911, 28),
   (3913, 3948, 28), (3953, 3991, 28), (3993, 4028, 28), (4030, 4044, 28), (4046, 4052, 28), (4053, 4056, 1),
   (4057, 4058, 28), (4096, 4255, 29), (4256, 4293, 30), (4295, 4295, 30), (4301, 4301, 30), (4304, 4346, 30),
   (4347, 4347, 1), (4348, 4351, 30), (4352, 4607, 31), (4608, 4680, 32), (4682, 4685, 32), (4688, 4694, 32),
   (4696, 4696, 32), (4698, 4701, 32), (4704, 4744, 32), (4746, 4749, 32)]

def scriptRows6 : List (Nat × Nat × Nat) :=
  [(4752, 4784, 32), (4786, 4789, 32), (4792, 4798, 32), (4800, 4800, 32), (4802, 4805, 32), (4808, 4822, 32),
   (4824, 4880, 32), (4882, 4885, 32), (4888, 4954, 32), (4957, 4988, 32), (4992, 5017, 32), (5024, 5109, 33),
   (5112, 5117, 33), (5120, 5759, 34), (5760, 5788, 35), (5792, 5866, 36), (5867, 5869, 1), (5870, 5880, 36),
   (5888, 5909, 37), (5919, 5919, 37), (5920, 5940, 38), (5941, 5942, 1), (5952, 5971, 39), (5984, 5996, 40),
   (5998, 6000, 40), (6002, 6003, 40), (6016, 6109, 41), (6112, 6121, 41), (6128, 6137, 41), (6144, 6145, 42),
   (6146, 6147, 1), (6148, 6148, 42), (6149, 6149, 1), (6150, 6169, 42), (6176, 6264, 42), (6272, 6314, 42),
   (6320, 6389, 34), (6400, 6430, 43), (6432, 6443, 43), (6448, 6459, 43)]

def scriptRows7 : List (Nat × Nat × Nat) :=
  [(6464, 6464, 43), (6468, 6479, 43), (6480, 6509, 44), (6512, 6516, 44), (6528, 6571, 45), (6576, 6601, 45),
   (6608, 6618, 45), (6622, 6623, 45), (6624, 6655, 41), (6656, 6683, 46), (6686, 6687, 46), (6688, 6750, 47),
   (6752, 6780, 47), (6783, 6793, 47), (6800, 6809, 47), (6816, 6829, 47), (6832, 6862, 2), (6912, 6988, 48),
   (6992, 7038, 48), (7040, 7103, 49), (7104, 7155, 50), (7164, 7167, 50), (7168, 7223, 51), (7227, 7241, 51),
   (7245, 7247, 51), (7248, 7295, 52), (7296, 7304, 7), (7312, 7354, 30), (7357, 7359, 30), (7360, 7367, 49),
   (7376, 7378, 2), (7379, 7379, 1), (7380, 7392, 2), (7393, 7393, 1), (7394, 7400, 2), (7401, 7404, 1),
   (7405, 7405, 2), (7406, 7411, 1), (7412, 7412, 2), (7413, 7415, 1)]

def scriptRows8 : List (Nat × Nat × Nat) :=
  [(7416, 7417, 2), (7418, 7418, 1), (7424, 7461, 3), (7462, 7466, 5), (7467, 7467, 7), (7468, 7516, 3),
   (7517, 7521, 5), (7522, 7525, 3), (7526, 7530, 5), (7531, 7543, 3), (7544, 7544, 7), (7545, 7614, 3),
   (7615, 7615, 5), (7616, 7679, 2), (7680, 7935, 3), (7936, 7957, 5), (7960, 7965, 5), (7968, 8005, 5),
   (8008, 8013, 5), (8016, 8023, 5), (8025, 8025, 5), (8027, 8027, 5), (8029, 8029, 5), (8031, 8061, 5),
   (8064, 8116, 5), (8118, 8132, 5), (8134, 8147, 5), (8150, 8155, 5), (8157, 8175, 5), (8178, 8180, 5),
   (8182, 8190, 5), (8192, 8203, 1), (8204, 8205, 2), (8206, 8292, 1), (8294, 8304, 1), (8305, 8305, 3),
   (8308, 8318, 1), (8319, 8319, 3), (8320, 8334, 1), (8336, 8348, 3)]

def scriptRows9 : List (Nat × Nat × Nat) :=
  [(8352, 8384, 1), (8400, 8432, 2), (8448, 8485, 1), (8486, 8486, 5), (8487, 8489, 1), (8490, 8491, 3),
   (8492, 8497, 1), (8498, 8498, 3), (8499, 8525, 1), (8526, 8526, 3), (8527, 8543, 1), (8544, 8584, 3),
   (8585, 8587, 1), (8592, 9254, 1), (9280, 9290, 1), (9312, 10239, 1), (10240, 10495, 53), (10496, 11123, 1),
   (11126, 11157, 1), (11159, 11263, 1), (11264, 11359, 54), (11360, 11391, 3), (11392, 11507, 6),
   (11513, 11519, 6), (11520, 11557, 30), (11559, 11559, 30), (11565, 11565, 30), (11568, 11623, 55),
   (11631, 11632, 55), (11647, 11647, 55), (11648, 11670, 32), (11680, 11686, 32), (11688, 11694, 32),
   (11696, 11702, 32), (11704, 11710, 32), (11712, 11718, 32), (11720, 11726, 32), (11728, 11734, 32),
   (11736, 11742, 32), (11744, 11775, 7)]

def scriptRows10 : List (Nat × Nat × Nat) :=
  [(11776, 11869, 1), (11904, 11929, 56), (11931, 12019, 56), (12032, 12245, 56), (12272, 12292, 1),
   (12293, 12293, 56), (12294, 12294, 1), (12295, 12295, 56), (12296, 12320, 1), (12321, 12329, 56),
   (12330, 12333, 2), (12334, 12335, 31), (12336, 12343, 1), (12344, 12347, 56), (12348, 12351, 1),
   (12353, 12438, 57), (12441, 12442, 2), (12443, 12444, 1), (12445, 12447, 57), (12448, 12448, 1),
   (12449, 12538, 58), (12539, 12540, 1), (12541, 12543, 58), (12549, 12591, 4), (12593, 12686, 31),
   (12688, 12703, 1), (12704, 12735, 4), (12736, 12771, 1), (12783, 12783, 1), (12784, 12799, 58),
   (12800, 12830, 31), (12832, 12895, 1), (12896, 12926, 31), (12927, 13007, 1), (13008, 13054, 58),
   (13055, 13055, 1), (13056, 13143, 58), (13144, 13311, 1), (13312, 19903, 56), (19904, 19967, 1)]

def scriptRows11 : List (Nat × Nat × Nat) :=
  [(19968, 40959, 56), (40960, 42124, 59), (42128, 42182, 59), (42192, 42239, 60), (42240, 42539, 61),
   (42560, 42655, 7), (42656, 42743, 62), (42752, 42785, 1), (42786, 42887, 3), (42888, 42890, 1),
   (42891, 42954, 3), (42960, 42961, 3), (42963, 42963, 3), (42965, 42969, 3), (42994, 43007, 3),
   (43008, 43052, 63), (43056, 43065, 1), (43072, 43127, 64), (43136, 43205, 65), (43214, 43225, 65),
   (43232, 43263, 16), (43264, 43309, 66), (43310, 43310, 1), (43311, 43311, 66), (43312, 43347, 67),
   (43359, 43359, 67), (43360, 43388, 31), (43392, 43469, 68), (43471, 43471, 1), (43472, 43481, 68),
   (43486, 43487, 68), (43488, 43518, 29), (43520, 43574, 69), (43584, 43597, 69), (43600, 43609, 69),
   (43612, 43615, 69), (43616, 43647, 29), (43648, 43714, 70), (43739, 43743, 70), (43744, 43766, 71)]

def scriptRows12 : List (Nat × Nat × Nat) :=
  [(43777, 43782, 32), (43785, 43790, 32), (43793, 43798, 32), (43808, 43814, 32), (43816, 43822, 32),
   (43824, 43866, 3), (43867, 43867, 1), (43868, 43876, 3), (43877, 43877, 5), (43878, 43881, 3),
   (43882, 43883, 1), (43888, 43967, 33), (43968, 44013, 71), (44016, 44025, 71), (44032, 55203, 31),
   (55216, 55238, 31), (55243, 55291, 31), (63744, 64109, 56), (64112, 64217, 56), (64256, 64262, 3),
   (64275, 64279, 8), (64285, 64310, 9), (64312, 64316, 9), (64318, 64318, 9), (64320, 64321, 9),
   (64323, 64324, 9), (64326, 64335, 9), (64336, 64450, 10), (64467, 64829, 10), (64830, 64831, 1),
   (64832, 64911, 10), (64914, 64967, 10), (64975, 64975, 10), (65008, 65023, 10), (65024, 65039, 2),
   (65040, 65049, 1), (65056, 65069, 2), (65070, 65071, 7), (65072, 65106, 1), (65108, 65126, 1)]

def scriptRows13 : List (Nat × Nat × Nat) :=
  [(65128, 65131, 1), (65136, 65140, 10), (65142, 65276, 10), (65279, 65279, 1), (65281, 65312, 1),
   (65313, 65338, 3), (65339, 65344, 1), (65345, 65370, 3), (65371, 65381, 1), (65382, 65391, 58),
   (65392, 65392, 1), (65393, 65437, 58), (65438, 65439, 1), (65440, 65470, 31), (65474, 65479, 31),
   (65482, 65487, 31), (65490, 65495, 31), (65498, 65500, 31), (65504, 65510, 1), (65512, 65518, 1),
   (65529, 65533, 1), (65536, 65547, 72), (65549, 65574, 72), (65576, 65594, 72), (65596, 65597, 72),
   (65599, 65613, 72), (65616, 65629, 72), (65664, 65786, 72), (65792, 65794, 1), (65799, 65843, 1),
   (65847, 65855, 1), (65856, 65934, 5), (65936, 65948, 1), (65952, 65952, 5), (66000, 66044, 1),
   (66045, 66045, 2), (66176, 66204, 73), (66208, 66256, 74), (66272, 66272, 2), (66273, 66299, 1)]

def scriptRows14 : List (Nat × Nat × Nat) :=
  [(66304, 66339, 75), (66349, 66351, 75), (66352, 66378, 76), (66384, 66426, 77), (66432, 66461, 78),
   (66463, 66463, 78), (66464, 66499, 79), (66504, 66517, 79), (66560, 66639, 80), (66640, 66687, 81),
   (66688, 66717, 82), (66720, 66729, 82), (66736, 66771, 83), (66776, 66811, 83), (66816, 66855, 84),
   (66864, 66915, 85), (66927, 66927, 85), (66928, 66938, 86), (66940, 66954, 86), (66956, 66962, 86),
   (66964, 66965, 86), (66967, 66977, 86), (66979, 66993, 86), (66995, 67001, 86), (67003, 67004, 86),
   (67072, 67382, 87), (67392, 67413, 87), (67424, 67431, 87), (67456, 67461, 3), (67463, 67504, 3),
   (67506, 67514, 3), (67584, 67589, 88), (67592, 67592, 88), (67594, 67637, 88), (67639, 67640, 88),
   (67644, 67644, 88), (67647, 67647, 88), (67648, 67669, 89), (67671, 67679, 89), (67680, 67711, 90)]

def scriptRows15 : List (Nat × Nat × Nat) :=
  [(67712, 67742, 91), (67751, 67759, 91), (67808, 67826, 92), (67828, 67829, 92), (67835, 67839, 92),
   (67840, 67867, 93), (67871, 67871, 93), (67872, 67897, 94), (67903, 67903, 94), (67968, 67999, 95),
   (68000, 68023, 96), (68028, 68047, 96), (68050, 68095, 96), (68096, 68099, 97), (68101, 68102, 97),
   (68108, 68115, 97), (68117, 68119, 97), (68121, 68149, 97), (68152, 68154, 97), (68159, 68168, 97),
   (68176, 68184, 97), (68192, 68223, 98), (68224, 68255, 99), (68288, 68326, 100), (68331, 68342, 100),
   (68352, 68405, 101), (68409, 68415, 101), (68416, 68437, 102), (68440, 68447, 102), (68448, 68466, 103),
   (68472, 68479, 103), (68480, 68497, 104), (68505, 68508, 104), (68521, 68527, 104), (68608, 68680, 105),
   (68736, 68786, 106), (68800, 68850, 106), (68858, 68863, 106), (68864, 68903, 107), (68912, 68921, 107)]

def scriptRows16 : List (Nat × Nat × Nat) :=
  [(69216, 69246, 10), (69248, 69289, 108), (69291, 69293, 108), (69296, 69297, 108), (69373, 69375, 10),
   (69376, 69415, 109), (69424, 69465, 110), (69488, 69513, 111), (69552, 69579, 112), (69600, 69622, 113),
   (69632, 69709, 114), (69714, 69749, 114), (69759, 69759, 114), (69760, 69826, 115), (69837, 69837, 115),
   (69840, 69864, 116), (69872, 69881, 116), (69888, 69940, 117), (69942, 69959, 117), (69968, 70006, 118),
   (70016, 70111, 119), (70113, 70132, 25), (70144, 70161, 120), (70163, 70209, 120), (70272, 70278, 121),
   (70280, 70280, 121), (70282, 70285, 121), (70287, 70301, 121), (70303, 70313, 121), (70320, 70378, 122),
   (70384, 70393, 122), (70400, 70403, 123), (70405, 70412, 123), (70415, 70416, 123), (70419, 70440, 123),
   (70442, 70448, 123), (70450, 70451, 123), (70453, 70457, 123), (70459, 70459, 2), (70460, 70468, 123)]

def scriptRows17 : List (Nat × Nat × Nat) :=
  [(70471, 70472, 123), (70475, 70477, 123), (70480, 70480, 123), (70487, 70487, 123), (70493, 70499, 123),
   (70502, 70508, 123), (70512, 70516, 123), (70656, 70747, 124), (70749, 70753, 124), (70784, 70855, 125),
   (70864, 70873, 125), (71040, 71093, 126), (71096, 71133, 126), (71168, 71236, 127), (71248, 71257, 127),
   (71264, 71276, 42), (71296, 71353, 128), (71360, 71369, 128), (71424, 71450, 129), (71453, 71467, 129),
   (71472, 71494, 129), (71680, 71739, 130), (71840, 71922, 131), (71935, 71935, 131), (71936, 71942, 132),
   (71945, 71945, 132), (71948, 71955, 132), (71957, 71958, 132), (71960, 71989, 132), (71991, 71992, 132),
   (71995, 72006, 132), (72016, 72025, 132), (72096, 72103, 133), (72106, 72151, 133), (72154, 72164, 133),
   (72192, 72263, 134), (72272, 72354, 135), (72368, 72383, 34), (72384, 72440, 136), (72448, 72457, 16)]

def scriptRows18 : List (Nat × Nat × Nat) :=
  [(72704, 72712, 137), (72714, 72758, 137), (72760, 72773, 137), (72784, 72812, 137), (72816, 72847, 138),
   (72850, 72871, 138), (72873, 72886, 138), (72960, 72966, 139), (72968, 72969, 139), (72971, 73014, 139),
   (73018, 73018, 139), (73020, 73021, 139), (73023, 73031, 139), (73040, 73049, 139), (73056, 73061, 140),
   (73063, 73064, 140), (73066, 73102, 140), (73104, 73105, 140), (73107, 73112, 140), (73120, 73129, 140),
   (73440, 73464, 141), (73472, 73488, 142), (73490, 73530, 142), (73534, 73561, 142), (73648, 73648, 60),
   (73664, 73713, 21), (73727, 73727, 21), (73728, 74649, 143), (74752, 74862, 143), (74864, 74868, 143),
   (74880, 75075, 143), (77712, 77810, 144), (77824, 78933, 145), (82944, 83526, 146), (92160, 92728, 62),
   (92736, 92766, 147), (92768, 92777, 147), (92782, 92783, 147), (92784, 92862, 148), (92864, 92873, 148)]

def scriptRows19 : List (Nat × Nat × Nat) :=
  [(92880, 92909, 149), (92912, 92917, 149), (92928, 92997, 150), (93008, 93017, 150), (93019, 93025, 150),
   (93027, 93047, 150), (93053, 93071, 150), (93760, 93850, 151), (93952, 94026, 152), (94031, 94087, 152),
   (94095, 94111, 152), (94176, 94176, 153), (94177, 94177, 154), (94178, 94179, 56), (94180, 94180, 155),
   (94192, 94193, 56), (94208, 100343, 153), (100352, 101119, 153), (101120, 101589, 155), (101632, 101640, 153),
   (110576, 110579, 58), (110581, 110587, 58), (110589, 110590, 58), (110592, 110592, 58), (110593, 110879, 57),
   (110880, 110882, 58), (110898, 110898, 57), (110928, 110930, 57), (110933, 110933, 58), (110948, 110951, 58),
   (110960, 111355, 154), (113664, 113770, 156), (113776, 113788, 156), (113792, 113800, 156),
   (113808, 113817, 156), (113820, 113823, 156), (113824, 113827, 1), (118528, 118573, 2), (118576, 118598, 2),
   (118608, 118723, 1)]

def scriptRows20 : List (Nat × Nat × Nat) :=
  [(118784, 119029, 1), (119040, 119078, 1), (119081, 119142, 1), (119143, 119145, 2), (119146, 119162, 1),
   (119163, 119170, 2), (119171, 119172, 1), (119173, 119179, 2), (119180, 119209, 1), (119210, 119213, 2),
   (119214, 119274, 1), (119296, 119365, 5), (119488, 119507, 1), (119520, 119539, 1), (119552, 119638, 1),
   (119648, 119672, 1), (119808, 119892, 1), (119894, 119964, 1), (119966, 119967, 1), (119970, 119970, 1),
   (119973, 119974, 1), (119977, 119980, 1), (119982, 119993, 1), (119995, 119995, 1), (119997, 120003, 1),
   (120005, 120069, 1), (120071, 120074, 1), (120077, 120084, 1), (120086, 120092, 1), (120094, 120121, 1),
   (120123, 120126, 1), (120128, 120132, 1), (120134, 120134, 1), (120138, 120144, 1), (120146, 120485, 1),
   (120488, 120779, 1), (120782, 120831, 1), (120832, 121483, 157), (121499, 121503, 157), (121505, 121519, 157)]

def scriptRows21 : List (Nat × Nat × Nat) :=
  [(122624, 122654, 3), (122661, 122666, 3), (122880, 122886, 54), (122888, 122904, 54), (122907, 122913, 54),
   (122915, 122916, 54), (122918, 122922, 54), (122928, 122989, 7), (123023, 123023, 7), (123136, 123180, 158),
   (123184, 123197, 158), (123200, 123209, 158), (123214, 123215, 158), (123536, 123566, 159),
   (123584, 123641, 160), (123647, 123647, 160), (124112, 124153, 161), (124896, 124902, 32),
   (124904, 124907, 32), (124909, 124910, 32), (124912, 124926, 32), (124928, 125124, 162), (125127, 125142, 162),
   (125184, 125259, 163), (125264, 125273, 163), (125278, 125279, 163), (126065, 126132, 1), (126209, 126269, 1),
   (126464, 126467, 10), (126469, 126495, 10), (126497, 126498, 10), (126500, 126500, 10), (126503, 126503, 10),
   (126505, 126514, 10), (126516, 126519, 10), (126521, 126521, 10), (126523, 126523, 10), (126530, 126530, 10),
   (126535, 126535, 10), (126537, 126537, 10)]

def scriptRows22 : List (Nat × Nat × Nat) :=
  [(126539, 126539, 10), (126541, 126543, 10), (126545, 126546, 10), (126548, 126548, 10), (126551, 126551, 10),
   (126553, 126553, 10), (126555, 126555, 10), (126557, 126557, 10), (126559, 126559, 10), (126561, 126562, 10),
   (126564, 126564, 10), (126567, 126570, 10), (126572, 126578, 10), (126580, 126583, 10), (126585, 126588, 10),
   (126590, 126590, 10), (126592, 126601, 10), (126603, 126619, 10), (126625, 126627, 10), (126629, 126633, 10),
   (126635, 126651, 10), (126704, 126705, 10), (126976, 127019, 1), (127024, 127123, 1), (127136, 127150, 1),
   (127153, 127167, 1), (127169, 127183, 1), (127185, 127221, 1), (127232, 127405, 1), (127462, 127487, 1),
   (127488, 127488, 57), (127489, 127490, 1), (127504, 127547, 1), (127552, 127560, 1), (127568, 127569, 1),
   (127584, 127589, 1), (127744, 128727, 1), (128732, 128748, 1), (128752, 128764, 1), (128768, 128886, 1)]

def scriptRows23 : List (Nat × Nat × Nat) :=
  [(128891, 128985, 1), (128992, 129003, 1), (129008, 129008, 1), (129024, 129035, 1), (129040, 129095, 1),
   (129104, 129113, 1), (129120, 129159, 1), (129168, 129197, 1), (129200, 129201, 1), (129280, 129619, 1),
   (129632, 129645, 1), (129648, 129660, 1), (129664, 129672, 1), (129680, 129725, 1), (129727, 129733, 1),
   (129742, 129755, 1), (129760, 129768, 1), (129776, 129784, 1), (129792, 129938, 1), (129940, 129994, 1),
   (130032, 130041, 1), (131072, 173791, 56), (173824, 177977, 56), (177984, 178205, 56), (178208, 183969, 56),
   (183984, 191456, 56), (191472, 192093, 56), (194560, 195101, 56), (196608, 201546, 56), (201552, 205743, 56),
   (917505, 917505, 1), (917536, 917631, 1), (917760, 917999, 2)]

def scriptRows : List (Nat × Nat × Nat) :=
  scriptRows0 ++ scriptRows1 ++ scriptRows2 ++ scriptRows3 ++ scriptRows4 ++ scriptRows5 ++ scriptRows6 ++ scriptRows7 ++
  scriptRows8 ++ scriptRows9 ++ scriptRows10 ++ scriptRows11 ++ scriptRows12 ++ scriptRows13 ++ scriptRows14 ++ scriptRows15 ++
  scriptRows16 ++ scriptRows17 ++ scriptRows18 ++ scriptRows19 ++ scriptRows20 ++ scriptRows21 ++ scriptRows22 ++ scriptRows23

/-- (first, last). -/
def spaceRows0 : List (Nat × Nat) :=
  [(9, 13), (32, 32), (133, 133), (160, 160), (5760, 5760), (8192, 8202), (8232, 8233), (8239, 8239),
   (8287, 8287), (12288, 12288)]

def spaceRows : List (Nat × Nat) :=
  spaceRows0

/-- (first, last). -/
def digitRows0 : List (Nat × Nat) :=
  [(48, 57), (1632, 1641), (1776, 1785), (1984, 1993), (2406, 2415), (2534, 2543), (2662, 2671), (2790, 2799),
   (2918, 2927), (3046, 3055), (3174, 3183), (3302, 3311), (3430, 3439), (3558, 3567), (3664, 3673), (3792, 3801),
   (3872, 3881), (4160, 4169), (4240, 4249), (6112, 6121), (6160, 6169), (6470, 6479), (6608, 6617), (6784, 6793),
   (6800, 6809), (6992, 7001), (7088, 7097), (7232, 7241), (7248, 7257), (42528, 42537), (43216, 43225),
   (43264, 43273), (43472, 43481), (43504, 43513), (43600, 43609), (44016, 44025), (65296, 65305), (66720, 66729),
   (68912, 68921), (69734, 69743)]

def digitRows1 : List (Nat × Nat) :=
  [(69872, 69881), (69942, 69951), (70096, 70105), (70384, 70393), (70736, 70745), (70864, 70873), (71248, 71257),
   (71360, 71369), (71472, 71481), (71904, 71913), (72016, 72025), (72784, 72793), (73040, 73049), (73120, 73129),
   (73552, 73561), (92768, 92777), (92864, 92873), (93008, 93017), (120782, 120831), (123200, 123209),
   (123632, 123641), (124144, 124153), (125264, 125273), (130032, 130041)]

def digitRows : List (Nat × Nat) :=
  digitRows0 ++ digitRows1

/-- Simple foldings: (first, last, step, what is added). -/
def foldRows0 : List (Nat × Nat × Nat × Int) :=
  [(65, 90, 1, 32), (181, 181, 1, 775), (192, 214, 1, 32), (216, 222, 1, 32), (256, 302, 2, 1), (306, 310, 2, 1),
   (313, 327, 2, 1), (330, 374, 2, 1), (376, 376, 1, -121), (377, 381, 2, 1), (383, 383, 1, -268),
   (385, 385, 1, 210), (386, 388, 2, 1), (390, 390, 1, 206), (391, 391, 1, 1), (393, 394, 1, 205),
   (395, 395, 1, 1), (398, 398, 1, 79), (399, 399, 1, 202), (400, 400, 1, 203), (401, 401, 1, 1),
   (403, 403, 1, 205), (404, 404, 1, 207), (406, 406, 1, 211), (407, 407, 1, 209), (408, 408, 1, 1),
   (412, 412, 1, 211), (413, 413, 1, 213), (415, 415, 1, 214), (416, 420, 2, 1), (422, 422, 1, 218),
   (423, 423, 1, 1), (425, 425, 1, 218), (428, 428, 1, 1), (430, 430, 1, 218), (431, 431, 1, 1),
   (433, 434, 1, 217), (435, 437, 2, 1), (439, 439, 1, 219), (440, 440, 1, 1)]

def foldRows1 : List (Nat × Nat × Nat × Int) :=
  [(444, 444, 1, 1), (452, 452, 1, 2), (453, 453, 1, 1), (455, 455, 1, 2), (456, 456, 1, 1), (458, 458, 1, 2),
   (459, 475, 2, 1), (478, 494, 2, 1), (497, 497, 1, 2), (498, 500, 2, 1), (502, 502, 1, -97), (503, 503, 1, -56),
   (504, 542, 2, 1), (544, 544, 1, -130), (546, 562, 2, 1), (570, 570, 1, 10795), (571, 571, 1, 1),
   (573, 573, 1, -163), (574, 574, 1, 10792), (577, 577, 1, 1), (579, 579, 1, -195), (580, 580, 1, 69),
   (581, 581, 1, 71), (582, 590, 2, 1), (837, 837, 1, 116), (880, 882, 2, 1), (886, 886, 1, 1),
   (895, 895, 1, 116), (902, 902, 1, 38), (904, 906, 1, 37), (908, 908, 1, 64), (910, 911, 1, 63),
   (913, 929, 1, 32), (931, 939, 1, 32), (962, 962, 1, 1), (975, 975, 1, 8), (976, 976, 1, -30),
   (977, 977, 1, -25), (981, 981, 1, -15), (982, 982, 1, -22)]

def foldRows2 : List (Nat × Nat × Nat × Int) :=
  [(984, 1006, 2, 1), (1008, 1008, 1, -54), (1009, 1009, 1, -48), (1012, 1012, 1, -60), (1013, 1013, 1, -64),
   (1015, 1015, 1, 1), (1017, 1017, 1, -7), (1018, 1018, 1, 1), (1021, 1023, 1, -130), (1024, 1039, 1, 80),
   (1040, 1071, 1, 32), (1120, 1152, 2, 1), (1162, 1214, 2, 1), (1216, 1216, 1, 15), (1217, 1229, 2, 1),
   (1232, 1326, 2, 1), (1329, 1366, 1, 48), (4256, 4293, 1, 7264), (4295, 4295, 1, 7264), (4301, 4301, 1, 7264),
   (5112, 5117, 1, -8), (7296, 7296, 1, -6222), (7297, 7297, 1, -6221), (7298, 7298, 1, -6212),
   (7299, 7300, 1, -6210), (7301, 7301, 1, -6211), (7302, 7302, 1, -6204), (7303, 7303, 1, -6180),
   (7304, 7304, 1, 35267), (7312, 7354, 1, -3008), (7357, 7359, 1, -3008), (7680, 7828, 2, 1),
   (7835, 7835, 1, -58), (7840, 7934, 2, 1), (7944, 7951, 1, -8), (7960, 7965, 1, -8), (7976, 7983, 1, -8),
   (7992, 7999, 1, -8), (8008, 8013, 1, -8), (8025, 8031, 2, -8)]

def foldRows3 : List (Nat × Nat × Nat × Int) :=
  [(8040, 8047, 1, -8), (8120, 8121, 1, -8), (8122, 8123, 1, -74), (8126, 8126, 1, -7173), (8136, 8139, 1, -86),
   (8152, 8153, 1, -8), (8154, 8155, 1, -100), (8168, 8169, 1, -8), (8170, 8171, 1, -112), (8172, 8172, 1, -7),
   (8184, 8185, 1, -128), (8186, 8187, 1, -126), (8486, 8486, 1, -7517), (8490, 8490, 1, -8383),
   (8491, 8491, 1, -8262), (8498, 8498, 1, 28), (8544, 8559, 1, 16), (8579, 8579, 1, 1), (9398, 9423, 1, 26),
   (11264, 11311, 1, 48), (11360, 11360, 1, 1), (11362, 11362, 1, -10743), (11363, 11363, 1, -3814),
   (11364, 11364, 1, -10727), (11367, 11371, 2, 1), (11373, 11373, 1, -10780), (11374, 11374, 1, -10749),
   (11375, 11375, 1, -10783), (11376, 11376, 1, -10782), (11378, 11378, 1, 1), (11381, 11381, 1, 1),
   (11390, 11391, 1, -10815), (11392, 11490, 2, 1), (11499, 11501, 2, 1), (11506, 11506, 1, 1),
   (42560, 42604, 2, 1), (42624, 42650, 2, 1), (42786, 42798, 2, 1), (42802, 42862, 2, 1), (42873, 42875, 2, 1)]

def foldRows4 : List (Nat × Nat × Nat × Int) :=
  [(42877, 42877, 1, -35332), (42878, 42886, 2, 1), (42891, 42891, 1, 1), (42893, 42893, 1, -42280),
   (42896, 42898, 2, 1), (42902, 42920, 2, 1), (42922, 42922, 1, -42308), (42923, 42923, 1, -42319),
   (42924, 42924, 1, -42315), (42925, 42925, 1, -42305), (42926, 42926, 1, -42308), (42928, 42928, 1, -42258),
   (42929, 42929, 1, -42282), (42930, 42930, 1, -42261), (42931, 42931, 1, 928), (42932, 42946, 2, 1),
   (42948, 42948, 1, -48), (42949, 42949, 1, -42307), (42950, 42950, 1, -35384), (42951, 42953, 2, 1),
   (42960, 42960, 1, 1), (42966, 42968, 2, 1), (42997, 42997, 1, 1), (43888, 43967, 1, -38864),
   (65313, 65338, 1, 32), (66560, 66599, 1, 40), (66736, 66771, 1, 40), (66928, 66938, 1, 39),
   (66940, 66954, 1, 39), (66956, 66962, 1, 39), (66964, 66965, 1, 39), (68736, 68786, 1, 64),
   (71840, 71871, 1, 32), (93760, 93791, 1, 32), (125184, 125217, 1, 34)]

def foldRows : List (Nat × Nat × Nat × Int) :=
  foldRows0 ++ foldRows1 ++ foldRows2 ++ foldRows3 ++ foldRows4

/-- Full foldings of more than one character. -/
def fullRows0 : List (Nat × List Nat) :=
  [(223, [115, 115]), (304, [105, 775]), (329, [700, 110]), (496, [106, 780]), (912, [953, 776, 769]),
   (944, [965, 776, 769]), (1415, [1381, 1410]), (7830, [104, 817]), (7831, [116, 776]), (7832, [119, 778]),
   (7833, [121, 778]), (7834, [97, 702]), (7838, [115, 115]), (8016, [965, 787]), (8018, [965, 787, 768]),
   (8020, [965, 787, 769]), (8022, [965, 787, 834]), (8064, [7936, 953]), (8065, [7937, 953]),
   (8066, [7938, 953]), (8067, [7939, 953]), (8068, [7940, 953]), (8069, [7941, 953]), (8070, [7942, 953]),
   (8071, [7943, 953]), (8072, [7936, 953]), (8073, [7937, 953]), (8074, [7938, 953]), (8075, [7939, 953]),
   (8076, [7940, 953]), (8077, [7941, 953]), (8078, [7942, 953]), (8079, [7943, 953]), (8080, [7968, 953]),
   (8081, [7969, 953]), (8082, [7970, 953]), (8083, [7971, 953]), (8084, [7972, 953]), (8085, [7973, 953]),
   (8086, [7974, 953])]

def fullRows1 : List (Nat × List Nat) :=
  [(8087, [7975, 953]), (8088, [7968, 953]), (8089, [7969, 953]), (8090, [7970, 953]), (8091, [7971, 953]),
   (8092, [7972, 953]), (8093, [7973, 953]), (8094, [7974, 953]), (8095, [7975, 953]), (8096, [8032, 953]),
   (8097, [8033, 953]), (8098, [8034, 953]), (8099, [8035, 953]), (8100, [8036, 953]), (8101, [8037, 953]),
   (8102, [8038, 953]), (8103, [8039, 953]), (8104, [8032, 953]), (8105, [8033, 953]), (8106, [8034, 953]),
   (8107, [8035, 953]), (8108, [8036, 953]), (8109, [8037, 953]), (8110, [8038, 953]), (8111, [8039, 953]),
   (8114, [8048, 953]), (8115, [945, 953]), (8116, [940, 953]), (8118, [945, 834]), (8119, [945, 834, 953]),
   (8124, [945, 953]), (8130, [8052, 953]), (8131, [951, 953]), (8132, [942, 953]), (8134, [951, 834]),
   (8135, [951, 834, 953]), (8140, [951, 953]), (8146, [953, 776, 768]), (8147, [953, 776, 769]),
   (8150, [953, 834])]

def fullRows2 : List (Nat × List Nat) :=
  [(8151, [953, 776, 834]), (8162, [965, 776, 768]), (8163, [965, 776, 769]), (8164, [961, 787]),
   (8166, [965, 834]), (8167, [965, 776, 834]), (8178, [8060, 953]), (8179, [969, 953]), (8180, [974, 953]),
   (8182, [969, 834]), (8183, [969, 834, 953]), (8188, [969, 953]), (64256, [102, 102]), (64257, [102, 105]),
   (64258, [102, 108]), (64259, [102, 102, 105]), (64260, [102, 102, 108]), (64261, [115, 116]),
   (64262, [115, 116]), (64275, [1396, 1398]), (64276, [1396, 1381]), (64277, [1396, 1387]),
   (64278, [1406, 1398]), (64279, [1396, 1389])]

def fullRows : List (Nat × List Nat) :=
  fullRows0 ++ fullRows1 ++ fullRows2

def inRows (l : List (Nat × Nat)) (c : Nat) : Bool := l.any (fun r => decide (r.1 ≤ c) && decide (c ≤ r.2))

def isSpace (c : Nat) : Bool := inRows spaceRows c
def isDigitNd (c : Nat) : Bool := inRows digitRows c

def scriptOf (c : Nat) : Nat :=
  match scriptRows.find? (fun r => decide (r.1 ≤ c) && decide (c ≤ r.2.1)) with
  | some r => r.2.2
  | none => 0

/-- Full case folding of a scalar value (R214). -/
def foldChar (c : Nat) : List Nat :=
  match fullRows.find? (fun r => decide (r.1 = c)) with
  | some r => r.2
  | none =>
    match foldRows.find? (fun r => decide (r.1 ≤ c) && decide (c ≤ r.2.1) && decide ((c - r.1) % r.2.2.1 = 0)) with
    | some r => [((c : Int) + r.2.2.2).toNat]
    | none => [c]

end Sys2Proof.Machine
end

