-- ==== Sys2Proof/Machine/Text.lean ====
section
/-! DEFINITION. Texts: UTF-8 repair (R206), pieces (R207). -/

namespace Sys2Proof.Machine

/-! ### UTF-8 -/

/-- Length of a sequence and the range of its second byte, by first byte (Table 3-7). Length 0: no sequence. -/
def leadInfo (b : Nat) : Nat × Nat × Nat :=
  if b < 0x80 then (1, 0, 0)
  else if b < 0xC2 then (0, 0, 0)
  else if b < 0xE0 then (2, 0x80, 0xBF)
  else if b = 0xE0 then (3, 0xA0, 0xBF)
  else if b = 0xED then (3, 0x80, 0x9F)
  else if b < 0xF0 then (3, 0x80, 0xBF)
  else if b = 0xF0 then (4, 0x90, 0xBF)
  else if b < 0xF4 then (4, 0x80, 0xBF)
  else if b = 0xF4 then (4, 0x80, 0x8F)
  else (0, 0, 0)

/-- How many bytes continue a sequence, at most `n`, the first in `lo` to `hi`. -/
def contLen : Nat → Nat → Nat → List Nat → Nat
  | 0, _, _, _ => 0
  | _, _, _, [] => 0
  | n + 1, lo, hi, b :: t => if lo ≤ b ∧ b ≤ hi then 1 + contLen n 0x80 0xBF t else 0

inductive Seq8 where
  | good (len : Nat)
  | part (len : Nat)
  | bad (len : Nat)
  deriving DecidableEq, Repr

/-- What stands at the front of a byte stream: a well-formed sequence, a proper prefix that reaches the end of the
buffer, or a maximal subpart. -/
def front8 (bs : List Nat) : Seq8 :=
  match bs with
  | [] => .part 0
  | b :: t =>
    let (n, lo, hi) := leadInfo b
    if n = 0 then .bad 1
    else
      let k := 1 + contLen (n - 1) lo hi t
      if k = n then .good n else if k = bs.length then .part k else .bad k

/-- The scalar value of a well-formed sequence. -/
def scalar8 (bs : List Nat) : Nat :=
  match bs with
  | [a] => a
  | [a, b] => a % 32 * 64 + b % 64
  | [a, b, c] => a % 16 * 4096 + b % 64 * 64 + c % 64
  | [a, b, c, d] => a % 8 * 262144 + b % 64 * 4096 + c % 64 * 64 + d % 64
  | _ => 0xFFFD

/-- The UTF-8 bytes of a scalar value. -/
def utf8 (c : Nat) : List Byte :=
  (if c < 0x80 then [c]
   else if c < 0x800 then [0xC0 + c / 64, 0x80 + c % 64]
   else if c < 0x10000 then [0xE0 + c / 4096, 0x80 + c / 64 % 64, 0x80 + c % 64]
   else [0xF0 + c / 262144, 0x80 + c / 4096 % 64, 0x80 + c / 64 % 64, 0x80 + c % 64]).map (BitVec.ofNat 8)

/-- A character of repaired text: its scalar value, the raw position it came from, whether repair made it. -/
structure RChar where
  c : Nat
  pos : Nat
  rep : Bool
  deriving DecidableEq, Repr

/-- Repair (R206): characters and the bytes carried where the buffer is not FINAL. -/
def repair (final : Bool) : Nat → List (Byte × Nat) → List RChar × List (Byte × Nat)
  | 0, bs => ([], bs)
  | _, [] => ([], [])
  | n + 1, (b, p) :: t =>
    let bs := (b, p) :: t
    let put (len : Nat) (c : Nat) (rep : Bool) : List RChar × List (Byte × Nat) :=
      let r := repair final n (bs.drop len)
      (⟨c, p, rep⟩ :: r.1, r.2)
    match front8 (bs.map (fun x => x.1.toNat)) with
    | .good k => put k (scalar8 ((bs.take k).map (fun x => x.1.toNat))) false
    | .bad k => put k 0xFFFD true
    | .part k => if final then put k 0xFFFD true else ([], bs)

/-- Bytes with their positions from `p` on. -/
def withPos (p : Nat) (bs : List Byte) : List (Byte × Nat) := bs.mapIdx (fun i b => (b, p + i))

def wellFormed8 (bs : List Byte) : Bool := (repair true (bs.length + 1) (withPos 0 bs)).1.all (fun r => !r.rep)

/-- Scalar values of a text. -/
def scalars (bs : List Byte) : List Nat := (repair true (bs.length + 1) (withPos 0 bs)).1.map (·.c)

/-! ### Pieces (R207) -/

def uSize (c : Nat) : Nat := (utf8 c).length

/-- A boundary lies before c, with previous p, next n, the last Script before it and the piece so far. -/
def boundaryBefore (split p c : Nat) (n : Option Nat) (scr : Option Nat) (len : Nat) : Bool :=
  let ws := bit split 0 &&
    ((!isSpace p && isSpace c) || (isSpace p && !isSpace c && decide (p ≠ 0x20)) ||
     (isSpace p && decide (c = 0x20) && (match n with | some n => !isSpace n | none => false)))
  let dg := bit split 1 && xor (isDigitNd p) (isDigitNd c)
  let sc := bit split 2 && decide (scriptOf c ≠ 1) && decide (scriptOf c ≠ 2) &&
    (match scr with | some k => decide (k ≠ scriptOf c) | none => false)
  ws || dg || sc || decide (1024 < len + uSize c)

def nextScript (scr : Option Nat) (c : Nat) : Option Nat :=
  if scriptOf c = 1 ∨ scriptOf c = 2 then scr else some (scriptOf c)

def pieceLen (l : List Nat) : Nat := (l.map uSize).foldl (· + ·) 0

/-- Cut characters into pieces. Without `final` the last character waits for its lookahead. The result is the
completed pieces, the open piece, the character waiting, the last Script. -/
def cutPieces (split : Nat) (final : Bool) : List Nat → List Nat → Option Nat → List (List Nat) × List Nat × List Nat × Option Nat
  | [], cur, scr => ([], cur, [], scr)
  | c :: t, cur, scr =>
    if t = [] ∧ !final then ([], cur, [c], scr)
    else
      match cur.getLast? with
      | none => cutPieces split final t [c] (nextScript scr c)
      | some p =>
        if boundaryBefore split p c t.head? scr (pieceLen cur) then
          let r := cutPieces split final t [c] (nextScript scr c)
          (cur :: r.1, r.2)
        else cutPieces split final t (cur ++ [c]) (nextScript scr c)

end Sys2Proof.Machine
end

