-- ==== Sys2Proof/Machine/Caption.lean ====
section
/-! DEFINITION. The Caption unit: vocabularies, tokeniser, detokeniser (R203 to R213). -/

namespace Sys2Proof.Machine

def vocab (s : State) (v : Nat) : Option Vocab := tget none s.cap.vocabs v
def setVocab (s : State) (v : Nat) (x : Option Vocab) : State := { s with cap := { s.cap with vocabs := tset none s.cap.vocabs v x } }
def detok (s : State) (c : Nat) : Option Detok := tget none s.cap.det c
def setDetok (s : State) (c : Nat) (x : Option Detok) : State := { s with cap := { s.cap with det := tset none s.cap.det c x } }
def tokStream (s : State) (n : Nat) : Option TokStream := tget none s.cap.streams n
def setTokStream (s : State) (n : Nat) (x : Option TokStream) : State := { s with cap := { s.cap with streams := tset none s.cap.streams n x } }

/-! ### Vocabularies (R204, R205) -/

/-- The header of an image at `a`, as a vocabulary of an extent. -/
def vocabAt (s : State) (a size : Nat) : Vocab :=
  { base := a, size := size, nTok := rdLe s (a + 8) 4, nMerge := rdLe s (a + 12) 4, bytemap := rdLe s (a + 16) 4,
    tokens := rdLe s (a + 20) 4, strings := rdLe s (a + 24) 4, merges := rdLe s (a + 32) 4 }

def tokOff (s : State) (v : Vocab) (t : Nat) : Nat := rdLe s (v.base + v.tokens + 8 * t) 3
def tokLen (s : State) (v : Vocab) (t : Nat) : Nat := rdLe s (v.base + v.tokens + 8 * t + 3) 1
def tokSpecial (s : State) (v : Vocab) (t : Nat) : Bool := bit (rdLe s (v.base + v.tokens + 8 * t + 4) 1) 0
def tokStr (s : State) (v : Vocab) (t : Nat) : List Byte := rdBytes s (v.base + v.strings + tokOff s v t) (tokLen s v t)
def byteTok (s : State) (v : Vocab) (b : Nat) : Nat := rdLe s (v.base + v.bytemap + 2 * b) 2
def mergeL (s : State) (v : Vocab) (k : Nat) : Nat := rdLe s (v.base + v.merges + 8 * k) 2
def mergeR (s : State) (v : Vocab) (k : Nat) : Nat := rdLe s (v.base + v.merges + 8 * k + 2) 2
def mergeRes (s : State) (v : Vocab) (k : Nat) : Nat := rdLe s (v.base + v.merges + 8 * k + 4) 2

def ordinary (s : State) (v : Vocab) (t : Nat) : Bool := decide (t < v.nTok) && !tokSpecial s v t

/-- Load check 1: the header, and every table and string inside the image. -/
def vocabCheck1 (s : State) (v : Vocab) (len : Nat) : Bool :=
  let a := v.base
  let sl := rdLe s (a + 28) 4
  decide (64 ≤ len) && decide (rdLe s a 4 = 0x434F5643) && decide (rdLe s (a + 4) 2 = 1) && decide (rdLe s (a + 6) 2 = 0) &&
  decide (rdLe s (a + 36) 28 = 0) && decide (257 ≤ v.nTok) && decide (v.nTok ≤ 65536) && decide (v.nMerge ≤ 65535) &&
  decide (1 ≤ sl) && decide (sl ≤ 16777216) && decide (v.bytemap + 512 ≤ len) && decide (v.tokens + 8 * v.nTok ≤ len) &&
  decide (v.strings + sl ≤ len) && decide (v.merges + 8 * v.nMerge ≤ len) &&
  (List.range v.nTok).all (fun t =>
    decide (tokOff s v t + tokLen s v t ≤ sl) && decide (rdLe s (a + v.tokens + 8 * t + 4) 4 < 2)) &&
  (List.range v.nMerge).all (fun k => decide (rdLe s (a + v.merges + 8 * k + 6) 2 = 0))

def vocabCheck2 (s : State) (v : Vocab) : Bool :=
  let m := (List.range 256).map (byteTok s v)
  decide (m.eraseDups.length = 256) &&
  (List.range 256).all (fun b => ordinary s v (byteTok s v b) && decide (tokStr s v (byteTok s v b) = [BitVec.ofNat 8 b]))

def vocabCheck3 (s : State) (v : Vocab) : Bool :=
  (List.range v.nTok).all (fun t => decide (tokLen s v t ≤ 128) && (tokSpecial s v t || decide (1 ≤ tokLen s v t)))

def vocabCheck4 (s : State) (v : Vocab) : Bool :=
  (List.range v.nMerge).all (fun k =>
    ordinary s v (mergeL s v k) && ordinary s v (mergeR s v k) && ordinary s v (mergeRes s v k) &&
    decide (tokStr s v (mergeRes s v k) = tokStr s v (mergeL s v k) ++ tokStr s v (mergeR s v k)))

def vocabCheck5 (s : State) (v : Vocab) : Bool :=
  decide (((List.range v.nMerge).map (fun k => (mergeL s v k, mergeR s v k))).eraseDups.length = v.nMerge)

/-- The first failed check (R204). -/
def vocabBad (s : State) (v : Vocab) (len : Nat) : Option Nat :=
  if !vocabCheck1 s v len then some 1 else if !vocabCheck2 s v then some 2 else if !vocabCheck3 s v then some 3
  else if !vocabCheck4 s v then some 4 else if !vocabCheck5 s v then some 5 else none

def capBase (s : State) : Nat := rg s 0x90010 + rg s 0x90014 * 2 ^ 32
def capEnd (s : State) : Nat := capBase s + rf s 0x90018 15 0 * 65536

/-- log2 of the pair index's entries. -/
def pairLog : Nat → Nat → Nat → Nat
  | 0, k, _ => k
  | n + 1, k, m => if 2 * m ≤ 2 ^ k then k else pairLog n (k + 1) m

def extentSize (len nMerge : Nat) : Nat := ceilDiv (len + 8 * 2 ^ pairLog 33 4 nMerge) 4096 * 4096

def extents (s : State) : List (Nat × Nat) :=
  s.cap.vocabs.filterMap (fun e => e.2.map (fun v => (v.base, v.base + v.size)))

/-- The lowest free extent of `n` bytes at the area's start or after an extent in use (R204). -/
def findExtent (s : State) (n : Nat) : Option Nat :=
  let c := (capBase s :: (extents s).map (·.2)).filter (fun a =>
    decide (a + n ≤ capEnd s) && !((extents s).any (fun e => meets e.1 e.2 a (a + n))))
  match c with
  | [] => none
  | x :: t => some (t.foldl min x)

/-- The vocabulary slots that a job image names: itself, for a recogniser, in a caption block. -/
def namedSlots (i : JobImage) : List Nat :=
  i.vslots ++ (i.models.filter (fun m => !m.detector)).map (·.vslot) ++ (i.fields.filter (fun f => decide (f.kind = .text))).map (·.caption.vslot)

/-- Jobs and contexts that name a vocabulary slot (R205). -/
def vocabRefs (s : State) (v : Nat) : Nat :=
  (s.jobs.filter (fun e => decide (e.2.st ≠ .empty) && (namedSlots e.2.img).contains v)).length +
  (s.ctxs.filter (fun e => decide (e.2.st ≠ .free) && e.2.caption && decide (e.2.cap.vslot = v))).length

/-- The image and its pair index, whose bytes the spec does not give, go into the caption area (R204). -/
def vocabLoad (s : State) (f : Flight) (src len v : Nat) : State :=
  if (vocab s v).isSome then complete s f stInUse 0 0
  else if !devRangeOk s src len then complete s f stBadParam 0x10 0
  else
    let size := extentSize len (rdLe s (src + 12) 4)
    match findExtent s size with
    | none => complete (flag s 0x90004 2) f stNoResource 0 0
    | some a =>
      if (poisonIn s src len).isSome then complete s f stPoisoned 0 0
      else
        let s := clearPoison (wrBytes s a (rdBytes s src len)) a len
        let x := vocabAt s a size
        let bad := vocabBad s x len
        let s := fillFree s (a + len) (8 * 2 ^ pairLog 33 4 x.nMerge)
        match bad with
        | some k => complete s f stBadParam k 0
        | none => complete (setVocab s v (some x)) f stOk 0 0

def execVocabLoad (c : Cmd) (src len vslot : Nat) (s : State) : Res :=
  .next (accept s c 0x30 [(decide (vslot < 16), 0x1C)] (fun s f => vocabLoad s f src len vslot))

def execVocabUnload (c : Cmd) (vslot : Nat) (s : State) : Res :=
  .next (accept s c 0x31 [(decide (vslot < 16), 0x10)] (fun s f =>
    if vocabRefs s vslot ≠ 0 then complete s f stInUse 0 0
    else complete (setVocab s vslot none) f stOk 0 0))

/-! ### The tokeniser (R207 to R209) -/

def rankFrom (s : State) (v : Vocab) (a b : Nat) : Nat → Nat → Option Nat
  | 0, _ => none
  | n + 1, k => if mergeL s v k = a ∧ mergeR s v k = b then some k else rankFrom s v a b n (k + 1)

/-- The rank of a pair of tokens (R208). -/
def rankOf (s : State) (v : Vocab) (a b : Nat) : Option Nat := rankFrom s v a b v.nMerge 0

/-- Position and rank of the leftmost pair of lowest rank. -/
def bestPair (s : State) (v : Vocab) : Nat → List Nat → Option (Nat × Nat)
  | i, a :: b :: t =>
    let rest := bestPair s v (i + 1) (b :: t)
    (match rankOf s v a b with
     | none => rest
     | some r => match rest with
       | none => some (i, r)
       | some (j, q) => if q < r then some (j, q) else some (i, r))
  | _, _ => none

def mergeAt (res : Nat) : Nat → List Nat → List Nat
  | 0, _ :: _ :: t => res :: t
  | n + 1, a :: t => a :: mergeAt res n t
  | _, t => t

def bpeLoop (s : State) (v : Vocab) : Nat → List Nat → List Nat
  | 0, t => t
  | n + 1, t =>
    match bestPair s v 0 t with
    | none => t
    | some (i, r) => bpeLoop s v n (mergeAt (mergeRes s v r) i t)

def bpe (s : State) (v : Vocab) (x : List Byte) : List Nat :=
  bpeLoop s v x.length (x.map (fun b => byteTok s v b.toNat))

def pieceTokens (s : State) (v : Vocab) (p : List Nat) : List Nat := bpe s v (p.map utf8).flatten

/-- One buffer of a stream: its tokens, its replacements, the stream's new state (R206 to R209). -/
def tokenizeBuf (s : State) (v : Vocab) (st : TokStream) (split : Nat) (final : Bool) (bs : List Byte) :
    List Nat × Nat × TokStream :=
  let raw := st.tail ++ bs
  let r := repair final (raw.length + 1) (withPos 0 raw)
  let cut := cutPieces split final (st.ahead ++ r.1.map (·.c)) st.piece st.script
  let ps := if final ∧ cut.2.1 ≠ [] then cut.1 ++ [cut.2.1] else cut.1
  let st' : TokStream := { tail := r.2.map (·.1), piece := cut.2.1, ahead := cut.2.2.1, script := cut.2.2.2 }
  ((ps.map (pieceTokens s v)).flatten, (r.1.filter (·.rep)).length, if final then {} else st')

def capTokenize (s : State) (f : Flight) (src dst len capn stream tflags vslot split : Nat) : State :=
  if !rangeOk s src len then complete s f stBadParam 0x10 0
  else if !rangeOk s dst (2 * capn) then complete s f stBadParam 0x18 0
  else if hostFail f.c [src, dst] then complete s f stHostErr 0 0
  else if (poisonIn s src len).isSome then complete s f stPoisoned 0 0
  else
    match vocab s vslot with
    | none => complete s f stNotReady 0 0
    | some v =>
      let st := if bit tflags 0 then {} else (tokStream s stream).getD {}
      let (ts, rp, st') := tokenizeBuf s v st split (bit tflags 1) (rdBytes s src len)
      if capn < ts.length then complete s f stNoResource 0 0
      else
        let s := storeBytes s dst (ts.map (leBytes 2)).flatten
        let s := setTokStream s stream (some st')
        let s := cadd s 0x90030 ts.length
        let s := if rp = 0 then s else bump (flag s 0x90004 0) 0x90028 rp
        complete s f stOk 0 (ts.length + min 65535 rp * 2 ^ 32)

def execCapTokenize (c : Cmd) (src dst len cap stream tflags vslot split : Nat) (s : State) : Res :=
  .next (accept s c 0x32
    [(decide (1 ≤ len) && decide (len ≤ 65536), 0x20), (decide (stream < 64), 0x28), (decide (tflags < 4), 0x29),
     (decide (vslot < 16), 0x2A), (decide (split < 8), 0x2B)]
    (fun s f => capTokenize s f src dst len cap stream tflags vslot split))

/-! ### The detokeniser (R210 to R213) -/

/-- The launch checks of a caption block (R210). -/
def captionOk (s : State) (b : Caption) : Bool :=
  decide (b.nstop ≤ 8) && decide (b.stops.length = b.nstop) &&
  b.stops.all (fun x => wellFormed8 x && decide (1 ≤ x.length) && decide (x.length ≤ 64)) &&
  decide (64 ≤ b.textMax) && decide (b.textMax ≤ 16384) && (vocab s b.vslot).isSome

def endsWith (w x : List Byte) : Bool := x.isSuffixOf w

/-- The earliest-starting stop string that ends at the end of w: index and start. -/
def stopHit (w : List Byte) : Nat → List (List Byte) → Option (Nat × Nat)
  | _, [] => none
  | j, x :: t =>
    let rest := stopHit w (j + 1) t
    if endsWith w x then
      (match rest with
       | some (k, b) => if b < w.length - x.length then some (k, b) else some (j, w.length - x.length)
       | none => some (j, w.length - x.length))
    else rest

/-- Length of the longest suffix of w that is a proper prefix of a stop string. -/
def heldStop (w : List Byte) (stops : List (List Byte)) : Nat :=
  ((List.range (w.length + 1)).filter (fun k =>
    stops.any (fun x => decide (k < x.length) && endsWith w (x.take k)))).foldl max 0

/-- Bytes of an incomplete character at the end of repaired bytes. -/
def heldChar (w : List Byte) : Nat :=
  let n := w.length
  let c := (List.range 4).filter (fun k => decide (0 < k) && decide (k ≤ n) &&
    (match (w.drop (n - k)) with
     | [] => false
     | b :: _ => decide (k < (leadInfo b.toNat).1) && decide (0xC0 ≤ b.toNat)))
  c.foldl max 0

/-- Split repaired bytes into whole characters. -/
def rchars : Nat → List RByte → List (List RByte)
  | 0, _ => []
  | _, [] => []
  | n + 1, b :: t =>
    let k := max 1 (leadInfo b.b.toNat).1
    (b :: t).take k :: rchars n ((b :: t).drop k)

/-- Write whole characters up to TEXT_MAX (R212): the memory, and the detokeniser. -/
def writeChars : List (List RByte) → State → Detok → State × Detok
  | [], s, d => (s, d)
  | c :: t, s, d =>
    match c with
    | [] => writeChars t s d
    | b :: _ =>
      if d.cap.textMax < d.len + c.length then
        (flag s 0x90004 3, { d with trunc := true, cut := some b.pos, w := [] })
      else
        let s := storeBytes s (d.cap.text + 16 + d.len) (c.map (·.b))
        let s := if b.rep then bump (flag s 0x90004 1) 0x9002C 1 else s
        writeChars t s { d with len := d.len + c.length, repl := d.repl + b2n b.rep }

def stopped (d : Detok) : Bool := d.stop.isSome || d.trunc

/-- push(c) of R211. -/
def pushByte (s : State) (d : Detok) (c : RByte) : State × Detok :=
  if stopped d then (s, d)
  else
    let w := d.w ++ [c]
    let bs := w.map (·.b)
    match stopHit bs 0 (d.cap.stops.take d.cap.nstop) with
    | some (j, b) =>
      let r := writeChars (rchars w.length (w.take b)) s { d with w := [] }
      if r.2.trunc then r
      else (r.1, { r.2 with stop := some j, cut := ((w.drop b).head?).map (·.pos) })
    | none =>
      let k := max (heldStop bs (d.cap.stops.take d.cap.nstop)) (heldChar bs)
      let r := writeChars (rchars w.length (w.take (w.length - k))) s d
      if r.2.trunc then r else (r.1, { r.2 with w := w.drop (w.length - k) })

def pushAll : List RByte → State → Detok → State × Detok
  | [], s, d => (s, d)
  | c :: t, s, d => let r := pushByte s d c; pushAll t r.1 r.2

def rbytes (r : RChar) : List RByte := (utf8 r.c).mapIdx (fun i b => ⟨b, r.pos, r.rep && decide (i = 0)⟩)

/-- The raw bytes of a token, or the flush of the held tail, through repair and the stop matcher. -/
def feedRaw (s : State) (d : Detok) (bs : List Byte) (final : Bool) : State × Detok :=
  let raw := d.tail ++ withPos d.raw bs
  let r := repair final (raw.length + 1) raw
  pushAll (r.1.map rbytes).flatten s { d with raw := d.raw + bs.length, tail := r.2 }

/-- NTOK (R213). -/
def ntok (d : Detok) : Nat :=
  match d.cut with
  | none => d.starts.length
  | some p => (d.starts.takeWhile (fun x => decide (x < p))).length

/-- The text result header (R210). -/
def writeHeader (s : State) (d : Detok) : State :=
  storeBytes s d.cap.text
    (leBytes 4 d.len ++ leBytes 2 (min 65535 d.repl) ++
     leBytes 1 (b2n d.stop.isSome + 2 * b2n d.trunc + 4 * b2n d.done) ++ leBytes 1 (d.stop.getD 0xFF) ++
     leBytes 4 (ntok d) ++ leBytes 4 0)

/-- The table cache answers a look-up of a context's class: hit or miss is open, and so is the traffic it causes
(R203; notes/assumptions/2.md). -/
def cacheLook (s : State) (cls bytes : Nat) : State :=
  let v := freshVal s
  let s := useFresh s
  if v % 2 = 0 then rsetN s 0x90020 (rg s 0x90020 + 1)
  else chargeDram (rsetN s 0x90024 (rg s 0x90024 + 1)) cls bytes

/-- Serve one token (R211). -/
def serveToken (s : State) (cls : Nat) (d : Detok) (v : Vocab) (t conf : Nat) : State × Detok :=
  let bs := if tokSpecial s v t ∨ v.nTok ≤ t then [] else tokStr s v t
  let s := cadd (cacheLook s cls (8 + bs.length)) 0x90038 1
  feedRaw s { d with starts := d.starts ++ [d.raw], confs := d.confs ++ [conf] } bs false

/-- Write every held byte. -/
def flushHeld (s : State) (d : Detok) : State × Detok :=
  if stopped d then (s, d) else writeChars (rchars d.w.length d.w) s { d with w := [] }

/-- The search has ended and every token is served: flush, then DONE (R212). -/
def finishText (s : State) (d : Detok) : State × Detok :=
  let r := feedRaw s d [] true
  let r := flushHeld r.1 r.2
  let d := { r.2 with done := true }
  (writeHeader r.1 d, d)

/-- Bytes of the text result that a step wrote, charged to the context's class where the text lies in DRAM (R203). -/
def chargeText (s : State) (c old : Nat) (d : Detok) : State :=
  if d.cap.text < dramSize s then chargeDram s (ctx s c).cls (16 + (d.len - old)) else s

/-- One token of a context's queue; the text is finished where it was the last one. -/
def detokStep (s : State) (c : Nat) : State :=
  match detok s c with
  | none => s
  | some d =>
    match d.queue with
    | [] => s
    | (t, conf) :: q =>
      match vocab s d.cap.vslot with
      | none => s
      | some v =>
        let r := serveToken s (ctx s c).cls { d with queue := q } v t conf
        let r := if r.2.ending && q.isEmpty then finishText r.1 r.2 else (writeHeader r.1 r.2, r.2)
        setDetok (chargeText r.1 c d.len r.2) c (some r.2)

/-- The selector hands a token on; the search's end is handed on too. -/
def detokPut (s : State) (c t conf : Nat) : State :=
  match detok s c with
  | none => s
  | some d => setDetok s c (some { d with queue := d.queue ++ [(t, conf)] })

def detokEnd (s : State) (c : Nat) : State :=
  match detok s c with
  | none => s
  | some d =>
    if d.done then s
    else if d.queue.isEmpty then
      let r := finishText s { d with ending := true }
      setDetok (chargeText r.1 c d.len r.2) c (some r.2)
    else setDetok s c (some { d with ending := true })

/-- Tokens past the cut (R212) are not served twice: the outcome of every token given so far has arrived. -/
def detokIdle (s : State) (c : Nat) : Bool := match detok s c with | none => true | some d => d.queue.isEmpty
def detokStopped (s : State) (c : Nat) : Bool := match detok s c with | none => false | some d => stopped d

/-- The caption block of a descriptor at `a` (R210). -/
def captionAt (s : State) (a : Nat) : Caption :=
  let n := rdLe s (a + 2) 1
  { vslot := rdLe s a 1 % 16, split := rdLe s (a + 1) 1 % 8, nstop := n,
    stops := (List.range (min 8 n)).map (fun j => rdBytes s (a + 0x20 + 64 * j) (rdLe s (a + 4 + j) 1)),
    text := rdLe s (a + 0x10) 8, textMax := rdLe s (a + 0x18) 4 }

end Sys2Proof.Machine
end

