-- ==== Sys2Proof/Machine/Ecc.lean ====
section
/-! DEFINITION. The address map of DRAM and the ECC errors of the memories (R116, R303, R318, R321). -/

namespace Sys2Proof.Machine

def chanBase (n : Nat) : Nat := 0x180000 + n * 0x10000
def chan (s : State) (n : Nat) : Chan := tget {} s.mc.chans n
def setChan (s : State) (n : Nat) (c : Chan) : State := { s with mc := { s.mc with chans := tset {} s.mc.chans n c } }

/-! ### Address map (R303) -/

def xorBits (r : Nat) (ks : List Nat) : Nat := (ks.filter (fun k => r.testBit k)).length % 2

/-- Channel and local address of a device address. -/
def toLocal (a : Nat) : Nat × Nat :=
  let g := a / 256
  let r := g / 3
  (2 * (g % 3) + xorBits r [0, 7, 14, 21], r / 2 * 256 + a % 256)

/-- The device address of a local address. -/
def toDevice (ch l : Nat) : Nat :=
  let r := 2 * (l / 256)
  let r0 := (ch % 2 + xorBits r [7, 14, 21]) % 2
  (3 * (r + r0) + ch / 2) * 256 + l % 256

/-! ### Errors met by reads (R116, R318, R321) -/

def inDrk (a : Nat) : Bool := decide (drkBase ≤ a) && decide (a < drkBase + drkSize)
def inTray (a : Nat) : Bool := decide (trayBase 0 ≤ a) && decide (a < trayBase 8)
def trayCore (a : Nat) : Nat := (a - trayBase 0) / 0x1000000
def coreBase (n : Nat) : Nat := 0x200000 + n * 0x20000

/-- A read of `a` meets an error that ECC corrects; what it returns is right, and it is written back. -/
def corrected (s : State) (a : Nat) : State :=
  if a < dramSize s then bump (flag s (chanBase (toLocal a).1 + 4) 0) (chanBase (toLocal a).1 + 0x30) 1
  else if inDrk a then bump (flag s 0xD0000 0) 0xD0008 1
  else if inTray a then bump (flag s (coreBase (trayCore a) + 4) 4) (coreBase (trayCore a) + 0x28) 1
  else s

/-- The burst is poisoned and its address latched. -/
def poisonBurst (s : State) (n a : Nat) : State :=
  let s := bump (flag s (chanBase n + 4) 1) (chanBase n + 0x34) 1
  setChan { s with poison := tset false s.poison a true } n { chan s n with ueAddr := a }

/-- A read of `a` meets an error that ECC cannot correct: the unit is poisoned until it is written. A unit already poisoned gives its
poison pattern and counts no further error. -/
def uncorrected (s : State) (a : Nat) : State :=
  let k := poisonKey s a
  if isPoison s a then s
  else if a < dramSize s then poisonBurst s (toLocal a).1 k
  else if inDrk a then rsetN (flag { s with poison := tset false s.poison k true } 0xD0000 1) 0xD000C (k - drkBase)
  else if inTray a then { s with poison := tset false s.poison k true }
  else s

/-- Errors that the reads of one operation meet: an address, and whether ECC cannot correct it. -/
def eccErrors (s : State) (l : List (Nat × Bool)) : State := l.foldl (fun s e => if e.2 then uncorrected s e.1 else corrected s e.1) s

end Sys2Proof.Machine
end

