-- ==== Sys2Proof/Machine/Channels.lean ====
section
/-! DEFINITION. The memory channels: refresh, hot mode, replays, patrol scrub, neighbour refresh and Pennant
(R300, R305 to R307, R312, R315, R316, R318, R319). -/

namespace Sys2Proof.Machine

/-! ### Refresh (R305 to R307) -/

/-- tREFI in ns. -/
def tRefi (hot : Bool) : Nat := if hot then 3900 else 7800

/-- The device time of a channel's next slot. -/
def slotTime (s : State) (n : Nat) : Nat := s.mc.t0 + n * (tRefi s.mc.hot / 6) + (chan s n).k * tRefi s.mc.hot

/-- DRAM_HOT_N asserted, or FORCE_2X set. -/
def hotWanted (s : State) : Bool := s.pins.dramHot || bit (rg s 0x180010) 31

/-- tRFC in quarters of a ns. -/
def tRfc4 (s : State) : Nat := if s.board.dens16 then 2200 else 1400

/-- A new mode begins at channel 0's slot: every channel counts its slots from there. -/
def newMode (s : State) (t : Nat) : State :=
  { s with mc := { s.mc with t0 := t, hot := hotWanted s, chans := tmap {} s.mc.chans (fun _ c => { c with k := 0 }) } }

/-- PREA, REF to each rank, and ZQCS at its turn (R306). -/
def refreshSlot (s : State) (n : Nat) : State :=
  let t := slotTime s n
  let s := if n = 0 ∧ hotWanted s ≠ s.mc.hot then newMode s t else s
  let c := chan s n
  let z := decide ((c.slots + 1) % (if s.mc.hot then 32768 else 16384) = 0)
  setChan s n { c with k := c.k + 1, slots := c.slots + 1, stallTo := 4 * t + 55 + tRfc4 s + (if z then 320 else 0) }

def execRefreshSlot (chan : Nat) (s : State) : Res :=
  .next (if isReady s && decide (chan < 6) && decide (slotTime s chan ≤ dt s) then refreshSlot s chan else s)

/-- The pin changes; the mode follows at channel 0's next slot (R307). -/
def execDramHotChange (hot : Bool) (s : State) : Res := .next { s with pins := { s.pins with dramHot := hot } }

/-! ### Replays (R316) -/

/-- Four replays in a row have failed: CA_FAIL, and the device goes out of service. -/
def caFail (s : State) (n : Nat) : State := deviceOos (flag s (chanBase n + 4) 4) { cause := 0x0704, tier := 6 }

/-- A replay, counted; `row` is the count of failures in a row after it. -/
def replay (s : State) (n b row : Nat) : State :=
  let s := bump (flag s (chanBase n + 4) b) (chanBase n + 0x40) 1
  if row = 4 then caFail s n else s

def execCaParityAlert (chan : Nat) (failed : Bool) (s : State) : Res :=
  let c := Machine.chan s chan
  let row := if failed then c.caRow + 1 else 0
  .next (if isReady s && decide (chan < 6) then replay (setChan s chan { c with caRow := row }) chan 2 row else s)

def execWrCrcAlert (chan : Nat) (failed : Bool) (s : State) : Res :=
  let c := Machine.chan s chan
  let row := if failed then c.wrRow + 1 else 0
  .next (if isReady s && decide (chan < 6) then replay (setChan s chan { c with wrRow := row }) chan 3 row else s)

/-! ### Pennant (R312) -/

/-- Some port raises Pennant for the channel. -/
def raised (s : State) (n : Nat) : Bool := (chan s n).fill.any (fun e => decide (2048 ≤ e.2))

/-! ### Scrub (R318, R319) -/

/-- Patrol scrub reads the next burst: `errs` is 0 for none, 1 for an error it corrects, 2 for one it cannot. -/
def scrub (s : State) (n errs : Nat) : State :=
  let c := chan s n
  let a := toDevice n (c.scrub * 64)
  let s := setChan s n { c with scrub := (c.scrub + 1) % (s.board.chanGib * 2 ^ 24) }
  if errs = 0 then s
  else if errs = 1 then corrected s a
  else writeRecord (poisonBurst s n a) { cause := 0x0706, tier := 0, addr := a }

/-- Scrub pauses while Pennant is raised for the channel (R312). -/
def execPatrolScrub (chan errs : Nat) (s : State) : Res :=
  .next (if isReady s && decide (chan < 6) && bit (rg s (chanBase chan + 0x50)) 31 && !raised s chan then scrub s chan errs else s)

/-! ### Row disturbance (R315) -/

/-- Rows r - 1 and r + 1 are activated and precharged: the bank is held for 91.5 ns. -/
def neighbourRefresh (s : State) (n key : Nat) : State :=
  let c := chan s n
  rsetN (setChan s n { c with banks := tset 0 c.banks key (4 * dt s + 366) }) (chanBase n + 0x4C) (rg s (chanBase n + 0x4C) + 1)

/-- Rows of a bank: the local address above two bank-group, two bank and, with two ranks, one rank bit (R304). -/
def rowCount (s : State) : Nat := s.board.chanGib * 2 ^ 30 / (2 ^ 17 * s.board.ranks)

/-- While Pennant is raised a neighbour refresh is held, up to 64 of them (R312); DESIGN CHOICE: one that finds 64 held is lost
(notes/assumptions/77.md). -/
def holdNeighbour (s : State) (n key : Nat) : State :=
  let c := chan s n
  if c.held.length < 64 then setChan s n { c with held := c.held ++ [key] } else s

def execNeighbourRefresh (chan rank bank row : Nat) (s : State) : Res :=
  .next (if isReady s && decide (chan < 6) && decide (rank < s.board.ranks) && decide (bank < 16) && decide (row < rowCount s) &&
      decide (rf s (chanBase chan + 0x10) 4 0 ≠ 0) then
      (if raised s chan then holdNeighbour s chan (rank * 16 + bank) else neighbourRefresh s chan (rank * 16 + bank))
    else s)

/-- The held neighbour refreshes run once Pennant has dropped. -/
def releaseHeld (s : State) (n : Nat) : State :=
  let c := chan s n
  if raised s n || c.held.isEmpty then s else c.held.foldl (fun s k => neighbourRefresh s n k) (setChan s n { c with held := [] })

/-- The sub-queue of a port for a channel holds so many bytes, at most its 4 KiB: a rise to 2 KiB raises Pennant (R312). -/
def setFill (s : State) (e : Nat × Nat × Nat) : State :=
  let n := e.2.1
  let c := chan s n
  let b := min 4096 e.2.2
  if 8 ≤ e.1 ∨ 6 ≤ n then s
  else
    let rise := decide (tget 0 c.fill e.1 < 2048) && decide (2048 ≤ b)
    let s := setChan s n { c with fill := tset 0 c.fill e.1 b }
    releaseHeld (if rise then bump (flag s (chanBase n + 4) 5) (chanBase n + 0x44) 1 else s) n

end Sys2Proof.Machine
end

