-- ==== Sys2Proof/Machine/Colour.lean ====
section
/-! DEFINITION. Colour arithmetic: the CIELAB transform of R89 in FP32, the colour differences of R228 and the
square roots, angles and exponentials they need, in fixed point of 96 fraction bits (R89, R91, R227 to R231). -/

namespace Sys2Proof.Machine

/-! ### Fixed point -/

/-- One in fixed point; the results of R228 need far fewer bits than these 96. -/
def fx1 : Int := 2 ^ 96

def fxMul (x y : Int) : Int := x * y / fx1
def fxDiv (x y : Int) : Int := if y = 0 then 0 else x * fx1 / y
def fxSqrt (x : Int) : Int := isqrt (x.toNat * 2 ^ 96)
def fxOf (n : Int) (d : Nat) : Int := n * fx1 / (d : Int)

def fxPow (x : Int) : Nat → Int
  | 0 => fx1
  | n + 1 => fxMul x (fxPow x n)

/-- pi / 180. -/
def fxDeg : Int := 1382792296179061584614010803
def fxPi : Int := 248902613312231085230521944622

/-- Sum of the alternating series t - t x2/(k+1)(k+2) + ... -/
def fxAlt (x2 : Int) : Nat → Int → Int → Int
  | 0, _, _ => 0
  | n + 1, k, t => t + fxAlt x2 n (k + 2) (-(fxMul t x2 / ((k + 1) * (k + 2))))

def fxSinR (x : Int) : Int := fxAlt (fxMul x x) 30 1 x
def fxCosR (x : Int) : Int := fxAlt (fxMul x x) 30 0 fx1

/-- An angle in degrees brought to (-180, 180]. -/
def wrapDeg (h : Int) : Int := (h + 180 * fx1) % (360 * fx1) - 180 * fx1
def fxCosDeg (h : Int) : Int := fxCosR (fxMul (wrapDeg h) fxDeg)
def fxSinDeg (h : Int) : Int := fxSinR (fxMul (wrapDeg h) fxDeg)

/-! ### Cosines of rational angles, for results that are rounded once (R242, R245): 480 fraction bits -/

def hx1 : Int := 2 ^ 480
def hxDeg : Int := 0x477d1a894a74e4570762fb374a42e26c805bd77a80daf35c728154da64a642895b7b08b3c0c88a438862864b4ea8a064b06a535a4acc78f738d89b8
def hxCosTerms (x2 : Int) : Nat → Int → Int → Int
  | 0, _, _ => 0
  | n + 1, k, t => t + hxCosTerms x2 n (k + 2) (-(t * x2 / hx1 / ((k + 1) * (k + 2))))

/-- cos of n / d degrees: exact where it is rational, else so near that one rounding to FP32 is that of the exact value. -/
def degCos (n : Int) (d : Nat) : FV :=
  let r := n % (360 * d : Nat)
  if r = 0 then fint 1
  else if r = 60 * d ∨ r = 300 * d then fq 1 2
  else if r = 90 * d ∨ r = 270 * d then .zero false
  else if r = 120 * d ∨ r = 240 * d then fq (-1) 2
  else if r = 180 * d then fint (-1)
  else
    let x := (if 180 * (d : Int) < r then 360 * (d : Int) - r else r) * hxDeg / d
    fq (hxCosTerms (x * x / hx1) 68 0 hx1) (2 ^ 480)

def degSin (n : Int) (d : Nat) : FV := degCos (n - 90 * (d : Int)) d

/-- An angle of a finite value in degrees. -/
def fvCos : FV → FV
  | .num n d => degCos n d
  | _ => fint 1
def fvSin : FV → FV
  | .num n d => degSin n d
  | _ => .zero false

/-- Terms of the arctangent series. -/
def fxAtanTerms (x2 : Int) : Nat → Int → Int → Int
  | 0, _, _ => 0
  | n + 1, k, p => p / k + fxAtanTerms x2 n (k + 2) (-(fxMul p x2))

/-- atan(x) for 0 <= x <= 1: the argument is halved three times first. -/
def halfTan (x : Int) : Int := fxDiv x (fx1 + fxSqrt (fx1 + fxMul x x))
def fxAtan (x : Int) : Int :=
  let y := halfTan (halfTan (halfTan x))
  8 * fxAtanTerms (fxMul y y) 30 1 y

/-- Hue angle in degrees, 0 to 360; 0 for the origin. -/
def fxHue (b a : Int) : Int :=
  if a = 0 ∧ b = 0 then 0
  else
    let p := (b.natAbs : Int)
    let q := (a.natAbs : Int)
    let r := if p ≤ q then fxAtan (fxDiv p q) else fxPi / 2 - fxAtan (fxDiv q p)
    let r := if a < 0 then fxPi - r else r
    let r := if b < 0 then 2 * fxPi - r else r
    fxDiv r fxDeg

/-- e^(-x) for x >= 0. -/
def fxExpTerms (x : Int) : Nat → Int → Int → Int
  | 0, _, _ => 0
  | n + 1, k, t => t + fxExpTerms x n (k + 1) (-(fxMul t x / (k + 1)))
def fxSquare : Nat → Int → Int
  | 0, x => x
  | n + 1, x => fxSquare n (fxMul x x)
def fxExpNeg (x : Int) : Int := fxSquare 8 (fxExpTerms (x / 256) 40 0 fx1)

/-- A non-negative fixed-point value in hundredths, half to even. -/
def hundredths (x : Int) : Nat := (rhe (100 * x) (2 ^ 96)).toNat

/-! ### Colour differences (R228) -/

/-- L*, a*, b* in fixed point. -/
structure Lab where
  l : Int := 0
  a : Int := 0
  b : Int := 0
  deriving DecidableEq, Repr, Inhabited

/-- A colour from its 8.8 codes. -/
def labCodes (l a b : Int) : Lab := ⟨fxOf l 256, fxOf a 256, fxOf b 256⟩

/-- Delta E*ab. -/
def deAb (x y : Lab) : Int :=
  fxSqrt (fxMul (x.l - y.l) (x.l - y.l) + fxMul (x.a - y.a) (x.a - y.a) + fxMul (x.b - y.b) (x.b - y.b))

def hyp2 (a b : Int) : Int := fxSqrt (fxMul a a + fxMul b b)

/-- x^7 / (x^7 + 25^7), under a square root. -/
def root7 (c : Int) : Int :=
  let p := fxPow c 7
  fxSqrt (fxDiv p (p + 6103515625 * fx1))

/-- The mean hue of R228's formula; the sum of both where a chroma is zero. -/
def meanHue (c1 c2 h1 h2 : Int) : Int :=
  if c1 = 0 ∨ c2 = 0 then h1 + h2
  else if (h1 - h2).natAbs ≤ (180 * fx1).natAbs then (h1 + h2) / 2
  else if h1 + h2 < 360 * fx1 then (h1 + h2 + 360 * fx1) / 2
  else (h1 + h2 - 360 * fx1) / 2

def diffHue (c1 c2 h1 h2 : Int) : Int :=
  if c1 = 0 ∨ c2 = 0 then 0
  else if (h2 - h1).natAbs ≤ (180 * fx1).natAbs then h2 - h1
  else if h1 < h2 then h2 - h1 - 360 * fx1
  else h2 - h1 + 360 * fx1

/-- CIEDE2000 with weights in tenths: x is the reference, y the sample. -/
def de00 (x y : Lab) (kl kc kh : Nat) : Int :=
  let g := fxMul (fx1 / 2) (fx1 - root7 ((hyp2 x.a x.b + hyp2 y.a y.b) / 2))
  let a1 := fxMul (fx1 + g) x.a
  let a2 := fxMul (fx1 + g) y.a
  let c1 := hyp2 a1 x.b
  let c2 := hyp2 a2 y.b
  let h1 := fxHue x.b a1
  let h2 := fxHue y.b a2
  let dl := y.l - x.l
  let dc := c2 - c1
  let dh := 2 * fxMul (fxSqrt (fxMul c1 c2)) (fxSinDeg (diffHue c1 c2 h1 h2 / 2))
  let lb := (x.l + y.l) / 2
  let cb := (c1 + c2) / 2
  let hb := meanHue c1 c2 h1 h2
  let t := fx1 - fxOf 17 100 * fxCosDeg (hb - 30 * fx1) / fx1 + fxOf 24 100 * fxCosDeg (2 * hb) / fx1 +
    fxOf 32 100 * fxCosDeg (3 * hb + 6 * fx1) / fx1 - fxOf 20 100 * fxCosDeg (4 * hb - 63 * fx1) / fx1
  let u := fxDiv (hb - 275 * fx1) (25 * fx1)
  let dth := 30 * fxExpNeg (fxMul u u)
  let rc := 2 * root7 cb
  let l50 := fxMul (lb - 50 * fx1) (lb - 50 * fx1)
  let sl := fx1 + fxDiv (fxMul (fxOf 15 1000) l50) (fxSqrt (20 * fx1 + l50))
  let sc := fx1 + fxMul (fxOf 45 1000) cb
  let sh := fx1 + fxMul (fxOf 15 1000) (fxMul cb t)
  let rt := -(fxMul (fxSinDeg (2 * dth)) rc)
  let tl := fxDiv (10 * dl) (kl * sl)
  let tc := fxDiv (10 * dc) (kc * sc)
  let th := fxDiv (10 * dh) (kh * sh)
  fxSqrt (fxMul tl tl + fxMul tc tc + fxMul th th + fxMul rt (fxMul tc th))

/-! ### The CIELAB transform (R89) -/

/-- Floor of the cube root, by bits. -/
def cbrtBits (n : Nat) : Nat → Nat → Nat
  | 0, r => r
  | k + 1, r => let c := r + 2 ^ k; cbrtBits n k (if c * c * c ≤ n then c else r)
def icbrt (n : Nat) : Nat := cbrtBits n (Nat.log2 n / 3 + 1) 0

/-- The cube root of a positive value, rounded once to FP32. -/
def cbrt32 : FV → FV
  | .num n d => if 0 < n then rn32 (fq (icbrt (n.toNat * 2 ^ 300 / d)) (2 ^ 100)) else .zero false
  | x => x

/-- f(t) of R89, step 3. -/
def labF (t : FV) : FV :=
  if flt (rn32 (fq 216 24389)) t then cbrt32 t
  else rn32 (fadd (rn32 (fdiv t (rn32 (fq 108 841)))) (rn32 (fq 4 29)))

/-- A code of at most `hi` and at least `lo`, half to even. -/
def code88 (lo hi : Int) (x : FV) : Int := (toInt lo hi (fmul x (fint 256))).1

/-- The Lut of a colour-transform input: 4,097 entries, two to a word of the array window (R89). -/
def lutEntry (tab : Nat → Nat) (i : Nat) : Nat := if i % 2 = 0 then bits (tab (i / 2)) 15 0 else bits (tab (i / 2)) 31 16

/-- Step 1: linearisation of a corrected value. -/
def linearise (tab : Nat → Nat) (y : Nat) : Nat :=
  let i := y / 16
  let r := y % 16
  let a : Int := lutEntry tab i
  let b : Int := lutEntry tab (i + 1)
  (a + ((b - a) * r + 8) / 16).toNat

/-- Step 2: one row of the matrix against the four linearised bands. -/
def matRow (cs : List Int) (vs : List Nat) : FV :=
  (cs.zip vs).foldl (fun a e => rn32 (fadd a (rn32 (fq (e.1 * e.2) (4096 * 65535))))) (.zero false)

/-- Steps 3 and 4: the 8.8 codes of X, Y, Z. -/
def xyzToLab (x y z : FV) : Int × Int × Int :=
  let fx := labF (rn32 (fdiv x (rn32 (fq 96422 100000))))
  let fy := labF (rn32 (fdiv y (fint 1)))
  let fz := labF (rn32 (fdiv z (rn32 (fq 82521 100000))))
  let l := rn32 (fsub (rn32 (fmul (fint 116) fy)) (fint 16))
  let a := rn32 (fmul (fint 500) (rn32 (fsub fx fy)))
  let b := rn32 (fmul (fint 200) (rn32 (fsub fy fz)))
  (code88 0 25600 l, code88 (-32768) 32767 a, code88 (-32768) 32767 b)

/-- L*, a*, b* codes from the four linearised bands and the matrix, row-major. -/
def labOf (mat : List Int) (vs : List Nat) : Int × Int × Int :=
  xyzToLab (matRow (mat.take 4) vs) (matRow ((mat.drop 4).take 4) vs) (matRow ((mat.drop 8).take 4) vs)

/-! ### Patch statistics (R91, R229) -/

def Stat.add (a : Stat) (v : Int) : Stat := ⟨a.n + 1, a.s1 + v, a.s2 + v * v⟩
def Stat.mean (a : Stat) : FV := rn32 (fq a.s1 a.n)
def Stat.variance (a : Stat) : FV := rn32 (fq (a.n * a.s2 - a.s1 * a.s1) (a.n * a.n))

/-- A value over 256, in fixed point. -/
def fxOver256 : FV → Int
  | .num n d => fxOf n (d * 256)
  | _ => 0

def fxOfFV : FV → Int
  | .num n d => fxOf n d
  | _ => 0

/-- sdL = sqrt(variance) / 256. -/
def sdOf (v : FV) : Int := fxSqrt (fxOfFV v) / 256

/-! ### The chart fit (R231) -/

/-- f^-1 of CIE 15, to convert a reference colour to XYZ. -/
def labInv (t : FV) : FV :=
  if flt (fq 6 29) t then fmul t (fmul t t) else fmul (fq 108 841) (fsub t (fq 4 29))

/-- The reference's X, Y, Z under D50, each exact and then rounded to binary64. -/
def labToXyz (l a b : Int) : FV × FV × FV :=
  let fy := fq (l + 16 * 256) (116 * 256)
  (rn64 (fmul (fq 96422 100000) (labInv (fadd fy (fq a (500 * 256))))), rn64 (labInv fy),
   rn64 (fmul (fq 82521 100000) (labInv (fsub fy (fq b (200 * 256))))))

/-- a - x1 y1 - x2 y2 ..., each product and difference rounded to binary64. -/
def less64 (a : FV) (xs ys : List FV) : FV := (xs.zip ys).foldl (fun a e => rn64 (fsub a (rn64 (fmul e.1 e.2)))) a

/-- One row of the Cholesky factor below the rows `ls`; none at a pivot that is not positive. -/
def cholRow (ls : List (List FV)) (a : List FV) : Option (List FV) :=
  let r := ls.foldl (fun r l => r ++ [rn64 (fdiv (less64 (a.getD r.length .nan) r l) (l.getD r.length .nan))]) []
  let p := less64 (a.getD r.length .nan) r r
  if flt (.zero false) p then some (r ++ [rn64 (fsqrt p)]) else none

def cholesky (as : List (List FV)) : Option (List (List FV)) :=
  as.foldl (fun o a => o.bind (fun ls => (cholRow ls a).map (fun r => ls ++ [r]))) (some [])

/-- Forward substitution through the factor. -/
def cholForward (ls : List (List FV)) (bs : List FV) : List FV :=
  (ls.zip bs).foldl (fun ys e => ys ++ [rn64 (fdiv (less64 e.2 e.1 ys) (e.1.getD ys.length .nan))]) []

/-- Back substitution through its transpose: unknown i, with those above it known. -/
def cholBack (ls : List (List FV)) (ys : List FV) : Nat → List FV → List FV
  | 0, xs => xs
  | i + 1, xs =>
    let col := (ls.drop (i + 1)).map (fun l => l.getD i .nan)
    cholBack ls ys i (rn64 (fdiv (less64 (ys.getD i .nan) col xs) ((ls.getD i []).getD i .nan)) :: xs)

/-- A linearised band as the fit takes it. -/
def band64 (v : List Nat) (i : Nat) : FV := rn64 (fq (v.getD i 0) 65535)

/-- A sum in binary64, in the order of the patches. -/
def sum64 (l : List FV) : FV := l.foldl (fun a x => rn64 (fadd a (rn64 x))) (.zero false)

/-- The matrix of the normal equations, and the right side of one row's. -/
def normalMat (vs : List (List Nat)) : List (List FV) :=
  (List.range 4).map (fun i => (List.range 4).map (fun j => sum64 (vs.map (fun v => fmul (band64 v i) (band64 v j)))))
def normalRhs (vs : List (List Nat)) (ts : List FV) : List FV :=
  (List.range 4).map (fun i => sum64 ((vs.zip ts).map (fun e => fmul (band64 e.1 i) e.2)))

/-- A coefficient in signed 4.12. -/
def coef412 (x : FV) : Int := (toInt (-32768) 32767 (fmul x (fint 4096))).1

/-- The 12 coefficients; none where a pivot is not positive. The order of the sums is the model's (notes/assumptions/44.md). -/
def fitMatrix (vs : List (List Nat)) (refs : List (Int × Int × Int)) : Option (List Int) :=
  let xyz := refs.map (fun r => labToXyz r.1 r.2.1 r.2.2)
  (cholesky (normalMat vs)).map (fun ls =>
    let row (ts : List FV) : List Int := (cholBack ls (cholForward ls (normalRhs vs ts)) 4 []).map coef412
    row (xyz.map (·.1)) ++ row (xyz.map (·.2.1)) ++ row (xyz.map (·.2.2)))

end Sys2Proof.Machine
end

