-- ==== Sys2Proof/Machine/Front.lean ====
section
/-! DEFINITION. The strip ports and the pixel pipeline: receiving lines, shading, white tracking, resolution change,
colour, the raster ring, patch windows, stripe buffers (R76 to R92, R160 to R164, R227 to R229). -/

namespace Sys2Proof.Machine

def setFe (s : State) (f : Fe) : State := { s with fe := f }

/-! ### Port configuration (R76 to R80) -/

def spBase (p : Nat) : Nat := 0x100000 + p * 0x10000
def spEn (s : State) (p : Nat) : Bool := bit (rg s (spBase p)) 31
def npOf (w : Nat) : Nat := if bit w 30 then 16 else 12
def lOf (w : Nat) : Nat := 2 ^ bits w 29 28
def mOf (w : Nat) : Nat := 2 ^ bits w 27 25
def sOf (w : Nat) : Nat := 2 ^ bits w 24 22
def fOf (w : Nat) : Nat := bits w 21 16 + 1
def eOf (w : Nat) : Nat := bits w 15 14 + 1
def nOf (w : Nat) : Nat := 12 - bits w 13 12
def bandsOf (w : Nat) : Nat := bits w 2 0 + 1
def pixBase (s : State) (p : Nat) : Nat := rf s (spBase p + 4) 15 0
def pixCount (s : State) (p : Nat) : Nat := rf s (spBase p + 4) 29 16
def cropLo (s : State) (p : Nat) : Nat := rf s (spBase p + 8) 7 0
def cropHi (s : State) (p : Nat) : Nat := rf s (spBase p + 8) 15 8
def mapped (s : State) (p : Nat) : Nat := pixCount s p - cropLo s p - cropHi s p
def framesOfLine (s : State) (p : Nat) : Nat :=
  let w := rg s (spBase p)
  pixCount s p * bandsOf w / (mOf w * sOf w)

/-- Device pixels an enabled port delivers, as a half-open range. -/
def portRange (s : State) (p : Nat) : Option (Nat × Nat) :=
  if spEn s p then some (pixBase s p, pixBase s p + mapped s p) else none

/-- `d` ns are less than `k` frame periods of the port: F octets of 66/64 bits each at the lane rate. -/
def underFrames (s : State) (p k d : Nat) : Bool :=
  decide (d * 64 * s.board.laneMbps < k * fOf (rg s (spBase p)) * 8 * 66 * 1000)

/-- `d` ns are less than `k` minimum line periods of the port (R83). -/
def underPeriods (s : State) (p k d : Nat) : Bool := underFrames s p (k * framesOfLine s p) d

/-- Some active lane's span meets device pixels [a, b). -/
def lanesMeet (s : State) (a b : Nat) : Bool :=
  s.lanes.any (fun e => isActive e.2.st && meets e.2.act.pixStart (e.2.act.pixEnd + 1) a b)

/-- Some active lane's span meets a port of the mask. -/
def lanesOnPorts (s : State) (mask : Nat) : Bool :=
  (bitList mask 8).any (fun p => lanesMeet s (pixBase s p) (pixBase s p + mapped s p))

/-! ### Samples to corrected pixels (R77, R80, R85, R87) -/

/-- The raw 12-bit value of an N'-bit sample word. -/
def raw12 (w x : Nat) : Nat := x / 2 ^ (npOf w - nOf w) % 2 ^ nOf w * 2 ^ (12 - nOf w)

/-- The place in arrival order of band b of mapped pixel q. -/
def sampleAt (s : State) (p q b : Nat) : Nat :=
  let w := rg s (spBase p)
  let px := cropLo s p + (if bit w 7 then mapped s p - 1 - q else q)
  if bit w 8 then b * pixCount s p + px else px * bandsOf w + b

/-- Raw values of the port's mapped pixels, band by band. -/
def rawPx (s : State) (p : Nat) (xs : List Nat) : List (List Nat) :=
  let w := rg s (spBase p)
  (List.range (mapped s p)).map (fun q => (List.range (bandsOf w)).map (fun b => raw12 w (xs.getD (sampleAt s p q b) 0)))

def sat16 (x : Int) : Nat := (max 0 (min 65535 x)).toNat

/-- y of R85. -/
def shade1 (s : State) (px b x : Nat) : Nat :=
  if bit (rg s 0xC0000) 1 then
    let e := tget (0, 0) s.fe.shade (px * 8 + b)
    sat16 (rhe ((16 * x - e.1 : Int) * e.2) 16384)
  else 16 * x

def shadePx (s : State) (p : Nat) (raws : List (List Nat)) : List (List Nat) :=
  raws.mapIdx (fun q bs => bs.mapIdx (fun b x => shade1 s (pixBase s p + q) b x))

def trackEn (s : State) : Bool := bit (rg s 0xC0010) 31

/-- The tracking factor applied (R87). -/
def trackPx (s : State) (ys : List (List Nat)) : List (List Nat) :=
  if trackEn s then ys.map (fun bs => bs.mapIdx (fun b y => sat16 (rhe ((y * s.fe.track.getD b 16384 : Nat) : Int) 16384))) else ys

/-- A line's share of the white-tracking sums. -/
def trackSum (s : State) (p : Nat) (ys : List (List Nat)) : State :=
  let st := rf s 0xC0010 15 0
  let w := rf s 0xC0014 10 0
  if trackEn s && decide (pixBase s p ≤ st) && decide (st + w ≤ pixBase s p + mapped s p) then
    let cols := (ys.drop (st - pixBase s p)).take w
    let sums := cols.foldl (fun t bs => (bs.mapIdx (fun b y => (b, y))).foldl (fun t e => tmod 0 t e.1 (· + e.2)) t) s.fe.sums
    if s.fe.sumLines + 1 = 64 then setFe s { s.fe with sums := [], sumLines := 0, group := some sums }
    else setFe s { s.fe with sums := sums, sumLines := s.fe.sumLines + 1 }
  else s

/-- T[b] from the sum of a group; whether the clamp acts. -/
def trackFactor (s : State) (sum : Nat) : Nat × Bool :=
  let lim := 16 * rf s 0xC0010 25 16
  let t := if sum = 0 then 16384 + lim + 1 else (rhe (16384 * rf s 0xC0000 31 16 * 64 * rf s 0xC0014 10 0) sum).toNat
  if 16384 + lim < t then (16384 + lim, true) else if t < 16384 - lim then (16384 - lim, true) else (t, false)

def whiteUpdate (s : State) (sums : Tab Nat) : State :=
  let fs := (List.range 8).map (fun b => if (sums.map (·.1)).contains b then trackFactor s (tget 0 sums b) else (s.fe.track.getD b 16384, false))
  let cl := fs.any (·.2)
  let s := setFe s { s.fe with track := fs.map (·.1), clamped := cl, group := none }
  if cl then flag s 0xC0004 1 else s

def execWhiteTrackUpdate (s : State) : Res :=
  .next (match s.fe.group with
    | some g => if isReady s then whiteUpdate s g else s
    | none => s)

/-! ### Reference captures (R86) -/

def capOne (p base : Nat) (raws : List (List Nat)) (c : Capture) : Capture :=
  if c.ports.testBit p ∧ tget 0 c.got p < c.lines then
    { c with got := tmod 0 c.got p (· + 1),
             sums := (raws.mapIdx (fun q bs => (q, bs))).foldl (fun t e =>
               (e.2.mapIdx (fun b x => (b, x))).foldl (fun t f => tmod 0 t ((base + e.1) * 8 + f.1) (· + f.2)) t) c.sums }
  else c

def capDone (c : Capture) : Bool := (bitList c.ports 8).all (fun p => decide (tget 0 c.got p = c.lines))

/-- Pixel-band keys of the ports of a mask. -/
def portKeys (s : State) (mask : Nat) : List Nat :=
  ((bitList mask 8).map (fun p => ((List.range (mapped s p)).map (fun q =>
    (List.range (bandsOf (rg s (spBase p)))).map (fun b => (pixBase s p + q) * 8 + b))).flatten)).flatten

def blackRef (c : Capture) (t : Tab (Nat × Nat)) (k : Nat) : Tab (Nat × Nat) :=
  tmod (0, 0) t k (fun e => ((rhe (16 * tget 0 c.sums k) c.lines).toNat, e.2))

/-- D x lines, from the shadow's black offset. -/
def whiteD (c : Capture) (t : Tab (Nat × Nat)) (k : Nat) : Int := 16 * tget 0 c.sums k - (tget (0, 0) t k).1 * c.lines

def whiteRef (tgt : Nat) (c : Capture) (t : Tab (Nat × Nat)) (k : Nat) : Tab (Nat × Nat) :=
  let d := whiteD c t k
  tmod (0, 0) t k (fun e => (e.1, if d ≤ 0 then 0 else sat16 (rhe (16384 * tgt * c.lines) d.toNat)))

/-- The shadow copy takes the averages; pixels with G = 0 count (R86). -/
def endCapture (s : State) (c : Capture) : State :=
  let ks := portKeys s c.ports
  if c.white then
    let dead := ((ks.filter (fun k => decide (whiteD c s.fe.shadow k ≤ 0))).map (· / 8)).eraseDups
    bump (setFe s { s.fe with shadow := ks.foldl (whiteRef (rf s 0xC0000 31 16) c) s.fe.shadow }) 0xC005C dead.length
  else setFe s { s.fe with shadow := ks.foldl (blackRef c) s.fe.shadow }

def capLine (s : State) (p : Nat) (raws : List (List Nat)) : State :=
  let cs := s.fe.caps.map (capOne p (pixBase s p) raws)
  let s := setFe s { s.fe with caps := cs.filter (fun c => !capDone c) }
  (cs.filter capDone).foldl (fun s c => completeAwait (endCapture s c) (.feCapture c.id) stOk 0 0) s

/-! ### Lines (R61, R81 to R84) -/

def segOf (l : Line) (p : Nat) : Option Seg := tget none l.segs p
def segWaits (l : Line) (p : Nat) : Bool := match segOf l p with | some g => decide (g.st = .waiting) || decide (g.st = .spoilt) | none => false
def setSeg (p : Nat) (g : Seg) (l : Line) : Line := { l with segs := tset none l.segs p (some g) }

/-- Change the port's oldest line that has no data yet. -/
def onOldest (p : Nat) (f : Line → Line) : List Line → List Line
  | [] => []
  | l :: t => if segWaits l p then f l :: t else l :: onOldest p f t

def oldest (s : State) (p : Nat) : Option Line := s.fe.lines.find? (fun l => segWaits l p)

/-- SPn_CFG.FRAMING is CTRL_BIT. -/
def ctrlBit (s : State) (p : Nat) : Bool := bit (rg s (spBase p)) 9

/-- In LSYNC_DELAY mode `k` frames of the line have arrived: it starts LINE_DLY frame periods after its LSYNC edge (R81). -/
def framesIn (s : State) (p k : Nat) (l : Line) : Bool := !underFrames s p (rf s (spBase p + 0xC) 15 0 + k) (dt s - l.dt)

/-- The port is within a line; in CTRL_BIT mode from the line's trigger on. -/
def inLine (s : State) (p : Nat) : Bool :=
  spEn s p && (match oldest s p with | none => false | some l => ctrlBit s p || framesIn s p 0 l)

/-- The device pixel is one of port p's. -/
def ofPort (s : State) (p x : Nat) : Bool := decide (pixBase s p ≤ x) && decide (x < pixBase s p + mapped s p)

/-- A word that the port's segments use has an uncorrectable error: line memory or shading store (R321). -/
def wordsBad (s : State) (p : Nat) : Bool := s.fe.badWords.any (ofPort s p)

/-- The active copy of port p takes the shadow copy, which rewrites its words (R86, R321). -/
def copyRefs (s : State) (p : Nat) : State :=
  setFe s { s.fe with badWords := s.fe.badWords.filter (fun x => !ofPort s p x),
                      shade := (portKeys s (2 ^ p)).foldl (fun a k => tset (0, 0) a k (tget (0, 0) s.fe.shadow k)) s.fe.shade }

/-- A line boundary of port p: every FE_REF_APPLY that waits for it takes effect there, and completes with its last port (R86). -/
def applyPort (p : Nat) : List (Nat × Nat) → State → State
  | [], s => s
  | (id, m) :: t, s =>
    if m.testBit p then
      let rest := putBit m p false
      let s := copyRefs s p
      if rest = 0 then
        applyPort p t (completeAwait (setFe s { s.fe with applies := s.fe.applies.filter (fun e => decide (e.1 ≠ id)) }) (.feApply id) stOk 0 0)
      else applyPort p t (setFe s { s.fe with applies := s.fe.applies.map (fun e => if e.1 = id then (id, rest) else e) })
    else applyPort p t s

def lineBoundary (s : State) (p : Nat) : State := applyPort p s.fe.applies s

/-- The line of the port's oldest trigger takes `xs`; too few samples make the segment invalid (R81). -/
def takeLine (s : State) (p : Nat) (xs : List Nat) : State :=
  let w := rg s (spBase p)
  let need := framesOfLine s p * mOf w * sOf w
  match oldest s p with
  | none => if ctrlBit s p then flag s (spBase p + 0x10) 6 else s
  | some l =>
    if xs.length < need then
      lineBoundary (flag (setFe s { s.fe with lines := onOldest p (setSeg p { st := .invalid }) s.fe.lines }) (spBase p + 0x10) 2) p
    else
      let s := if need < xs.length then flag s (spBase p + 0x10) 3 else s
      if segOf l p = some { st := .spoilt } ∨ wordsBad s p then
        lineBoundary (setFe s { s.fe with lines := onOldest p (setSeg p { st := .invalid }) s.fe.lines }) p
      else
        let raws := rawPx s p xs
        let ys := shadePx s p raws
        let g : Seg := { st := .ok, px := trackPx s ys }
        let cl := s.fe.clamped && trackEn s
        let s := setFe s { s.fe with lines := onOldest p (fun l => setSeg p g { l with clamped := l.clamped || cl }) s.fe.lines }
        lineBoundary (trackSum (capLine s p raws) p ys) p

/-- The frames that the samples of a line take. -/
def framesHeld (s : State) (p n : Nat) : Nat := ceilDiv n (mOf (rg s (spBase p)) * sOf (rg s (spBase p)))

/-- The samples are those of a line: in CTRL_BIT mode its first carries control bit 0, in LSYNC_DELAY mode its frames have had the
time to arrive since the oldest trigger (R81). Control bit 0 is taken as the first bit below the data, bit N'-N-1 (DESIGN CHOICE,
notes/assumptions/77.md). -/
def lineStarts (s : State) (p : Nat) (xs : List Nat) : Bool :=
  let w := rg s (spBase p)
  if bit w 9 then bit (xs.headD 0) (npOf w - nOf w - 1)
  else match oldest s p with
    | some l => framesIn s p (framesHeld s p xs.length) l
    | none => true

def linkDown (s : State) (p : Nat) : Bool := decide (tget 0 s.fe.down p ≠ 0)

def execStripLineReceive (port : Nat) (samples : List Nat) (s : State) : Res :=
  .next (if isReady s && decide (port < 8) && spEn s port && !linkDown s port && lineStarts s port samples then
      takeLine s port samples else s)

/-- The port's oldest line ends without its data. -/
def endLine (s : State) (p : Nat) : State :=
  lineBoundary (flag (setFe s { s.fe with lines := onOldest p (setSeg p { st := .invalid }) s.fe.lines }) (spBase p + 0x10) 2) p

def execLineStartTimeout (port : Nat) (s : State) : Res :=
  .next (if isReady s && decide (port < 8) && !ctrlBit s port then
      (match oldest s port with
       | some l => if underPeriods s port 2 (dt s - l.dt) then s else endLine s port
       | none => s)
    else s)

/-- A segment that draws samples from a multiblock in error (R84): one still awaited becomes invalid when it arrives. -/
def spoil (p : Nat) (l : Line) : Line :=
  match segOf l p with
  | some g => if g.st = .waiting then setSeg p { st := .spoilt } l else if g.st = .ok then setSeg p { st := .invalid } l else l
  | none => l

/-- A CRC-12 error of a multiblock of the port; `lines` are the device times of the triggers of the lines that draw samples from it,
those whose row is not yet written among them (R84). -/
def execStripCrcError (port : Nat) (lines : List Nat) (s : State) : Res :=
  .next (if isReady s && decide (port < 8) && spEn s port then
      bump (flag (setFe s { s.fe with lines := s.fe.lines.map (fun l => if lines.contains l.dt then spoil port l else l) })
        (spBase port + 0x10) 1) (spBase port + 0x18) 1
    else s)

/-- Lock bits of the port's link lanes. -/
def lockMask (s : State) (p : Nat) : Nat := (2 ^ lOf (rg s (spBase p)) - 1) &&& (15 - tget 0 s.fe.down p % 16)

def stripLink (s : State) (p lost lock : Nat) : State :=
  report s 0x0401 none p 0 (leBytes 4 lost ++ leBytes 1 lock ++ leBytes 1 (lockMask s p))

def invalidate (p : Nat) (l : Line) : Line := if segWaits l p then setSeg p { st := .invalid } l else l

/-- A link lane loses lock: lines without data are lost until lock returns (R84). -/
def execStripLinkDown (port link : Nat) (s : State) : Res :=
  .next (if isReady s && decide (port < 8) && decide (link < lOf (rg s (spBase port))) && !bit (tget 0 s.fe.down port) link then
      (let n := (s.fe.lines.filter (fun l => segWaits l port)).length
       let s := setFe s { s.fe with down := tmod 0 s.fe.down port (fun m => putBit m link true), lines := s.fe.lines.map (invalidate port),
                                    lost := tmod 0 s.fe.lost port (· + n) }
       lineBoundary (stripLink (flag s (spBase port + 0x10) 0) port 0 0) port)
    else s)

def execStripLinkRelock (port link : Nat) (s : State) : Res :=
  .next (if isReady s && decide (port < 8) && bit (tget 0 s.fe.down port) link then
      (let s := setFe s { s.fe with down := tmod 0 s.fe.down port (fun m => putBit m link false) }
       if linkDown s port then s
       else stripLink (setFe s { s.fe with lost := tset 0 s.fe.lost port 0 }) port (tget 0 s.fe.lost port) 1)
    else s)

/-- A port that is disabled delivers nothing: the lines it still owes are invalid, and it stands at a line boundary (R78, R86, R88). -/
def portOff (s : State) (p : Nat) : State := lineBoundary (setFe s { s.fe with lines := s.fe.lines.map (invalidate p) }) p

/-- SYSREF sets the phase while armed, else it is checked against it (R82); phases are counts modulo 2^16. -/
def execSysrefEdge (phase : Nat) (s : State) : Res :=
  .next (if isReady s then
      (if bit (rg s 0xC000C) 31 then
        setFe (rsetN s 0xC000C (putBit (rg s 0xC000C) 31 false)) { s.fe with sysPhase := phase % 65536 }
       else
        let d := ofTwos 16 (phase % 65536 + 65536 - s.fe.sysPhase)
        if d.natAbs ≤ rf s 0xC000C 7 0 then s
        else report (flag s 0xC0004 0) 0x0402 none 0 0 (leBytes 2 (twos 16 d)))
    else s)

/-! ### Line triggers (R61, R66, R82, R83) -/

/-- The port's trigger falls due less than a minimum line period after its previous one (R83). -/
def tooSoon (s : State) (p : Nat) : Bool :=
  (s.tmu.lastTrig.map (·.1)).contains p && underPeriods s p 1 (dt s - tget 0 s.tmu.lastTrig p)

/-- The port's segment of the line that the trigger's target names; the line is made with its first segment (R61). -/
def addSeg (s : State) (tgt p : Nat) (g : Seg) : State :=
  let gen := tget (0, 0) s.fe.gen p
  let same (l : Line) : Bool := decide (l.wt = tgt) && decide (l.dt = dt s) && decide (l.gen = gen)
  if s.fe.lines.any same then setFe s { s.fe with lines := s.fe.lines.map (fun l => if same l then setSeg p g l else l) }
  else setFe s { s.fe with lines := s.fe.lines ++ [setSeg p g { wt := tgt, dt := dt s, gen := gen, idx := (tgt - gen.1) / gen.2 }] }

/-- The pulse of LSYNC, LSYNC_W x 10 ns wide (R82). -/
def pulseLsync (s : State) (p : Nat) : State :=
  let w := rf s (spBase p + 0xC) 31 24 * 10
  if w = 0 then s
  else { s with pins := { s.pins with lsync := putBit s.pins.lsync p true }, tmu := { s.tmu with lsyncTo := tset 0 s.tmu.lsyncTo p (dt s + w) } }

/-- A trigger at one port of the entry's mask: skipped too soon, or driven; an enabled port awaits its line, which is lost with the
link down (R82 to R84). -/
def trigPort (tgt : Nat) (s : State) (p : Nat) : State :=
  if tooSoon s p then
    let s := flag s (spBase p + 0x10) 4
    if spEn s p then addSeg s tgt p { st := .skipped } else s
  else
    let s := pulseLsync { s with tmu := { s.tmu with lastTrig := s.tmu.lastTrig.filter (fun e => decide (e.1 ≠ p)) ++ [(p, dt s)] } } p
    if !spEn s p then s
    else if linkDown s p then addSeg (setFe s { s.fe with lost := tmod 0 s.fe.lost p (· + 1) }) tgt p { st := .invalid }
    else addSeg s tgt p {}

/-- A LINE_TRIG entry fires and re-arms at target + period. -/
def fireTrig (s : State) (k : Nat) : State :=
  let e := ent s k
  let s := (bitList e.len 8).foldl (trigPort e.target) s
  let t := e.target + e.par
  setEnt s k { e with target := t, w0 := BitVec.ofNat 32 t, w1 := BitVec.ofNat 32 (t / 2 ^ 32) }

def trigDue (s : State) (e : Entry) : Bool := e.armed && decide (e.typ = 2) && decide (e.target ≤ wt s)

def execLineTrigFire (entry : Nat) (s : State) : Res :=
  .next (if isReady s && trigDue s (ent s entry) then fireTrig s entry else s)

def trigEntries (s : State) : List Nat := (s.sht.filter (fun e => e.2.armed && decide (e.2.typ = 2))).map (·.1)
def trigMask (s : State) : Nat := (trigEntries s).foldl (fun m k => m ||| (ent s k).len % 256) 0

/-- The line without the ports' segments; none where no segment is left. -/
def withoutPorts (ps : List Nat) (l : Line) : Option Line :=
  let segs := l.segs.filter (fun e => !ps.contains e.1)
  if segs.isEmpty then none else some { l with segs := segs }

/-- The generator of the ports starts anew: rows and groups count from its first line (R88). -/
def startGen (s : State) (ports start period : Nat) : State :=
  let ps := bitList ports 8
  let gen := ps.foldl (fun t p => tset (0, 0) t p (start, period)) s.fe.gen
  setFe s { s.fe with
    gen := gen
    row := ps.foldl (fun t p => tset 0 t p 0) s.fe.row
    lines := s.fe.lines.filterMap (withoutPorts ps)
    acc := s.fe.acc.filter (fun a => gen.any (fun e => decide (e.2 = a.gen) && !ps.contains e.1)) }

def trigArm (s : State) (f : Flight) (start period ports : Nat) : State :=
  if trigMask s &&& ports ≠ 0 then complete s f stInUse 0 0
  else
    match freeEntry s with
    | none => complete s f stNoResource 0 0
    | some k => complete (armHw (startGen s ports start period) k .ports false 2 0 0 ports period start) f stOk 0 k

def execTrigArm (c : Cmd) (start period ports : Nat) (s : State) : Res :=
  .next (accept s c 0x40 [(decide (start < 2 ^ 64), 0x10), (decide (1 ≤ period ∧ period < 2 ^ 32), 0x18), (decide (1 ≤ ports ∧ ports < 256), 0x1C)]
    (fun s f => trigArm s f start period ports))

/-- Ports leave the masks; an entry with an empty mask is freed (R286). -/
def stopPorts (ports : Nat) (s : State) (k : Nat) : State :=
  let e := ent s k
  let m := (bitList e.len 8).foldl (fun m p => if ports.testBit p then m else m + 2 ^ p) 0
  if m = 0 then setEnt s k {}
  else setEnt s k { e with len := m, w2 := word2 true false 2 0 0 m }

def execTrigStop (c : Cmd) (ports : Nat) (s : State) : Res :=
  .next (accept s c 0x41 [(decide (1 ≤ ports ∧ ports < 256), 0x10)] (fun s f =>
    if lanesOnPorts s ports then complete s f stBadState 0 0
    else complete ((trigEntries s).foldl (stopPorts ports) s) f stOk 0 0))

def captureLines (n : Nat) : Bool := [64, 128, 256, 512, 1024].contains n

def execFeRefCapture (c : Cmd) (lines ports kind : Nat) (s : State) : Res :=
  .next (accept s c 0x42 [(captureLines lines, 0x10), (decide (1 ≤ ports ∧ ports < 256), 0x12), (decide (kind < 2), 0x13)] (fun s f =>
    let id := s.fe.nextId
    let x : Capture := { id := id, white := decide (kind = 1), lines := lines, ports := ports }
    defer (setFe s { s.fe with nextId := id + 1, caps := s.fe.caps ++ [x] }) f (.feCapture id) []))

def execFeRefApply (c : Cmd) (ports : Nat) (s : State) : Res :=
  .next (accept s c 0x43 [(decide (1 ≤ ports ∧ ports < 256), 0x10)] (fun s f =>
    if lanesOnPorts s ports then complete s f stBadState 0 0
    else
      let id := s.fe.nextId
      let s := defer (setFe s { s.fe with nextId := id + 1, applies := s.fe.applies ++ [(id, ports)] }) f (.feApply id) []
      (bitList ports 8).foldl (fun s p => if inLine s p then s else lineBoundary s p) s))

/-! ### Raster rows (R88 to R90, R313) -/

def feCfg (s : State) : Nat := rg s 0xC0000
def ax (s : State) : Nat := 2 ^ bits (feCfg s) 4 3
def ay (s : State) : Nat := 2 ^ bits (feCfg s) 6 5
def stripeDiv (s : State) : Nat := 2 ^ bits (feCfg s) 9 8

def groupsOf {α : Type} (k : Nat) : Nat → List α → List (List α)
  | 0, _ => []
  | n + 1, l => if l.isEmpty then [] else l.take k :: groupsOf k n (l.drop k)

/-- Band by band, rhe(sum / n) of n pixels. -/
def avgPx (l : List (List Nat)) : List Nat :=
  (List.range (l.headD []).length).map (fun b => (rhe ((l.map (fun x => x.getD b 0)).foldl (· + ·) 0 : Nat) l.length).toNat)

def acrossPx (s : State) (px : List (List Nat)) : List (List Nat) := (groupsOf (ax s) px.length px).map avgPx

/-- Along the web: the average, or the group's first line. -/
def alongPx (s : State) (rows : List (List (List Nat))) : List (List Nat) :=
  if bit (feCfg s) 7 then rows.headD []
  else (List.range (rows.headD []).length).map (fun j => avgPx (rows.map (fun r => r.getD j [])))

def cieBand (s : State) (i : Nat) : Nat := bits (rg s 0xC0018) (3 * i + 2) (3 * i)
def matOf (s : State) : List Int := (List.range 12).map (fun k => ofTwos 16 (rf s (0xC0020 + 4 * k) 15 0))
def lutWord (s : State) (i w : Nat) : Nat := rg s (0x500000 + i * 0x2004 + 4 * w)

/-- Linearised selected bands of a pixel. -/
def linPx (s : State) (ys : List Nat) : List Nat :=
  (List.range 4).map (fun i => linearise (lutWord s i) (ys.getD (cieBand s i) 0))

/-- The 8.8 codes of a pixel; with CIE_EN clear the spec states none. -/
def labPx (s : State) (ys : List Nat) (seed : Nat) : Int × Int × Int :=
  if bit (feCfg s) 2 then labOf (matOf s) (linPx s ys)
  else (Config.freeVal seed % 25601, ofTwos 16 (Config.freeVal (seed + 1)), ofTwos 16 (Config.freeVal (seed + 2)))

def sat8 (x : Int) : Nat := (max 0 (min 255 x)).toNat
def band8 (y : Nat) : Nat := sat8 (rhe y 256)
def lum8 (l : Int) : Nat := sat8 (rhe (l * 255) 25600)

def rasterByte (s : State) (ys : List Nat) (lab : Int × Int × Int) : Nat :=
  if bit (feCfg s) 11 then band8 (ys.getD (bits (feCfg s) 15 12) 0) else lum8 lab.1

def channels (s : State) (ys : List Nat) (lab : Int × Int × Int) : List Nat :=
  if bit (feCfg s) 10 then (List.range 4).map (fun b => band8 (ys.getD b 0))
  else [lum8 lab.1, sat8 (rhe lab.2.1 256 + 128), sat8 (rhe lab.2.2 256 + 128), band8 (ys.getD (cieBand s 3) 0)]

/-- A raster pixel: corrected bands, colour codes, raster byte, stripe channels. -/
structure RPx where
  ys : List Nat
  lab : Int × Int × Int
  byte : Nat
  ch : List Nat
  deriving DecidableEq, Repr, Inhabited

def rpx (s : State) (seed : Nat) (ys : List Nat) : RPx :=
  let lab := labPx s ys seed
  { ys := ys, lab := lab, byte := rasterByte s ys lab, ch := channels s ys lab }

/-- A pixel of an invalid segment: the spec states no content. -/
def freePx (seed : Nat) : RPx :=
  let f (k : Nat) : Nat := Config.freeVal (seed + k) % 256
  { ys := [], lab := (0, 0, 0), byte := f 0, ch := [f 1, f 2, f 3, f 4] }

/-- A port's part of a raster row: port, first raster pixel, valid, written at all, its pixels. -/
structure RowSeg where
  port : Nat
  j0 : Nat
  valid : Bool
  write : Bool
  px : List RPx
  deriving DecidableEq, Repr, Inhabited

/-- The segment of port p from the lines of a group; `seed` numbers its free values. -/
def rowSeg (s : State) (g : List Line) (ovf : Option Nat) (seed : Nat) (p : Nat) : RowSeg :=
  let segs := g.map (fun l => (segOf l p).getD { st := .skipped })
  let n := mapped s p / ax s
  let j0 := pixBase s p / ax s
  if segs.all (fun x => decide (x.st = .ok)) && decide (ovf ≠ some p) then
    { port := p, j0 := j0, valid := true, write := true,
      px := (alongPx s (segs.map (fun x => acrossPx s x.px))).mapIdx (fun j ys => rpx s (seed + 5 * j) ys) }
  else
    { port := p, j0 := j0, valid := false, write := decide (ay s ≠ 1) || !segs.any (fun x => decide (x.st = .skipped)),
      px := (List.range n).map (fun j => freePx (seed + 5 * j)) }

def rasterWidth (s : State) : Nat :=
  (List.range 8).foldl (fun w p => match portRange s p with | some r => max w (r.2 / ax s) | none => w) 0
def rasterPitch (s : State) : Nat := ceilDiv (rasterWidth s) 256 * 256
def rasterBase (s : State) : Nat := rg s 0xC0050 + rg s 0xC0054 * 2 ^ 32
def rasterLines (s : State) : Nat := rf s 0xC0058 23 0

def noStamp : Nat := 0xFFFFFFFFFFFFFFFF

/-- Write a segment into the raster ring with its stamps. -/
def putSeg (l : Line) (s : State) (g : RowSeg) : State :=
  let r := tget 0 s.fe.row g.port
  let s := setFe s { s.fe with row := tset 0 s.fe.row g.port (r + 1) }
  if !g.write || decide (rasterLines s = 0) then s
  else
    let slot := r % rasterLines s
    let a := rasterBase s + slot * rasterPitch s + g.j0
    let s := storeBytes s a (g.px.map (fun x => BitVec.ofNat 8 x.byte))
    setFe s { s.fe with stamps := tset (0, 0) s.fe.stamps (slot * 8 + g.port) (if g.valid then (l.wt, l.dt) else (noStamp, noStamp)) }

/-- Rows of the row's ports are this far apart in web time. -/
def rowStep (s : State) (p : Nat) : Nat := ay s * (tget (0, 0) s.fe.gen p).2

/-! ### Patch windows (R91, R92, R227 to R229) -/

def addStats (sts : List Stat) (vs : List Int) : List Stat :=
  vs.mapIdx (fun i v => Stat.add (sts.getD i {}) v)

def winPx (w : PatchWin) (x : RPx) : PatchWin :=
  { w with lab := addStats w.lab [x.lab.1, x.lab.2.1, x.lab.2.2], bands := addStats w.bands (x.ys.map (fun (y : Nat) => (y : Int))) }

/-- A window takes the pixels of one segment of a row. -/
def winSeg (clamped : Bool) (w : PatchWin) (g : RowSeg) : PatchWin :=
  let a := max w.x0 g.j0
  let b := min w.x1 (g.j0 + g.px.length)
  if b ≤ a then w
  else if !g.valid then { w with stale := true }
  else ((g.px.drop (a - g.j0)).take (b - a)).foldl winPx { w with limit := w.limit || clamped }

/-- The segment holds pixels of the window. -/
def winMeets (w : PatchWin) (g : RowSeg) : Bool := decide (max w.x0 g.j0 < min w.x1 (g.j0 + g.px.length))

/-- A window takes a row, whose stamps it then carries (R61). -/
def winRow (l : Line) (clamped : Bool) (segs : List RowSeg) (step : Nat) (w : PatchWin) : PatchWin :=
  if !segs.any (winMeets w) then w
  else
    let w := if !w.done ∧ w.top ≤ l.wt ∧ l.wt < w.bottom then
        segs.foldl (winSeg clamped) { w with stampWt := l.wt, stampDt := l.dt, oldest := w.oldest.or (some l.wt) }
      else w
    if w.bottom ≤ l.wt + step then { w with done := true } else w

/-- What R229 makes of a window that has closed; `aged` says that a row of it is older than STALE_LINES (R42). -/
def patchOut (w : PatchWin) (t : ColourTarget) (aged : Bool) : FieldOut :=
  let st (i : Nat) : Stat := w.lab.getD i {}
  let x : FieldOut := { stampWt := w.stampWt, stampDt := w.stampDt }
  if w.limit then { x with out := .stale, reason := 12 }
  else if w.stale ∨ (st 0).n = 0 then { x with out := .stale, reason := 13 }
  else if aged then { x with out := .stale, reason := 14 }
  else
    let m : Lab := ⟨fxOver256 (st 0).mean, fxOver256 (st 1).mean, fxOver256 (st 2).mean⟩
    let ref := labCodes t.l t.a t.b
    let e := hundredths (deAb ref m)
    let e0 := hundredths (de00 ref m t.kl t.kc t.kh)
    let sd := sdOf (st 0).variance
    let ok := decide ((if t.formula = 0 then e else e0) ≤ t.limit) && (decide (t.sdMax = 0) || decide (sd * 100 ≤ t.sdMax * fx1))
    let code (i : Nat) : Int := (toInt (-32768) 65535 (st i).mean).1
    { x with
      out := if ok then .pass else .deviate, a := min 65535 e, b := min 65535 e0, c := min 65535 (hundredths sd),
      d := twos 16 (code 0), e := twos 16 (code 1), text := leBytes 2 (twos 16 (code 2)) }

/-- A lane's window that has closed gives its field's outcome. -/
def closeWin (s : State) (w : PatchWin) : State :=
  match w.lane with
  | none => s
  | some n =>
    match (lane s n).objs.find? (fun o => decide (o.key = w.key)) with
    | none => s
    | some o =>
      let i := o.img
      let aged := match w.oldest with | some t => decide (i.staleLines * 65536 < wt s - t) | none => false
      match i.fields[w.field]? with
      | none => s
      | some d =>
        match i.colours[d.index]? with
        | none => s
        | some t => giveField s n w.key w.field (patchOut w t aged)

def closeWins (s : State) : State :=
  let done := s.fe.wins.filter (fun w => w.done && w.lane.isSome)
  let s := setFe s { s.fe with wins := s.fe.wins.filter (fun w => !(w.done && w.lane.isSome)) }
  done.foldl closeWin s

/-! ### Stripe rows (R90, R160 to R164) -/

def segChannels (t : Tab Nat) (g : RowSeg) : Tab Nat :=
  (g.px.mapIdx (fun j x => (j, x))).foldl (fun t e =>
    (e.2.ch.mapIdx (fun c v => (c, v))).foldl (fun t f => t ++ [((g.j0 + e.1) * 4 + f.1, f.2)]) t) t

/-- The box average of a stripe pixel's channel. -/
def boxAvg (d : Nat) (rows : List (Tab Nat)) (x c : Nat) : Nat :=
  (rhe (((rows.map (fun t => ((List.range d).map (fun k => tget 0 t ((x * d + k) * 4 + c))).foldl (· + ·) 0)).foldl (· + ·) 0 : Nat)) (d * d)).toNat

def stripeOf (d : Nat) (acc : List AccRow) : StripeRow :=
  let rows := acc.map (·.px)
  let xs := (((rows.headD []).map (fun e => e.1 / 4 / d)).eraseDups)
  let ok := acc.all (·.valid)
  let h := acc.headD ⟨0, 0, false, []⟩
  { stamp := if ok then h.wt else noStamp, wt := h.wt, dt := if ok then h.dt else noStamp, valid := ok,
    px := (xs.map (fun x => (List.range 4).map (fun c => (x * 4 + c, boxAvg d rows x c)))).flatten }

/-- The stripe row holds pixels of buffer b. -/
def rowMeets (s : State) (b : Nat) (r : StripeRow) : Bool :=
  r.px.any (fun e => decide (rf s (0xD100C + b * 0x40) 15 0 ≤ e.1 / 4) && decide (e.1 / 4 ≤ rf s (0xD100C + b * 0x40) 31 16))

/-- A raster row joins the stripe row that its line generator builds; a full one goes to every enabled buffer whose pixels it
holds. -/
def stripeAcc (s : State) (l : Line) (segs : List RowSeg) : State :=
  let old := ((s.fe.acc.find? (fun a => decide (a.gen = l.gen))).map (·.rows)).getD []
  let rest := s.fe.acc.filter (fun a => decide (a.gen ≠ l.gen))
  let acc := old ++ [⟨l.wt, l.dt, segs.all (·.valid), segs.foldl segChannels []⟩]
  if acc.length < stripeDiv s then setFe s { s.fe with acc := rest ++ [⟨l.gen, acc⟩] }
  else
    let r := stripeOf (stripeDiv s) acc
    setFe s { s.fe with acc := rest,
                        sbs := s.fe.sbs.map (fun e => (e.1, e.2.map (fun b => if rowMeets s e.1 r then { b with queue := b.queue ++ [r] } else b))) }

/-! ### A row (R88, R90) -/

def complete1 (l : Line) : Bool := l.segs.all (fun e => !segWaits l e.1)
def portsOf (l : Line) : List Nat := l.segs.map (·.1)

/-- The lines of h's group: consecutive lines of one generator (R88). -/
def groupAt (s : State) (h : Line) : List Line :=
  s.fe.lines.filter (fun l => decide (l.gen = h.gen) && decide (l.idx / ay s = h.idx / ay s))

/-- The ports that have a segment in every line of the group: a port that left its generator within the group gets no row. -/
def groupPorts (g : List Line) : List Nat := (portsOf (g.headD { wt := 0, dt := 0 })).filter (fun p => g.all (fun l => (segOf l p).isSome))

/-- The oldest group of lines that is complete. -/
def readyGroup (s : State) : Option (List Line) :=
  s.fe.lines.findSome? (fun h =>
    let g := groupAt s h
    if decide (g.length = ay s) && g.all complete1 then some g else none)

/-- R313: the port's row is dropped and counted on the channel. -/
def overflow (s : State) (o : Nat × Nat) : State :=
  bump (flag s (0x180004 + o.2 * 0x10000) 6) (0x180048 + o.2 * 0x10000) 1

def rowOverflow (o : Option (Nat × Nat)) (ps : List Nat) : Option (Nat × Nat) :=
  match o with
  | some x => if ps.contains x.1 && decide (x.2 < 6) then some x else none
  | none => none

def rasterRow (s : State) (g : List Line) (ovf : Option (Nat × Nat)) : State :=
  match g with
  | [] => s
  | l :: _ =>
    let ps := groupPorts g
    let o := rowOverflow ovf ps
    let s := match o with | some x => overflow s x | none => s
    let seed := s.free
    let segs := ps.mapIdx (fun k p => rowSeg s g (o.map (·.1)) (seed + k * 65536 * 5) p)
    let s := { s with free := seed + 8 * 65536 * 5 }
    let s := setFe s { s.fe with lines := s.fe.lines.filter (fun x => !g.contains x) }
    let s := segs.foldl (putSeg l) s
    let step := ps.foldl (fun m p => max m (rowStep s p)) 0
    let s := setFe s { s.fe with wins := s.fe.wins.map (winRow l (g.any (·.clamped)) segs step) }
    stripeAcc (closeWins s) l segs

/-! ### Stripe buffers (R160 to R164) -/

def sbOff (b : Nat) : Nat := 0xD1000 + b * 0x40
def sb (s : State) (b : Nat) : Option StripeBuf := tget none s.fe.sbs b
def setSb (s : State) (b : Nat) (x : Option StripeBuf) : State := setFe s { s.fe with sbs := tset none s.fe.sbs b x }
def sbSh (s : State) (b : Nat) : Nat := rf s (sbOff b) 7 0 + 1
def sbHa (s : State) (b : Nat) : Nat := rf s (sbOff b) 15 8
def sbHb (s : State) (b : Nat) : Nat := rf s (sbOff b) 23 16
def sbNc (s : State) (b : Nat) : Nat := rf s (sbOff b) 26 24 + 1
def sbSlots (s : State) (b : Nat) : Nat := rf s (sbOff b + 8) 31 16
def sbPitch (s : State) (b : Nat) : Nat := rf s (sbOff b + 8) 9 0 * 64
def sbBase (s : State) (b : Nat) : Nat := rf s (sbOff b + 4) 25 0
def sbX0 (s : State) (b : Nat) : Nat := rf s (sbOff b + 12) 15 0
def sbX1 (s : State) (b : Nat) : Nat := rf s (sbOff b + 12) 31 16
def sbRdy (s : State) (b : Nat) : Nat := rf s (sbOff b + 16) 15 0
def sbRel (s : State) (b : Nat) : Nat := rf s (sbOff b + 16) 31 16

/-- Stripes whose input range holds row r: first and one past the last. -/
def stripesAt (s : State) (b r : Nat) : Nat × Nat := ((r - sbHb s b) / sbSh s b, (r + sbHa s b) / sbSh s b + 1)

def rowInStripe (s : State) (b k r : Nat) : Bool :=
  decide (k * sbSh s b ≤ r + sbHa s b) && decide (r ≤ k * sbSh s b + sbSh s b - 1 + sbHb s b)

/-- Stripes of one rotation position complete in order (R162). -/
def stripeReleased (s : State) (b : Nat) (x : StripeBuf) (k : Nat) : Bool := decide (k / sbNc s b < tget 0 x.rel (k % sbNc s b))

/-- The row that lies in a slot. -/
def resident (slots head slot : Nat) : Option Nat :=
  if slot < head then some (slot + (head - 1 - slot) / slots * slots) else none

def decSlot (s : State) (b k : Nat) (x : StripeBuf) (slot : Nat) : StripeBuf :=
  match resident (sbSlots s b) x.head slot with
  | some r => if rowInStripe s b k r then { x with counts := tmod 0 x.counts slot (· - 1) } else x
  | none => x

/-- One release of rotation position `pos` is applied. -/
def release1 (s : State) (b pos : Nat) (x : StripeBuf) : State :=
  let k := tget 0 x.rel pos * sbNc s b + pos
  let x := (x.counts.map (·.1)).foldl (decSlot s b k) x
  setSb s b (some { x with rel := tmod 0 x.rel pos (· + 1) })

def releaseDue (s : State) (b pos : Nat) (x : StripeBuf) : Bool :=
  decide (pos < sbNc s b) && decide (tget 0 x.rel pos < mark s (sbRel s b + pos) - tget 0 x.base pos)

def execStripeRelease (buf pos : Nat) (s : State) : Res :=
  .next (match sb s buf with
    | some x => if isReady s && releaseDue s buf pos x then release1 s buf pos x else s
    | none => s)

def releaseUpTo (b pos : Nat) : Nat → State → State
  | 0, s => s
  | n + 1, s =>
    match sb s b with
    | some x => if releaseDue s b pos x then releaseUpTo b pos n (release1 s b pos x) else s
    | none => s

/-- Releases that have arrived are applied before a write (R164). -/
def releaseAll (s : State) (b : Nat) : State :=
  (List.range (sbNc s b)).foldl (fun s pos => releaseUpTo b pos (mark s (sbRel s b + pos)) s) s

/-- A stripe becomes stale: flags, count, report (R163). -/
def makeStale (b : Nat) (s : State) (k : Nat) : State :=
  match sb s b with
  | none => s
  | some x =>
    let at' (r : Nat) : Nat := (tget (0, 0, 0) x.stamps (r % sbSlots s b)).2.1
    let f := at' (k * sbSh s b)
    let l := at' (k * sbSh s b + sbSh s b - 1)
    let s := setSb s b (some { x with stale := x.stale ++ [(k, f, l)] })
    report (bump (flagsOne s (sbOff b + 0x20) [0, 1]) (sbOff b + 0x28) 1) 0x0403 none b 0 (leBytes 8 f ++ leBytes 8 l ++ leBytes 4 k)

/-- Rows overwritten before their release (R163). -/
def overwriteRow (s : State) (b r : Nat) (x : StripeBuf) : State :=
  if sbSlots s b ≤ r ∧ 0 < tget 0 x.counts (r % sbSlots s b) then
    let old := r - sbSlots s b
    let (k0, k1) := stripesAt s b old
    ((List.range (k1 - k0)).map (· + k0)).foldl (fun s k =>
      if stripeReleased s b x k ∨ (x.stale.map (·.1)).contains k then s else makeStale b s k) s
  else s

def stripeBytes (s : State) (b : Nat) (r : StripeRow) : List Byte :=
  ((List.range (sbX1 s b - sbX0 s b + 1)).map (fun x =>
    (List.range 4).map (fun c => BitVec.ofNat 8 (tget 0 r.px ((sbX0 s b + x) * 4 + c))))).flatten

def writeStripe (s : State) (b : Nat) (row : StripeRow) : State :=
  match sb s b with
  | none => s
  | some x =>
    let r := x.head
    let s := overwriteRow s b r x
    let x := (sb s b).getD x
    let slot := r % sbSlots s b
    let a := drkBase + sbBase s b + slot * sbPitch s b
    let bs := stripeBytes s b row
    let s := storeBytes s a bs
    let (k0, k1) := stripesAt s b r
    let s := setSb s b (some { x with head := r + 1, queue := x.queue.drop 1, counts := tset 0 x.counts slot (k1 - k0),
                                      stamps := tset (0, 0, 0) x.stamps slot (row.stamp, row.wt, row.dt) })
    let s := if row.valid then s else flag s (sbOff b + 0x20) 2
    signalExt s (sbRdy s b) 1

def execStripeRowWrite (buf : Nat) (s : State) : Res :=
  .next (match sb s buf with
    | some x =>
      (match x.queue with
       | row :: _ => if isReady s then writeStripe (releaseAll s buf) buf row else s
       | [] => s)
    | none => s)

/-- Another enabled buffer's ring or pixel range meets this one's. -/
def sbClash (s : State) (b c : Nat) : Bool :=
  decide (b ≠ c) && (sb s c).isSome &&
  (meets (sbBase s b) (sbBase s b + sbSlots s b * sbPitch s b) (sbBase s c) (sbBase s c + sbSlots s c * sbPitch s c) ||
   meets (sbX0 s b) (sbX1 s b + 1) (sbX0 s c) (sbX1 s c + 1))

/-- The checks of R160 at EN = 1. -/
def sbOk (s : State) (b : Nat) : Bool :=
  decide (sbSh s b + sbHa s b + sbHb s b ≤ sbSlots s b) && decide ((sbX1 s b + 1 - sbX0 s b) * 4 ≤ sbPitch s b) &&
  decide (sbX0 s b ≤ sbX1 s b) && decide (sbBase s b % 64 = 0) && decide (64 ≤ sbSlots s b) && decide (sbSlots s b ≤ 16384) &&
  decide (sbBase s b + sbSlots s b * sbPitch s b ≤ drkSize) && !(List.range 4).any (sbClash s b)

/-- Device pixels of a stripe pixel range. -/
def sbDevPx (s : State) (b : Nat) : Nat × Nat := (sbX0 s b * stripeDiv s * ax s, (sbX1 s b + 1) * stripeDiv s * ax s)

/-- A write of DRK_SBn_CTRL (R160): while EN = 0 it configures and may enable; while EN = 1 it may only clear EN. -/
def sbWrite (s : State) (b : Nat) (v : Word) : State :=
  let off := sbOff b
  if bit (rg s off) 31 then
    if bit v.toNat 31 then logUnsup s 0 off true
    else if lanesMeet s (sbDevPx s b).1 (sbDevPx s b).2 then logUnsup s 0 off true
    else setSb (rsetN s off (putBit (rg s off) 31 false)) b none
  else
    let s := rset s off (v &&& 0x07FFFFFF)
    if !bit v.toNat 31 then s
    else if sbOk s b then
      setSb (rsetN (rsetN s off (putBit (rg s off) 31 true)) (off + 0x28) 0) b
        (some { v0 := mark s (sbRdy s b), base := (List.range (sbNc s b)).foldl (fun t p => tset 0 t p (mark s (sbRel s b + p))) [] })
    else flag s (off + 0x20) 3

def execDrkSbEnable (buf : Nat) (v : Word) (s : State) : Res :=
  .next (if powered s && decide (buf < 4) then sbWrite s buf v else s)

/-! ### Staleness of crops (R42, R75, R163) -/

/-- Rectangle of a field in device pixels (half open) and web time, through the registration transform; rotation is
about the object's first corner (notes/assumptions/20.md). Angles are in 0.0001 degree. -/
structure Box where
  x0 : Int
  x1 : Int
  y0 : Int
  y1 : Int
  deriving DecidableEq, Repr, Inhabited

/-- A point of the artwork in 1/65,536 device pixel from the lane's first pixel, and in 1/65,536 line from the origin: its
coordinates are divided by P_X and P_L, then rotated, scaled along the web and moved across it (R29). -/
def mapPoint (d : Design) (t : Transform) (u v : Nat) : Int × Int :=
  let th := fxOf t.rot 10000
  let c := fxCosDeg th
  let sn := fxSinDeg th
  let px (k : Int) : Int := u * k * 4294967296 / d.pX / fx1
  let ln (k : Int) : Int := v * k * 4294967296 / d.pL / fx1
  (px c - ln sn + t.xofs * 65536, (px sn + ln c) * (1000000 + t.scale) / 1000000)

/-- A rectangle on the web, widened outward to whole pixels and, from the origin, to whole lines (R29; DEDUCED,
notes/assumptions/20.md). -/
def boxOf (d : Design) (t : Transform) (origin pix0 : Nat) (r : Rect) : Box :=
  let ps := [mapPoint d t r.x0 r.y0, mapPoint d t r.x1 r.y0, mapPoint d t r.x0 r.y1, mapPoint d t r.x1 r.y1]
  let xs := ps.map (·.1)
  let ys := ps.map (·.2)
  let mn (l : List Int) : Int := l.foldl min (l.headD 0)
  let mx (l : List Int) : Int := l.foldl max (l.headD 0)
  { x0 := (pix0 : Int) + mn xs / 65536, x1 := (pix0 : Int) + (mx xs + 65535) / 65536,
    y0 := origin + mn ys / 65536 * 65536, y1 := origin + (mx ys + 65535) / 65536 * 65536 }

/-- The stamps of rows of `k` lines that a web-time range asks for on a port: the triggers at or before it, first of their
groups (R75). -/
def askedRows (s : State) (p k : Nat) (y0 y1 : Int) : Option (List Nat) :=
  let (st, per) := tget (0, 0) s.fe.gen p
  let step := k * per
  if per = 0 ∨ y0 < st then none
  else
    let a := (y0.toNat - st) / step
    let b := ((y1 - 1).toNat - st) / step
    some ((List.range (b + 1 - a)).map (fun k => st + (a + k) * step))

/-- Raster rows. -/
def askedStamps (s : State) (p : Nat) (y0 y1 : Int) : Option (List Nat) := askedRows s p (ay s) y0 y1

def portsMeeting (s : State) (x0 x1 : Int) : List Nat :=
  (List.range 8).filter (fun p => match portRange s p with
    | some r => decide ((r.1 : Int) < x1) && decide (x0 < (r.2 : Int))
    | none => false)

/-- The along-web distance between raster rows over a pixel range. -/
def stepAt (s : State) (x0 x1 : Int) : Nat := (portsMeeting s x0 x1).foldl (fun m p => max m (rowStep s p)) 1

/-- Place a window over a rectangle, less `excl` artwork units on each side: raster pixels and web time (04 Patch accumulators). What
does not fit R91's 8,192 pixels and rows is cut off (DESIGN CHOICE, notes/assumptions/28.md). -/
def placeWin (s : State) (d : Design) (t : Transform) (origin pix0 excl : Nat) (r : Rect) (win : PatchWin) : PatchWin :=
  let b := boxOf d t origin pix0 r
  let step := stepAt s b.x0 b.x1
  let w := ceilDiv ((r.x1 - r.x0) * 65536) d.pX / ax s
  let h := ceilDiv (((r.y1 - r.y0) * (1000000 + t.scale).toNat) * 65536 / 1000000) d.pL / ay s
  let sn := (fxSinDeg (fxOf t.rot 10000)).natAbs
  let cut (v : Nat) : Nat := ceilDiv (v * sn) fx1.toNat
  let ex := ceilDiv (excl * 65536) (d.pX * ax s)
  let ey := ceilDiv (excl * 65536) (d.pL * ay s)
  let w' := min 8192 (w - cut h - 2 * ex)
  let h' := min 8192 (h - cut w - 2 * ey)
  let x := ((b.x0 + b.x1) / (2 * ax s : Nat) - (w' : Int) / 2).toNat
  let y := ((b.y0 + b.y1) / 2 - (h' * step : Nat) / 2 : Int).toNat
  { win with x0 := x, x1 := x + w', top := y, bottom := y + h' * step }

/-- Why rows are STALE: OVERWRITTEN (13) where a stamp asked for is not found, before AGE (14) (R75, R399). -/
def rowsStale (s : State) (staleLines : Nat) (held : Nat → Bool) : Option (List Nat) → List Nat
  | none => [13]
  | some ts => (ts.map (fun t => if held t then (if staleLines * 65536 < wt s - t then [14] else []) else [13])).flatten

def firstReason (rs : List Nat) : Option Nat := if rs.contains 13 then some 13 else if rs.contains 14 then some 14 else none

/-- Why a crop of the raster ring is STALE. A crop that no enabled port delivers is OVERWRITTEN. -/
def boxStale (s : State) (staleLines : Nat) (b : Box) : Option Nat :=
  let ps := portsMeeting s b.x0 b.x1
  if ps.isEmpty then some 13
  else firstReason ((ps.map (fun p =>
    rowsStale s staleLines (fun t => s.fe.stamps.any (fun e => decide (e.1 % 8 = p) && decide (e.2.1 = t))) (askedStamps s p b.y0 b.y1))).flatten)

def objOf (s : State) (n key : Nat) : Option Obj := (lane s n).objs.find? (fun o => decide (o.key = key))

/-- The crop of a field of an object. -/
def fieldBox (o : Obj) (i : Nat) : Option Box :=
  let img := o.img
  (img.fields[i]?).map (fun f => boxOf img.design o.tf o.origin o.cfg.pixStart f.rect)

/-- The whole object on the web. -/
def objBox (o : Obj) : Box := boxOf o.img.design o.tf o.origin o.cfg.pixStart ⟨0, 0, o.img.design.w, o.img.design.h⟩

/-- The stripe buffers whose device pixels meet a pixel range. -/
def bufsMeeting (s : State) (x0 x1 : Int) : List (Nat × StripeBuf) :=
  s.fe.sbs.filterMap (fun e => match e.2 with
    | some x => if decide (((sbDevPx s e.1).1 : Int) < x1) && decide (x0 < ((sbDevPx s e.1).2 : Int)) then some (e.1, x) else none
    | none => none)

/-- The stripe rows of a pixel and web-time range lie among the owned rows of a stale stripe (R163). -/
def staleRows (s : State) (b : Box) : Bool :=
  (bufsMeeting s b.x0 b.x1).any (fun e =>
    (portsMeeting s (max b.x0 (sbDevPx s e.1).1) (min b.x1 (sbDevPx s e.1).2)).any (fun p =>
      match askedRows s p (ay s * stripeDiv s) b.y0 b.y1 with
      | some ts => ts.any (fun t => e.2.stale.any (fun k => decide (k.2.1 ≤ t) && decide (t ≤ k.2.2)))
      | none => false))

/-- Why the stripe crop of an object is STALE: row by row, by the stamp asked for and by age, and by stale stripes (R75, R161,
R163). -/
def stripeStale (s : State) (staleLines : Nat) (b : Box) : Option Nat :=
  let bs := bufsMeeting s b.x0 b.x1
  if bs.isEmpty ∨ staleRows s b then some 13
  else firstReason ((bs.map (fun e =>
    ((portsMeeting s (max b.x0 (sbDevPx s e.1).1) (min b.x1 (sbDevPx s e.1).2)).map (fun p =>
      rowsStale s staleLines (fun t => e.2.stamps.any (fun x => decide (x.2.1 = t))) (askedRows s p (ay s * stripeDiv s) b.y0 b.y1))).flatten)).flatten)

/-- The reason for STALE of a field's crop, or of the stripe crop that the comparison reads. -/
def cropStale (s : State) (n key : Nat) (field : Option Nat) : Option Nat :=
  match objOf s n key with
  | none => some 13
  | some o =>
    match field with
    | some i => (fieldBox o i).bind (boxStale s o.img.staleLines)
    | none => stripeStale s o.img.staleLines (objBox o)

end Sys2Proof.Machine
end

