-- ==== Sys2Proof/Machine/Match.lean ====
section
/-! DEFINITION. The match rules (R45, R400, R214, R215). -/

namespace Sys2Proof.Machine

def isAsciiDigit (b : Byte) : Bool := decide (0x30 ≤ b.toNat) && decide (b.toNat ≤ 0x39)
def digitsVal (bs : List Byte) : Nat := bs.foldl (fun a b => a * 10 + (b.toNat - 0x30)) 0

/-! ### NORM (R214) -/

def foldCaseText (cs : List Nat) : List Nat := (cs.map foldChar).flatten

/-- Runs of White_Space become one U+0020; none at the start. -/
def collapseWs : Bool → List Nat → List Nat
  | _, [] => []
  | prev, c :: t => if isSpace c then (if prev then collapseWs true t else 0x20 :: collapseWs true t) else c :: collapseWs false t

def trimEnd (cs : List Nat) : List Nat := (cs.reverse.dropWhile (· = 0x20)).reverse
def foldWsText (cs : List Nat) : List Nat := trimEnd (collapseWs true cs)

def normText (cse ws : Bool) (bs : List Byte) : List Byte :=
  if !cse && !ws then bs
  else
    let c := scalars bs
    let c := if cse then foldCaseText c else c
    let c := if ws then foldWsText c else c
    (c.map utf8).flatten

/-! ### DATE (R215, R400) -/

inductive DTok where
  | dd | mm | mmm | yy | yyyy
  | lit (b : Byte)
  deriving DecidableEq, Repr

def D8 : Byte := 0x44
def M8 : Byte := 0x4D
def Y8 : Byte := 0x59

/-- The tokens of a format; none where a D, M or Y belongs to no token (R400). -/
def dateTokens : Nat → List Byte → Option (List DTok)
  | 0, _ => none
  | _, [] => some []
  | n + 1, b :: t =>
    let go (x : DTok) (r : List Byte) : Option (List DTok) := (dateTokens n r).map (x :: ·)
    if (b :: t).take 2 = [D8, D8] then go .dd (t.drop 1)
    else if (b :: t).take 3 = [M8, M8, M8] then go .mmm (t.drop 2)
    else if (b :: t).take 2 = [M8, M8] then go .mm (t.drop 1)
    else if (b :: t).take 4 = [Y8, Y8, Y8, Y8] then go .yyyy (t.drop 3)
    else if (b :: t).take 2 = [Y8, Y8] then go .yy (t.drop 1)
    else if b = D8 ∨ b = M8 ∨ b = Y8 then none
    else go (.lit b) t

def countTok (p : DTok → Bool) (l : List DTok) : Nat := (l.filter p).length

/-- A format with exactly one day, one month and one year token (R400). -/
def dateFormat (f : List Byte) : Option (List DTok) :=
  match dateTokens (f.length + 1) f with
  | none => none
  | some l =>
    if countTok (· = .dd) l = 1 ∧ countTok (fun x => decide (x = .mm) || decide (x = .mmm)) l = 1 ∧
       countTok (fun x => decide (x = .yy) || decide (x = .yyyy)) l = 1 then some l else none

def upper8 (b : Byte) : Nat := if 0x61 ≤ b.toNat ∧ b.toNat ≤ 0x7A then b.toNat - 0x20 else b.toNat

/-- JAN to DEC in ASCII. -/
def monthNames : List (List Nat) :=
  [[74, 65, 78], [70, 69, 66], [77, 65, 82], [65, 80, 82], [77, 65, 89], [74, 85, 78],
   [74, 85, 76], [65, 85, 71], [83, 69, 80], [79, 67, 84], [78, 79, 86], [68, 69, 67]]

structure Ymd where
  y : Nat := 0
  m : Nat := 0
  d : Nat := 0
  deriving DecidableEq, Repr

def takeDigits (n : Nat) (bs : List Byte) : Option Nat :=
  if (bs.take n).length = n ∧ (bs.take n).all isAsciiDigit then some (digitsVal (bs.take n)) else none

/-- Parse a text under a format, completely. -/
def dateParse : List DTok → List Byte → Ymd → Option Ymd
  | [], [], x => some x
  | [], _ :: _, _ => none
  | .lit b :: t, bs, x => if bs.head? = some b then dateParse t (bs.drop 1) x else none
  | .dd :: t, bs, x =>
    (match takeDigits 2 bs with
     | some v => if 1 ≤ v ∧ v ≤ 31 then dateParse t (bs.drop 2) { x with d := v } else none
     | none => none)
  | .mm :: t, bs, x =>
    (match takeDigits 2 bs with
     | some v => if 1 ≤ v ∧ v ≤ 12 then dateParse t (bs.drop 2) { x with m := v } else none
     | none => none)
  | .mmm :: t, bs, x =>
    (match monthNames.findIdx? (fun n => decide ((bs.take 3).map upper8 = n)) with
     | some i => dateParse t (bs.drop 3) { x with m := i + 1 }
     | none => none)
  | .yy :: t, bs, x =>
    (match takeDigits 2 bs with
     | some v => dateParse t (bs.drop 2) { x with y := 2000 + v }
     | none => none)
  | .yyyy :: t, bs, x =>
    (match takeDigits 4 bs with
     | some v => if 1900 ≤ v ∧ v ≤ 2155 then dateParse t (bs.drop 4) { x with y := v } else none
     | none => none)

def isLeap (y : Nat) : Bool := decide (y % 4 = 0) && (decide (y % 100 ≠ 0) || decide (y % 400 = 0))

def monthDays (y m : Nat) : Nat :=
  if m = 2 then (if isLeap y then 29 else 28) else if m = 4 ∨ m = 6 ∨ m = 9 ∨ m = 11 then 30 else 31

/-- Days since the start of the Gregorian calendar's year 1. -/
def dayNumber (x : Ymd) : Nat :=
  let p := x.y - 1
  365 * p + p / 4 - p / 100 + p / 400 + (((List.range (x.m - 1)).map (fun i => monthDays x.y (i + 1))).foldl (· + ·) 0) + x.d

/-- The day number of a text under a format; the day must exist in its month. -/
def dateOf (f : List Byte) (bs : List Byte) : Option Nat :=
  match dateFormat f with
  | none => none
  | some l =>
    match dateParse l bs {} with
    | none => none
    | some x => if x.d ≤ monthDays x.y x.m then some (dayNumber x) else none

/-! ### NUM_RANGE -/

/-- A decimal as numerator and number of decimals. -/
def decimalOf (sep : Byte) (bs : List Byte) : Option (Int × Nat) :=
  let (neg, bs) : Bool × List Byte := match bs with
    | b :: t => if b = 0x2D then (true, t) else if b = 0x2B then (false, t) else (false, b :: t)
    | [] => (false, [])
  let a := bs.takeWhile isAsciiDigit
  let r := bs.dropWhile isAsciiDigit
  let sg (v : Nat) : Int := if neg then -(v : Int) else v
  if a.isEmpty then none
  else
    match r with
    | [] => some (sg (digitsVal a), 0)
    | b :: f => if b = sep ∧ !f.isEmpty ∧ f.all isAsciiDigit then some (sg (digitsVal (a ++ f)), f.length) else none

def decLe (x y : Int × Nat) : Bool := decide (x.1 * (10 ^ y.2 : Nat) ≤ y.1 * (10 ^ x.2 : Nat))

/-! ### GS1_CHECK, EDIT_K -/

/-- The weighted digit sum from the right, weight 3 next to the check digit. -/
def gs1Sum : Bool → List Nat → Nat
  | _, [] => 0
  | w, d :: t => d * (if w then 3 else 1) + gs1Sum (!w) t

/-- The GS1 mod-10 check digit is valid: all digits. -/
def gs1Ok (bs : List Byte) : Bool :=
  bs.all isAsciiDigit && decide (gs1Sum false ((bs.map (fun b => b.toNat - 0x30)).reverse) % 10 = 0)

/-- One row of the Levenshtein table. -/
def levRow (c : Nat) : List Nat → List Nat → Nat → List Nat
  | b :: bt, d :: e :: dt, left =>
    let v := min (min (left + 1) (e + 1)) (d + b2n (decide (b ≠ c)))
    v :: levRow c bt (e :: dt) v
  | _, _, _ => []

def levRows (b : List Nat) : List Nat → List Nat → Nat → List Nat
  | [], row, _ => row
  | c :: t, row, i => levRows b t ((i + 1) :: levRow c b row (i + 1)) (i + 1)

/-- The Levenshtein distance in scalar values. -/
def editDistance (a b : List Nat) : Nat := (levRows b a (List.range (b.length + 1)) 0).getLast?.getD 0

/-! ### The rules (R45) -/

def ruleMatch (r : Rule) (txt want : List Byte) : Bool :=
  match r with
  | .exact => decide (txt = want)
  | .norm c w => decide (normText c w txt = normText c w want)
  | .date f lo hi =>
    (match dateOf f txt, dateOf f want with
     | some d, some e => decide (e ≤ d + lo) && decide (d ≤ e + hi)
     | _, _ => false)
  | .numRange mn mx comma =>
    (match decimalOf (if comma then 0x2C else 0x2E) txt, decimalOf 0x2E mn, decimalOf 0x2E mx with
     | some v, some a, some b => decLe a v && decLe v b
     | _, _, _ => false)
  | .gs1 len eq => decide (txt.length = len) && gs1Ok txt && (!eq || decide (txt = want))
  | .editK k => decide (editDistance (scalars txt) (scalars want) ≤ k)

/-- A rule whose parameters are malformed (R400). -/
def ruleBad (r : Rule) (e : Expect) : Bool :=
  match r with
  | .date f lo hi =>
    (dateFormat f).isNone || decide (4095 < lo) || decide (4095 < hi) ||
    (match e with | .lit t => (dateOf f t).isNone | .var _ => false)
  | .numRange mn mx _ =>
    (match decimalOf 0x2E mn, decimalOf 0x2E mx with
     | some a, some b => !decLe a b
     | _, _ => true)
  | .gs1 len _ => !decide (len ∈ [8, 12, 13, 14, 18])
  | .editK k => decide (15 < k)
  | _ => false

end Sys2Proof.Machine
end

