-- ==== Sys2Proof/Machine/Codes.lean ====
section
/-! DEFINITION. The code unit: its request queue, decoding, GS1 element strings, checks and grades (R42, R216 to R226,
R399). -/

namespace Sys2Proof.Machine

/-! ### Requests (R219) -/

def setCode (s : State) (c : CodeUnit) : State := { s with code := c }

/-- Rows written reach the end of the crop on every port it meets. -/
def captured (s : State) (b : Box) : Bool :=
  (portsMeeting s b.x0 b.x1).all (fun p =>
    decide (b.y1 ≤ (((tget (0, 0) s.fe.gen p).1 + tget 0 s.fe.row p * rowStep s p : Nat) : Int)))

def fieldKind (o : Obj) (i : Nat) : Option FieldKind := (o.img.fields[i]?).map (·.kind)

/-- The request of a field stands in the queue or in the unit. -/
def requested (s : State) (n key i : Nat) : Bool :=
  (s.code.queue ++ s.code.busy.toList).any (fun q => decide (q.lane = n) && decide (q.key = key) && decide (q.field = i))

/-- The deadline target of an object (R36). -/
def deadlineOf (o : Obj) : Nat := o.endLine + o.img.deadlineOfs * 65536

/-- Queue the request of one captured CODE field; a full queue makes it CODE_BUSY (R219). -/
def queueField (n : Nat) (o : Obj) (s : State) (i : Nat) : State :=
  let due := match fieldKind o i, fieldBox o i with
    | some .code, some b => captured s b
    | _, _ => false
  if due && decide (tget none o.fields i = none) && !o.late && !o.synthetic && !requested s n o.key i then
    (if 1024 ≤ s.code.queue.length then giveField (flag s 0xA0004 2) n o.key i { out := .unreadable, reason := 4 }
     else setCode s { s.code with queue := s.code.queue ++ [{ lane := n, key := o.key, field := i, target := deadlineOf o }] })
  else s

def queueObj (n : Nat) (s : State) (o : Obj) : State := (List.range o.img.fields.length).foldl (queueField n o) s
def queueLane (s : State) (n : Nat) : State := (lane s n).objs.foldl (queueObj n) s

/-- Queue every CODE field whose last line has been captured. -/
def queueCaptured (s : State) : State := (laneIds s).foldl queueLane s

/-- The object still awaits its verdict: not gone, not resolved by its deadline. -/
def wanted (s : State) (q : CodeReq) : Bool :=
  match objOf s q.lane q.key with
  | some o => !o.late
  | none => false

/-- The earliest deadline target, ties in order of arrival. -/
def earliest : List CodeReq → Option CodeReq
  | [] => none
  | q :: t =>
    match earliest t with
    | none => some q
    | some r => if r.target < q.target then some r else some q

/-- Slot of the raster ring that holds a port's row of the stamp. -/
def slotOf (s : State) (p t : Nat) : Option Nat :=
  (s.fe.stamps.find? (fun e => decide (e.1 % 8 = p) && decide (e.2.1 = t))).map (fun e => e.1 / 8)

/-- Where a port's bytes of row `k` of a crop lie, between raster pixels a and b: address and length. -/
def rowSpan (s : State) (x : Box) (a b k p : Nat) : Option (Nat × Nat) :=
  match (askedStamps s p x.y0 x.y1).bind (fun ts => ts[k]?) with
  | none => none
  | some t =>
    match slotOf s p t, portRange s p with
    | some sl, some r =>
      let lo := max a (r.1 / ax s)
      some (rasterBase s + sl * rasterPitch s + lo, min b (r.2 / ax s) - lo)
    | _, _ => none

/-- Width and height of a crop of the web raster ring, and where its rows lie in order. -/
def cropSpans (s : State) (x : Box) : Nat × Nat × List (Nat × Nat) :=
  let ps := portsMeeting s x.x0 x.x1
  let a := x.x0.toNat / ax s
  let b := ceilDiv x.x1.toNat (ax s)
  let h := match ps with
    | [] => 0
    | p :: _ => ((askedStamps s p x.y0 x.y1).getD []).length
  (b - a, h, ((List.range h).map (fun k => ps.filterMap (rowSpan s x a b k))).flatten)

/-- Width, height and bytes of a crop. -/
def cropOf (s : State) (x : Box) : Nat × Nat × List Byte :=
  let c := cropSpans s x
  (c.1, c.2.1, (c.2.2.map (fun e => rdBytes s e.1 e.2)).flatten)

/-- Bytes that a crop's read takes (R264). -/
def cropBytes (s : State) (x : Box) : Nat := ((cropSpans s x).2.2.map (·.2)).foldl (· + ·) 0

/-- A crop's read returns poisoned data. -/
def cropPoison (s : State) (x : Box) : Bool := (cropSpans s x).2.2.any (fun e => (poisonIn s e.1 e.2).isSome)

/-- The unit drops requests of late objects and starts the next one, judging its staleness; the crop's read is charged to class 0, and
poisoned data make the input STALE (R42, R219, R264, R269, R318). -/
def codeStart (s : State) : State :=
  let live := s.code.queue.filter (wanted s)
  match earliest live with
  | none => setCode s { s.code with queue := live }
  | some q =>
    let s := setCode s { s.code with queue := live.erase q }
    match cropStale s q.lane q.key (some q.field) with
    | some r => giveField s q.lane q.key q.field { out := .stale, reason := r }
    | none =>
      match (objOf s q.lane q.key).bind (fun o => fieldBox o q.field) with
      | some b =>
        let s := chargeDram s 0 (cropBytes s b)
        if cropPoison s b then giveField s q.lane q.key q.field { out := .stale } else setCode s { s.code with busy := some q }
      | none => setCode s { s.code with busy := some q }

def execCodeRequestStart (s : State) : Res :=
  .next (if isReady s && decide (s.code.busy = none) then codeStart s else s)

/-! ### Symbols of the specified symbology (R216, R217) -/

def is2d (sym : Nat) : Bool := decide (10 ≤ sym)

/-- The crop in raster pixels and rows. -/
def cropPx (s : State) (b : Box) : Nat × Nat :=
  (ceilDiv (b.x1 - b.x0).toNat (ax s), ceilDiv (b.y1 - b.y0).toNat (stepAt s b.x0 b.x1))

/-- The symbol with half its quiet zone lies in the crop. -/
def inCrop (c : Nat × Nat) (x : Sym) : Bool :=
  x.corners.all (fun p => decide (0 ≤ p.1) && decide (p.1 ≤ 100 * c.1) && decide (0 ≤ p.2) && decide (p.2 ≤ 100 * c.2))

/-- The sizes that the code unit reads (R216) and that R217 asks for: X of 2.0 and bars of 8 raster pixels, modules of 3.0. -/
def sizeOk (c : CodeSpec) (x : Sym) : Bool :=
  if is2d c.sym then
    decide (300 ≤ x.size) && !x.append &&
    (if c.sym ≤ 11 then
       (decide (x.rows = x.cols) && decide (10 ≤ x.rows) && decide (x.rows ≤ 144)) ||
       (decide (8 ≤ x.rows) && decide (x.rows ≤ 16) && decide (18 ≤ x.cols) && decide (x.cols ≤ 48))
     else decide (x.rows = x.cols) && decide (21 ≤ x.rows) && decide (x.rows ≤ 177) && decide (x.rows % 4 = 1))
  else decide (200 ≤ x.size) && decide (800 ≤ x.barHeight)

def firstFnc1 (x : Sym) : Bool := match x.data with | .fnc1 :: _ => true | _ => false

/-- FNC1 in first position makes the GS1 form of its symbology (R216; DEDUCED of the other form, notes/assumptions/44.md). -/
def fnc1Ok (sym : Nat) (x : Sym) : Bool :=
  if sym ∈ [5, 11, 13] then firstFnc1 x else if sym ∈ [4, 10, 12] then !firstFnc1 x else true

/-! ### The data as transmitted (R216) -/

/-- Bytes under an ECI as UTF-8: 000003 (and the default) is ISO/IEC 8859-1, 000026 is UTF-8 already. -/
def eciText (eci : Nat) (l : List Byte) : List Byte := if eci = 26 then l else (l.map (fun b => utf8 b.toNat)).flatten

/-- The compared text of a matrix symbol, FNC1 as 0x1D. -/
def segText : Nat → List SymSeg → List Byte
  | _, [] => []
  | e, .chars l :: t => eciText e l ++ segText e t
  | e, .fnc1 :: t => 0x1D :: segText e t
  | e, .kanji l :: t => (l.map (fun k => utf8 (Config.jisScalar k))).flatten ++ segText e t
  | _, .eci n :: t => segText n t

/-- Data that stands under an ECI other than 000003 and 000026. -/
def eciBad (l : List SymSeg) : Bool := l.any (fun g => match g with | .eci n => decide (n ≠ 3 ∧ n ≠ 26) | _ => false)

/-- The characters of a linear symbol, FNC1 as 0x1D. -/
def linChars (l : List SymSeg) : List Byte :=
  (l.map (fun g => match g with | .chars c => c | .fnc1 => [0x1D] | _ => [])).flatten

/-- UPC-E expanded to UPC-A: number system, six digits, check digit (PRESUMED, notes/assumptions/44.md). -/
def upcExpand (l : List Byte) : List Byte :=
  match l with
  | [n, a, b, c, d, e, f, k] =>
    let z : Byte := 0x30
    (match f.toNat - 0x30 with
     | 0 => [n, a, b, f, z, z, z, z, c, d, e]
     | 1 => [n, a, b, f, z, z, z, z, c, d, e]
     | 2 => [n, a, b, f, z, z, z, z, c, d, e]
     | 3 => [n, a, b, c, z, z, z, z, z, d, e]
     | 4 => [n, a, b, c, d, z, z, z, z, z, e]
     | _ => [n, a, b, c, d, e, z, z, z, z, f]) ++ [k]
  | l => l

/-- The 43 characters of Code 39 in the order of their check values (PRESUMED). -/
def code39 : List Byte :=
  ((List.range 10).map (0x30 + ·) ++ (List.range 26).map (0x41 + ·) ++ [0x2D, 0x2E, 0x20, 0x24, 0x2F, 0x2B, 0x25]).map (BitVec.ofNat 8)

/-- The Mod-43 check character of Code 39 verifies. -/
def mod43Ok (l : List Byte) : Bool :=
  match l.getLast? with
  | some k => decide (0 < l.length) && decide ((l.dropLast.map (code39.idxOf ·)).foldl (· + ·) 0 % 43 = code39.idxOf k)
  | none => false

/-- A shifted pair of full ASCII (PRESUMED); none where it stands for no character. -/
def fullPair (sh k : Nat) : Option Nat :=
  if k < 0x41 ∨ 0x5A < k then none
  else if sh = 0x24 then some (k - 0x40)
  else if sh = 0x2B then some (k + 0x20)
  else if sh = 0x2F then (if k ≤ 0x4F then some (k - 0x20) else if k = 0x5A then some 0x3A else none)
  else if k ≤ 0x45 then some (k - 0x26)
  else if k ≤ 0x4A then some (k - 0x0B)
  else if k ≤ 0x4F then some (k + 0x10)
  else if k ≤ 0x54 then some (k + 0x2B)
  else if k = 0x55 then some 0
  else if k = 0x56 then some 0x40
  else if k = 0x57 then some 0x60
  else some 0x7F

def fullAscii : List Byte → List Byte
  | a :: b :: t =>
    if a.toNat ∈ [0x24, 0x25, 0x2B, 0x2F] then
      (match fullPair a.toNat b.toNat with
       | some c => BitVec.ofNat 8 c :: fullAscii t
       | none => a :: fullAscii (b :: t))
    else a :: fullAscii (b :: t)
  | l => l

/-- The check characters of a linear symbol, of the symbology or of the selected option, verify (R216, R220). -/
def linCheck (c : CodeSpec) (x : Sym) : Bool :=
  let l := linChars x.data
  x.checkOk &&
  (if c.sym = 0 then decide (l.length = 13) && gs1Ok l
   else if c.sym = 1 then decide (l.length = 8) && gs1Ok l
   else if c.sym = 2 then decide (l.length = 12) && gs1Ok l
   else if c.sym = 3 then decide (l.length = 8) && gs1Ok (upcExpand l)
   else if c.sym = 6 then decide (c.check = 0) || mod43Ok l
   else if c.sym = 7 then decide (c.check = 0) || gs1Ok l
   else true)

/-- A linear symbol's compared text. -/
def linText (c : CodeSpec) (x : Sym) : List Byte :=
  let l := linChars x.data
  if c.sym = 2 then 0x30 :: l
  else if c.sym = 3 then 0x30 :: upcExpand l
  else if c.sym = 5 then linChars (x.data.drop 1)
  else if c.sym = 6 then
    let l := if c.check = 2 then l.dropLast else l
    if c.fullAscii then fullAscii l else l
  else l

/-- The compared text (R216). -/
def symText (c : CodeSpec) (x : Sym) : List Byte :=
  if is2d c.sym then segText 3 (if firstFnc1 x then x.data.drop 1 else x.data) else linText c x

/-- Characters 2 and 3 of the identifier sent (R216). -/
def symIdent (c : CodeSpec) : Nat :=
  let two (a b : Nat) : Nat := a + 256 * b
  match c.sym with
  | 1 => two 0x45 0x34
  | 4 => two 0x43 0x30
  | 5 => two 0x43 0x31
  | 6 => two 0x41 (if c.check = 0 then 0x30 else if c.check = 1 then 0x31 else 0x33)
  | 7 => two 0x49 (if c.check = 0 then 0x30 else 0x31)
  | 8 => two 0x65 0x30
  | 9 => two 0x65 0x30
  | 10 => two 0x64 0x31
  | 11 => two 0x64 0x32
  | 12 => two 0x51 0x31
  | 13 => two 0x51 0x33
  | _ => two 0x45 0x30

/-! ### Error correction (R220) -/

/-- A module lies within ERASE_PCT % of the symbol contrast of the global threshold. -/
def uncertain (pct sc m : Nat) : Bool := decide (100 * m ≤ pct * sc)

/-- A codeword with two or more uncertain modules is an erasure. -/
def erased (pct sc : Nat) (w : Codeword) : Bool := decide (2 ≤ (w.margins.filter (uncertain pct sc)).length)

/-- Errors and erasures of a block, its check codewords and its misdecode reserve, which is 0 in Data Matrix. -/
structure BlockFix where
  e : Nat
  f : Nat
  d : Nat
  p : Nat
  deriving DecidableEq, Repr

def blockFix (sym pct sc : Nat) (b : RsBlock) : BlockFix :=
  { e := (b.words.filter (fun w => w.wrong && !erased pct sc w)).length, f := (b.words.filter (erased pct sc)).length, d := b.d,
    p := if sym ≤ 11 then 0 else b.p }

/-- A block corrects: 2e + f <= d - p. -/
def blockOk (b : BlockFix) : Bool := decide (2 * b.e + b.f + b.p ≤ b.d)

def erasePct (s : State) : Nat := rf s 0xA0000 7 0
def symBlocks (s : State) (c : CodeSpec) (x : Sym) : List BlockFix := x.blocks.map (blockFix c.sym (erasePct s) x.sc)

/-- A symbol of the crop that the unit reads: of the specified symbology and options, with what R217 asks for. -/
def readable (s : State) (b : Box) (c : CodeSpec) (x : Sym) : Bool :=
  sizeOk c x && fnc1Ok c.sym x && inCrop (cropPx s b) x && (decide (c.sym ≠ 7) || decide ((linChars x.data).length = c.fixedLen))

def symDecodes (s : State) (c : CodeSpec) (x : Sym) : Bool := if is2d c.sym then (symBlocks s c x).all blockOk else linCheck c x

def correctedWords (s : State) (c : CodeSpec) (x : Sym) : Nat := ((symBlocks s c x).map (fun b => b.e + b.f)).foldl (· + ·) 0

/-- Square of twice the distance of a symbol's centre from the crop's. -/
def symDist (c : Nat × Nat) (x : Sym) : Int :=
  (2 * x.centre.1 - 100 * c.1) * (2 * x.centre.1 - 100 * c.1) + (2 * x.centre.2 - 100 * c.2) * (2 * x.centre.2 - 100 * c.2)

/-- The decoded symbol nearest the field's centre (R218). -/
def nearest (c : Nat × Nat) : List Sym → Option Sym
  | [] => none
  | x :: t =>
    match nearest c t with
    | none => some x
    | some y => if symDist c y < symDist c x then some y else some x

/-! ### GS1 element strings (R221) -/

/-- What the table of application identifiers says of one AI: fixed length or a greatest length, digits only. -/
structure AiRow where
  fixed : Bool
  len : Nat
  digits : Bool
  deriving DecidableEq, Repr

/-- Digits of the AI that begins with these two; the table is not printed in the spec (notes/assumptions/2.md). -/
def aiDigits (two : Nat) : Nat :=
  if two ≤ 2 ∨ two = 11 ∨ two = 13 ∨ two = 15 ∨ two = 17 then 2 else Config.aiEntry (100000 + two) % 3 + 2

/-- The row of an AI of `n` digits; the seven the spec names have their GS1 lengths. -/
def aiRow (n ai : Nat) : Option AiRow :=
  if n = 2 ∧ ai = 0 then some ⟨true, 18, true⟩
  else if n = 2 ∧ (ai = 1 ∨ ai = 2) then some ⟨true, 14, true⟩
  else if n = 2 ∧ (ai = 11 ∨ ai = 13 ∨ ai = 15 ∨ ai = 17) then some ⟨true, 6, true⟩
  else
    let e := Config.aiEntry (n * 10000 + ai)
    if e % 2 = 0 then none else some ⟨bit e 1, e / 4 % 128, bit e 9⟩

/-- Character set 82 of the GS1 General Specifications. -/
def cset82 (b : Byte) : Bool :=
  let v := b.toNat
  (decide (0x21 ≤ v) && decide (v ≤ 0x22)) || (decide (0x25 ≤ v) && decide (v ≤ 0x3F)) || (decide (0x41 ≤ v) && decide (v ≤ 0x5A)) ||
  decide (v = 0x5F) || (decide (0x61 ≤ v) && decide (v ≤ 0x7A))

/-- A YYMMDD date; DD = 00 where it is allowed. -/
def aiDateOk (zero : Bool) (v : List Byte) : Bool :=
  let y := digitsVal (v.take 2)
  let m := digitsVal ((v.drop 2).take 2)
  let d := digitsVal (v.drop 4)
  decide (1 ≤ m) && decide (m ≤ 12) && decide (d ≤ monthDays (2000 + y) m) && (zero || decide (1 ≤ d))

def aiValueOk (n ai : Nat) (r : AiRow) (v : List Byte) : Bool :=
  (if r.fixed then decide (v.length = r.len) else decide (1 ≤ v.length) && decide (v.length ≤ r.len)) &&
  (if r.digits then v.all isAsciiDigit else v.all cset82) &&
  (decide (n ≠ 2) || (decide (2 < ai) || gs1Ok v)) &&
  (decide (n ≠ 2) || !(decide (ai = 11) || decide (ai = 13)) || aiDateOk false v) &&
  (decide (n ≠ 2) || !(decide (ai = 15) || decide (ai = 17)) || aiDateOk true v)

/-- The elements of a string as (AI text, value); none where it is invalid. -/
def gs1Parse : Nat → List Byte → Option (List (List Byte × List Byte))
  | 0, _ => none
  | _, [] => some []
  | k + 1, bs =>
    if !((bs.take 2).length = 2 ∧ (bs.take 2).all isAsciiDigit) then none
    else
      let n := aiDigits (digitsVal (bs.take 2))
      let ai := bs.take n
      if ai.length ≠ n ∨ !ai.all isAsciiDigit then none
      else
        match aiRow n (digitsVal ai) with
        | none => none
        | some r =>
          let rest := bs.drop n
          let v := if r.fixed then rest.take r.len else rest.takeWhile (fun b => decide (b.toNat ≠ 0x1D))
          let rest := if r.fixed then rest.drop r.len else (rest.drop v.length).drop 1
          if aiValueOk n (digitsVal ai) r v then (gs1Parse k rest).map ((ai, v) :: ·) else none

/-! ### Checks and outcome (R222, R223) -/

def expectText (o : Obj) : Expect → List Byte
  | .lit t => t
  | .var n => tget [] o.cfg.vars n

def isGs1 (c : CodeSpec) : Bool := decide (c.sym ∈ [5, 9, 11, 13]) || c.checks.any (fun k => k.sel.isSome)

/-- One check of the specification against the compared text and its elements. -/
def checkPasses (o : Obj) (data : List Byte) (els : List (List Byte × List Byte)) (k : CodeCheck) : Bool :=
  match k.sel with
  | none => ruleMatch k.rule data (expectText o k.expected)
  | some ai =>
    match els.find? (fun e => decide (e.1 = ai)) with
    | some e => ruleMatch k.rule e.2 (expectText o k.expected)
    | none => false

/-! ### Grades (R225, R226) -/

/-- The grade of a value that is better when larger, against thresholds for 4, 3, 2, 1 (v / d in hundredths). -/
def gradeUp (v d : Nat) (t4 t3 t2 t1 : Nat) : Nat :=
  if t4 * d ≤ 100 * v then 4 else if t3 * d ≤ 100 * v then 3 else if t2 * d ≤ 100 * v then 2 else if t1 * d ≤ 100 * v then 1 else 0

def gradeDown (v d : Nat) (t4 t3 t2 t1 : Nat) : Nat :=
  if 100 * v ≤ t4 * d then 4 else if 100 * v ≤ t3 * d then 3 else if 100 * v ≤ t2 * d then 2 else if 100 * v ≤ t1 * d then 1 else 0

def minOf (l : List Nat) : Nat := l.foldl min 4

def scanGrade (x : Scan) : Nat :=
  minOf [if x.decodes then 4 else 0, if 2 * x.rmin ≤ x.rmax then 4 else 0, gradeUp x.sc 65535 70 55 40 20,
         if 15 * 65535 ≤ 100 * x.ecmin then 4 else 0, gradeUp x.ecmin x.sc 70 60 50 40, gradeDown x.ern x.sc 15 20 25 30,
         gradeUp x.decodability 10000 62 50 37 25]

/-- Overall grade of a linear symbol, in tenths. -/
def linearGrade (x : Sym) : Nat :=
  let n := min 10 (x.barHeight / 200)
  if n = 0 then 0
  else 10 * ((List.range n).map (fun i => match x.scans[i]? with | some c => scanGrade c | none => 0)).foldl (· + ·) 0 / n

/-- Unused error correction of a block. -/
def uecGrade (b : BlockFix) : Nat := gradeUp (b.d - b.p - (2 * b.e + b.f)) (b.d - b.p) 62 50 37 25

def matrixGrade (s : State) (c : CodeSpec) (x : Sym) : Nat :=
  10 * minOf ([gradeUp x.sc 65535 70 55 40 20, gradeDown x.axial 10000 6 8 10 12, gradeDown x.grid 10000 38 50 63 75, min 4 x.others] ++
    (symBlocks s c x).map uecGrade)

def gradeOf (s : State) (c : CodeSpec) (x : Sym) : Nat := if is2d c.sym then matrixGrade s c x else linearGrade x

/-- The outcome of the field's symbol. -/
def symOut (s : State) (o : Obj) (c : CodeSpec) (x : Sym) : FieldOut :=
  let g := gradeOf s c x
  let data := symText c x
  let base : FieldOut := { a := g, b := data.length, c := correctedWords s c x, d := symIdent c, text := data.take 80,
                           estimate := true, growth := x.growth }
  if is2d c.sym && eciBad x.data then { base with out := .mismatch, reason := 7 }
  else
    match (if isGs1 c then gs1Parse (data.length + 1) data else some []) with
    | none => { base with out := .mismatch, reason := 8 }
    | some els =>
      if !(c.checks.all (checkPasses o data els)) then { base with out := .mismatch }
      else if g < c.minGrade then { base with out := .lowGrade }
      else { base with out := .pass }

/-- Flags and counters of a finished request: symbols with identical data count as one. -/
def countDecoded (s : State) (c : CodeSpec) (l : List Sym) : State :=
  let n := ((l.map (correctedWords s c)).foldl (· + ·) 0)
  bump (cadd s 0xA0010 (l.map (symText c)).eraseDups.length) 0xA0018 n

/-- RS_FAIL is set by a block that cannot be corrected. -/
def rsFlag (s : State) (bad : Bool) : State := if bad then flag s 0xA0004 1 else s

/-- A CODE field's outcome: its reasons in the order of R399 (R218, R220, R223). -/
def codeOut (s : State) (o : Obj) (b : Box) (c : CodeSpec) (r : CodeRead) : State × FieldOut :=
  let found := r.symbols.filter (readable s b c)
  let good := found.filter (symDecodes s c)
  let bad := is2d c.sym && found.any (fun x => !symDecodes s c x)
  let t := rsFlag (countDecoded s c good) bad
  if 1 < (good.map (symText c)).eraseDups.length then (t, { out := .unreadable, reason := 3 })
  else if bad then (t, { out := .unreadable, reason := 5 })
  else
    match nearest (cropPx s b) good with
    | some x => (t, symOut s o c x)
    | none => if found.isEmpty then (flag t 0xA0004 0, { out := .unreadable, reason := 6 }) else (t, { out := .unreadable, reason := 9 })

def codeDone (s : State) (q : CodeReq) (r : CodeRead) : State :=
  let s := setCode s { s.code with busy := none }
  match objOf s q.lane q.key with
  | none => s
  | some o =>
    match (o.img.fields[q.field]?).bind (fun f => o.img.codes[f.index]?), fieldBox o q.field with
    | some c, some b =>
      let x := codeOut s o b c r
      giveField x.1 q.lane q.key q.field x.2
    | _, _ => s

def execCodeRequestDone (r : CodeRead) (s : State) : Res :=
  .next (match s.code.busy with
    | some q => if isReady s then codeDone s q r else s
    | none => s)

end Sys2Proof.Machine
end

