-- ==== Sys2Proof/Machine/Capture.lean ====
section
/-! DEFINITION. Capture of objects for make-ready adaptation: crops of TEXT fields with their labels (R236, R237). -/

namespace Sys2Proof.Machine

/-- A label as the recogniser's targets: its tokens, then END_TOKEN; whether tokenising it replaced bytes (R209). -/
def labelToks (s : State) (m : ModelImg) (split : Nat) (label : List Byte) : List Nat × Bool :=
  match vocab s m.vslot with
  | none => ([], false)
  | some v =>
    let r := tokenizeBuf s v {} split true label
    (r.1 ++ [m.endTok], decide (r.2.1 ≠ 0))

/-- The model an adaptation trains. -/
def adModel (s : State) (a : Adapt) : ModelImg := ((job s a.p.srcJob).img.models[a.p.model]?).getD {}

def capField (s : State) (a : Adapt) (o : Obj) (i : Nat) (f : FieldDef) : List AdSample :=
  match f.kind, fieldBox o i with
  | .text, some b =>
    let c := cropOf s b
    let l := match o.img.rules[f.index]? with | some r => expectText o r.expected | none => []
    let t := labelToks s (adModel s a) f.caption.split l
    [{ w := c.1, h := c.2.1, crop := c.2.2, label := l, toks := t.1, refused := t.2, poisoned := cropPoison s b }]
  | _, _ => []

/-- The crops of an object's TEXT fields. -/
def textBoxes (o : Obj) : List Box :=
  (List.range o.img.fields.length).filterMap (fun i => if fieldKind o i = some .text then fieldBox o i else none)

/-- Bytes of the crops on the web raster ring. -/
def capBytes (s : State) (o : Obj) : Nat := sumOf ((textBoxes o).map (cropBytes s))

/-- An object due for capture: missed where a crop is STALE; copied, under class 2, once its crops are captured and the class has
DRAM budget; else it stays due (R236, R269). -/
def captureOne (k : Nat) (s : State) (d : Nat × Obj) : State :=
  match adapt s k with
  | none => s
  | some a =>
    let bs := textBoxes d.2
    if bs.any (fun b => captured s b && (boxStale s d.2.img.staleLines b).isSome) then
      setAdapt s k (some { a with missed := a.missed + 1, due := a.due.erase d })
    else if bs.all (captured s) && underCap s 2 0 4 1 then
      let fs := (d.2.img.fields.mapIdx (fun i f => capField s a d.2 i f)).flatten
      let ring := a.ring ++ [{ lane := d.1, seq := d.2.seq, fields := fs }]
      chargeDram (setAdapt s k (some { a with ring := ring.drop (ring.length - a.p.capObjs), due := a.due.erase d })) 2 (capBytes s d.2)
    else s

def captureSlot (s : State) (k : Nat) : State :=
  match adapt s k with
  | none => s
  | some a => if a.st = .opened then a.due.foldl (captureOne k) s else setAdapt s k (some { a with due := [] })

/-- Captures that can start are made. -/
def captureDue (s : State) : State := (List.range 4).foldl captureSlot s

/-- Every adaptation that is OPEN for the lane and the job takes the registered object (R236). -/
def captureFor (n : Nat) (o : Obj) (s : State) (k : Nat) : State :=
  match adapt s k with
  | none => s
  | some a =>
    if a.st = .opened ∧ bit a.p.laneMask n ∧ a.p.srcJob = o.job then setAdapt s k (some { a with due := a.due ++ [(n, o)] }) else s

def captureObj (s : State) (n : Nat) (o : Obj) : State := captureDue ((List.range 4).foldl (captureFor n o) s)

/-- A complete group of lines becomes a raster row; code requests and captures that waited for it follow (R90, R219, R236). `fills`
says what the real-time sub-queues come to hold as its granules pass, in order, as (port, channel, bytes) (R312). -/
def execRasterRowWrite (ovf : Option (Nat × Nat)) (fills : List (Nat × Nat × Nat)) (s : State) : Res :=
  .next (if isReady s then
      (match readyGroup s with | some g => captureDue (queueCaptured (rasterRow (fills.foldl setFill s) g ovf)) | none => s)
    else s)

end Sys2Proof.Machine
end

