-- ==== Sys2Proof/Machine/Dev.lean ====
section
/-! DEFINITION. The Developer unit: auxiliary streams, their pictures and frames, reference decoding, the hot-tile area and the
repair of a poisoned reference tile (R96 to R109). -/

namespace Sys2Proof.Machine

def stream (s : State) (k : Nat) : Stream := tget {} s.streams k
def setStream (s : State) (k : Nat) (x : Stream) : State := { s with streams := tset {} s.streams k x }

def devSt : Nat := 0xB0004

/-- Features of R96; a level limit holds for width times height. -/
def hevcOk (h : PicHdr) : Bool :=
  decide (h.profile ≤ 2) && !h.high && decide (h.level ≤ 61) && decide (h.chroma = 1) && !h.fields &&
  decide (h.bits = 8 ∨ (h.profile = 1 ∧ h.bits = 10)) && decide (1 ≤ h.w ∧ h.w ≤ 8192) && decide (1 ≤ h.h ∧ h.h ≤ 8192) &&
  decide (h.w * h.h ≤ 35651584)

def jpegOk (h : PicHdr) : Bool :=
  decide (h.process = 0) && decide (h.bits = 8) &&
  (decide (h.comps = 1) || (decide (h.comps = 3) && decide ((h.hs, h.vs) ∈ [(1, 1), (2, 1), (2, 2)]))) &&
  decide (1 ≤ h.w ∧ h.w ≤ 16384) && decide (1 ≤ h.h ∧ h.h ≤ 16384)

def supported (jpeg : Bool) (h : PicHdr) : Bool := if jpeg then jpegOk h else hevcOk h

/-- DEV_PIX counts decoded luma samples. -/
def countPix (s : State) (n : Nat) : State := cadd s 0xB0018 n

/-! ### Opening (R98) -/

def round256 (n : Nat) : Nat := ceilDiv n 256 * 256

/-- Bytes of the Y plane and of one chroma plane of a frame buffer, with samples of `b` bytes. -/
def planeY (x : Stream) (b : Nat) : Nat := if x.jpeg then round256 x.maxW * x.maxH else round256 (x.maxW * b) * x.maxH
def planeC (x : Stream) (b : Nat) : Nat :=
  if x.jpeg then round256 x.maxW * x.maxH else round256 (ceilDiv x.maxW 2 * b) * ceilDiv x.maxH 2
def bufBytes (x : Stream) (b : Nat) : Nat := planeY x b + 2 * planeC x b

/-- The lowest free slot of 0 to 29. -/
def freeStream (s : State) : Option Nat := (List.range 30).find? (fun k => decide ((stream s k).st = .free))

def maxSide (codec : Nat) : Nat := if codec = 0 then 8192 else 16384

/-- An HEVC stream is opened before its profile is known: its buffers must fit with the two bytes a sample of Main 10 (DESIGN CHOICE,
notes/assumptions/31.md). -/
def streamOpen (s : State) (f : Flight) (x : Stream) : State :=
  if !x.jpeg && decide (35651584 < x.maxW * x.maxH) then complete s f stUnsupported 0 0
  else if !rangeOk s x.qaddr (x.depth * bufBytes x 2) then complete s f stBadParam 0x10 0
  else
    match freeStream s with
    | none => complete s f stNoResource 0 0
    | some k => complete (setStream s k x) f stOk 0 k

def execStreamOpen (c : Cmd) (qaddr ageMax maxW maxH mark codec depth low cls : Nat) (s : State) : Res :=
  .next (accept s c 0x38
    [(decide (1 ≤ ageMax ∧ ageMax ≤ 1000000), 0x18), (decide (1 ≤ maxW ∧ maxW ≤ maxSide codec), 0x1C),
     (decide (1 ≤ maxH ∧ maxH ≤ maxSide codec), 0x1E), (decide (mark < 65536), 0x20), (decide (codec < 2), 0x22),
     (decide (2 ≤ depth ∧ depth ≤ 16), 0x23), (decide (low < depth), 0x24), (decide (cls = 3 ∨ cls = 4), 0x25)]
    (fun s f => streamOpen s f { st := .opened, jpeg := decide (codec = 1), qaddr := qaddr, ageMax := ageMax, maxW := maxW,
                                 maxH := maxH, mark := mark, depth := depth, low := low, cls := cls }))

/-! ### Reports of a slot (R104 to R109, R295) -/

def auxReport (s : State) (typ k : Nat) (u : AccUnit) (reason : Nat) : State :=
  report s typ none k 0 (leBytes 8 u.capDt ++ leBytes 4 u.fid ++ leBytes 1 reason)

/-- An access unit discarded: AUX_SKIP with its reason. -/
def auxSkip (reason : Nat) (s : State) (k : Nat) (u : AccUnit) : State :=
  let x := stream s k
  auxReport (flag (setStream s k { x with skipped := satAdd sat32 x.skipped 1 }) devSt 3) 0x0503 k u reason

/-- A limit that has passed: 0 AGE, 1 WT_DL (R105, R107). -/
def pastLimit (s : State) (x : Stream) (u : AccUnit) : Option Nat :=
  if x.ageMax * 1000 ≤ dt s - u.capDt then some 0
  else if u.wtDl ≠ 0 ∧ u.wtDl ≤ wt s then some 1
  else none

/-- A dequeue or discard has left fewer than LOW frames (R106). -/
def lowWater (s : State) (k : Nat) : State :=
  let x := stream s k
  if x.queue.length < x.low then
    report (flag s devSt 0) 0x0501 none k 0 (leBytes 1 x.queue.length ++ leBytes 1 x.low)
  else s

/-! ### Input and pipes (R97, R105, R108, R109) -/

/-- An access unit reaches the slot: discarded in SKIP up to the next IRAP, and RASL pictures of that CRA (R109). -/
def takeUnit (k : Nat) (s : State) (u : AccUnit) : State :=
  let x := stream s k
  if x.st = .skip then
    (if u.au.irap then setStream s k { x with st := .opened, raslSkip := u.au.cra, input := x.input ++ [u] } else auxSkip 3 s k u)
  else if x.raslSkip ∧ u.au.rasl then auxSkip 3 s k u
  else setStream s k { x with raslSkip := x.raslSkip && !u.au.irap, input := x.input ++ [u] }

/-- An HEVC stream enters SKIP; what waits in its input goes through it. -/
def enterSkip (s : State) (k : Nat) : State :=
  let x := stream s k
  if x.jpeg then s else x.input.foldl (takeUnit k) (setStream s k { x with st := .skip, input := [] })

def pipeBusy (s : State) (p : Nat) : Bool :=
  s.streams.any (fun e => match e.2.cur with | some (_, q) => decide (q = p) | none => false)

/-- The class's DRAM budget of the period is used up: a pipe holds its pictures (R108). -/
def heldPic (s : State) (x : Stream) : Bool := decide (dramCap s x.cls ≤ dramUsed s x.cls)

/-- A slot can start a picture: something waits, the queue has room, and its class has DRAM budget left. -/
def canStart (s : State) (x : Stream) : Bool :=
  decide (x.st = .opened) && decide (x.cur = none) && decide (x.queue.length < x.depth) && !x.input.isEmpty && !heldPic s x

/-- A free pipe takes the next picture of the lowest slot that can start one (DESIGN CHOICE, notes/assumptions/31.md). -/
def startPic (s : State) (p : Nat) : State :=
  if pipeBusy s p then s
  else
    match (List.range 32).find? (fun k => canStart s (stream s k)) with
    | none => s
    | some k =>
      let x := stream s k
      match x.input with
      | [] => s
      | u :: t => setStream s k { x with cur := some (u, p), input := t }

def startPics (s : State) : State := startPic (startPic s 0) 1

/-- The slot whose picture a pipe decodes. -/
def onPipe (s : State) (p : Nat) : Option (Nat × AccUnit) :=
  (List.range 32).findSome? (fun k => match (stream s k).cur with
    | some (u, q) => if q = p then some (k, u) else none
    | none => none)

/-! ### Reference decoding in slots 30 and 31 (R98, R101, R103) -/

/-- The identifier of still i of a job slot, decoded for the load or for a repair. -/
def refFid (slot i : Nat) (rep : Bool) : Nat := b2n rep * 4096 + slot * 64 + i
def fidSlot (u : AccUnit) : Nat := u.fid / 64 % 64
def isRepair (u : AccUnit) : Bool := decide (4096 ≤ u.fid)

def addRef (s : State) (k : Nat) (u : AccUnit) : State :=
  let x := stream s k
  setStream s k { x with st := .opened, held := true, cls := 3, input := x.input ++ [u] }

/-- Stills of a job go to slots 30 and 31 in turn. -/
def enqueueRefs (s : State) (slot : Nat) (is : List Nat) (rep : Bool) : State :=
  startPics (is.foldl (fun s i => addRef s (30 + i % 2) { fid := refFid slot i rep }) s)

/-- A reference slot without work is FREE. -/
def freeRef (s : State) (k : Nat) : State :=
  let x := stream s k
  if x.cur = none ∧ x.input = [] then setStream s k {} else s

def dropRef (slot : Nat) (s : State) (k : Nat) : State :=
  let x := stream s k
  freeRef (setStream s k { x with input := x.input.filter (fun u => decide (fidSlot u ≠ slot)),
                                  cur := x.cur.filter (fun e => decide (fidSlot e.1 ≠ slot)) }) k

/-- Nothing of a job slot is decoded any more. -/
def dropRefs (s : State) (slot : Nat) : State := startPics (dropRef slot (dropRef slot s 30) 31)

/-- A repair of the slot's tiles has stills still to decode. -/
def repairing (s : State) (slot : Nat) : Bool :=
  [30, 31].any (fun k => ((stream s k).input ++ (stream s k).cur.toList.map (·.1)).any (fun u => isRepair u && decide (fidSlot u = slot)))

/-- A reference slot's pipe is free again. -/
def refNext (s : State) (k : Nat) : State := startPics (freeRef (setStream s k { stream s k with cur := none }) k)

/-- A reference still is decoded (R101). -/
def refDone (s : State) (k : Nat) (u : AccUnit) (p : Picture) : State :=
  let j := job s (fidSlot u)
  let s := if !isRepair u ∧ j.st = .loading then setJob s (fidSlot u) { j with pics := tset none j.pics (u.fid % 64) (some p) } else s
  refNext (countPix s p.luma) k

/-- A reference still does not decode: its load fails; a repair decodes it again (DESIGN CHOICE, notes/assumptions/31.md). -/
def refBad (s : State) (k : Nat) (u : AccUnit) : State :=
  if isRepair u then refNext (addRef s k u) k
  else dropRefs (setJob s (fidSlot u) { job s (fidSlot u) with bad := true }) (fidSlot u)

/-! ### Feeding and closing -/

/-- A picture larger than the stream may carry is refused as a feature is (DESIGN CHOICE, notes/assumptions/31.md). -/
def streamFeed (s : State) (f : Flight) (src k : Nat) (u : AccUnit) : State :=
  let x := stream s k
  if !rangeOk s src u.len then complete s f stBadParam 0x10 0
  else if !(decide (x.st = .opened) || decide (x.st = .skip)) || x.held then complete s f stBadState 0 0
  else if hostFail f.c [src] then complete s f stHostErr 0 0
  else if (poisonIn s src u.len).isSome then complete s f stPoisoned 0 0
  else if !supported x.jpeg u.au.hdr || decide (x.maxW < u.au.hdr.w ∨ x.maxH < u.au.hdr.h) then complete s f stUnsupported 0 0
  else
    let s := if dt s + 10000000 < u.capDt then auxReport s 0x0507 k u 4 else s
    complete (startPics (takeUnit k s u)) f stOk 0 0

def execStreamFeed (c : Cmd) (src capDt wtDl len fid slot : Nat) (au : Au) (s : State) : Res :=
  .next (accept s c 0x39 [(decide (slot < 32), 0x30)]
    (fun s f => streamFeed s f src slot { capDt := capDt, wtDl := wtDl, fid := fid, len := len, au := au }))

/-- Frames are discarded and undecoded access units reported; a picture in decode ends at its checkpoint (R99). -/
def streamClose (s : State) (f : Flight) (k : Nat) : State :=
  let x := stream s k
  if !(decide (x.st = .opened) || decide (x.st = .skip)) || x.held then complete s f stBadState 0 0
  else
    let s := x.queue.foldl (fun s _ => lowWater (setStream s k { stream s k with queue := (stream s k).queue.drop 1 }) k)
      (setStream s k { x with st := .closing, input := [] })
    defer (x.input.foldl (fun s u => auxSkip 2 s k u) s) f (.streamClose k) []

def execStreamClose (c : Cmd) (slot : Nat) (s : State) : Res :=
  .next (accept s c 0x3A [(decide (slot < 32), 0x10)] (fun s f => streamClose s f slot))

/-- The flush is complete: the abandoned picture is reported and charged, and the slot is FREE. -/
def flushDone (s : State) (k bytes : Nat) : State :=
  let x := stream s k
  let s := if x.cur.isSome then chargeDram s x.cls bytes else s
  let s := match x.cur with | some (u, _) => auxSkip 2 s k u | none => s
  let y := stream s k
  startPics (completeAwait (setStream s k { late := y.late, skipped := y.skipped }) (.streamClose k) stOk 0 0)

def execStreamFlushDone (slot bytes : Nat) (s : State) : Res :=
  .next (if isReady s && decide ((stream s slot).st = .closing) then flushDone s slot bytes else s)

/-! ### Pictures (R105, R107, R109)

`bytes` is the DRAM traffic of the pipe for the picture, whole or not, which R108 charges to the class of its stream. -/

/-- The picture is abandoned past its limit (R107), or because the unit lost it (R325). -/
def abandonPic (s : State) (k : Nat) (u : AccUnit) (reason : Nat) : State :=
  let x := stream s k
  let s := auxReport (flag (setStream s k { x with cur := none, late := satAdd sat32 x.late 1 }) devSt 2) 0x0502 k u reason
  startPics (enterSkip s k)

def execAuxLate (pipe bytes : Nat) (s : State) : Res :=
  .next (match onPipe s pipe with
    | none => s
    | some (k, u) =>
      if isReady s && decide ((stream s k).st ≠ .closing) && decide (k < 30) then
        (match pastLimit s (stream s k) u with
         | some r => abandonPic (chargeDram s (stream s k).cls bytes) k u r
         | none => s)
      else s)

/-- One row of samples in a plane. -/
def sampleBytes (b : Nat) (r : List Nat) : List Byte := (r.map (leBytes b)).flatten

def putPlane (b base pitch : Nat) (rows : List (List Nat)) (s : State) : State :=
  (rows.mapIdx (fun y r => (y, r))).foldl (fun s e =>
    let a := base + e.1 * pitch
    let bs := sampleBytes b e.2
    storeBytes s a bs) s

/-- The frame is stored in the next buffer of the queue region (R98). -/
def putFrame (s : State) (x : Stream) (p : Picture) : State :=
  let b := if p.ten then 2 else 1
  let a := x.qaddr + x.made % x.depth * bufBytes x b
  let pitchY := if x.jpeg then round256 x.maxW else round256 (x.maxW * b)
  let pitchC := if x.jpeg then round256 x.maxW else round256 (ceilDiv x.maxW 2 * b)
  if rangeOk s a (bufBytes x b) then
    putPlane b (a + planeY x b + planeC x b) pitchC p.cr (putPlane b (a + planeY x b) pitchC p.cb (putPlane b a pitchY p.y s))
  else s

/-- A frame enters the queue and its mark is incremented (R105). -/
def queueFrame (s : State) (k : Nat) (u : AccUnit) (p : Picture) : State :=
  let x := stream s k
  let s := setStream (countPix (putFrame s x p) p.luma) k { x with cur := none, queue := x.queue ++ [u], made := x.made + 1 }
  startPics (signalExt s x.mark 1)

def execDecodePictureDone (pipe : Nat) (pic : Picture) (bytes : Nat) (s : State) : Res :=
  .next (match onPipe s pipe with
    | none => s
    | some (k, u) =>
      if isReady s && decide ((stream s k).st ≠ .closing) && !heldPic s (stream s k) then
        (let t := chargeDram s (stream s k).cls bytes
         if 30 ≤ k then refDone t k u pic
         else
           match pastLimit s (stream s k) u with
           | some r => abandonPic t k u r
           | none => queueFrame t k u pic)
      else s)

/-- A picture is found non-conformant (R109). -/
def decodeErr (s : State) (k : Nat) (u : AccUnit) (err : Nat) : State :=
  let s := report (flag s devSt 4) 0x0505 none k 0 (leBytes 4 u.fid ++ leBytes 2 err)
  if 30 ≤ k then refBad s k u else startPics (enterSkip (setStream s k { stream s k with cur := none }) k)

def execDevDecodeErr (pipe err bytes : Nat) (s : State) : Res :=
  .next (match onPipe s pipe with
    | none => s
    | some (k, u) => if isReady s && decide ((stream s k).st ≠ .closing) then decodeErr (chargeDram s (stream s k).cls bytes) k u err else s)

/-- Frames past their limits are discarded until one within them is handed over (R105). -/
def dequeueFrom (k : Nat) : List AccUnit → State → State
  | [], s => s
  | u :: t, s =>
    let x := stream s k
    let s' := lowWater (setStream s k { x with queue := t }) k
    match pastLimit s x u with
    | none => s'
    | some r =>
      let y := stream s' k
      dequeueFrom k t (auxReport (flag (setStream s' k { y with late := satAdd sat32 y.late 1 }) devSt 1) 0x0504 k u r)

def execFrameDequeue (slot : Nat) (s : State) : Res :=
  .next (if isReady s && !(stream s slot).queue.isEmpty then startPics (dequeueFrom slot (stream s slot).queue s) else s)

/-! ### Reference tiles (R101 to R103) -/

/-- Reference pixels of a design. -/
def refW (d : Design) : Nat := ceilDiv d.w 4
def refH (d : Design) : Nat := ceilDiv d.h 4

/-- Tiles of a design's artwork (R101). -/
def tilesWide (d : Design) : Nat := ceilDiv (refW d) 128
def tileCount (d : Design) : Nat := tilesWide d * ceilDiv (refH d) 128

/-- A still covers pixels of the tile; its decoded size is that of its header. -/
def stillMeets (d : Design) (tile : Nat) (x : Still) : Bool :=
  let tx := tile % tilesWide d * 128
  let ty := tile / tilesWide d * 128
  meets tx (tx + 128) (x.artX / 4) (x.artX / 4 + x.hdr.w) && meets ty (ty + 128) (x.artY / 4) (x.artY / 4 + x.hdr.h)

def stillsAt (i : JobImage) (tile : Nat) : List Nat :=
  (List.range i.stills.length).filter (fun k => match i.stills[k]? with | some x => stillMeets i.design tile x | none => false)

/-- The comparison of the object that reads takes STALE (R103). -/
def tileStale (s : State) (w : Option (Nat × Nat)) : State :=
  match w with | some w => giveCmp s w.1 w.2 { out := .stale } [] [] | none => s

/-- A DRAM read of a tile is poisoned: it is absent until its stills are decoded again, and the hot area does not hold it (R103). -/
def poisonTile (s : State) (k tile : Nat) (w : Option (Nat × Nat)) : State :=
  let j := job s k
  if j.poisoned.contains tile then tileStale s w
  else
    let s := flag (setJob { s with hot := s.hot.filter (· ≠ (k, tile)) } k { j with poisoned := j.poisoned ++ [tile] }) devSt 5
    let s := report s 0x0506 none k 0 (leBytes 2 tile ++ leBytes 1 0)
    let ls := (w.map (·.1)).toList
    enqueueRefs (eventFault (tileStale s w) { cause := 0x0603, tier := 0, lane := ls.head? } ls true) k (stillsAt j.img tile) true

def tileRepaired (s : State) (k tile : Nat) : State :=
  let j := job s k
  if j.poisoned.contains tile && !repairing s k then
    report (setJob s k { j with poisoned := j.poisoned.filter (· ≠ tile) }) 0x0506 none k 0 (leBytes 2 tile ++ leBytes 1 1)
  else s

/-- A wrapping count. -/
def bumpWrap (s : State) (off : Nat) : State := rsetN s off (rg s off + 1)

/-- The tile is the latest used of the hot area; the least recently used one gives way (R102). -/
def installTile (s : State) (t : Nat × Nat) : State :=
  { s with hot := (t :: s.hot.filter (· ≠ t)).take (rf s 0xB0000 24 16) }

def noteTile (s : State) (tile : Nat) (w : Option (Nat × Nat)) : State :=
  match w with
  | some w => setLane s w.1 { lane s w.1 with objs := (lane s w.1).objs.map (fun o => if o.key = w.2 then { o with tiles := tile :: o.tiles } else o) }
  | none => s

/-- A tile is read, for an object where one is named: from the hot area, or from DRAM under class 0 (R102, R103). -/
def readTile (s : State) (t : TileRead) (w : Option (Nat × Nat)) : State :=
  let k := refSlot s t.job
  let j := job s k
  if j.st ≠ .ready ∨ tileCount j.img.design ≤ t.tile then s
  else if j.poisoned.contains t.tile then tileStale s w
  else if (s.hot.take (rf s 0xB0000 24 16)).contains (k, t.tile) then noteTile (installTile (bumpWrap s 0xB0010) (k, t.tile)) t.tile w
  else
    let s := chargeDram (bumpWrap s 0xB0014) 0 65536
    if t.bad then poisonTile s k t.tile w else noteTile (installTile s (k, t.tile)) t.tile w

/-- Where no `rd` is given the repair of the tile ends; else a read for that object finds it poisoned. -/
def execRefRepair (job tile : Nat) (rd : Option (Nat × Nat)) (s : State) : Res :=
  let k := refSlot s job
  .next (if isReady s && decide ((Machine.job s k).st = .ready) && decide (tile < tileCount (Machine.job s k).img.design) then
      (match rd with
       | some w => if (objOf s w.1 w.2).isSome then poisonTile s k tile (some w) else s
       | none => tileRepaired s k tile)
    else s)

end Sys2Proof.Machine
end

