-- ==== Sys2Proof/Machine/Adaptation.lean ====
section
/-! DEFINITION. Make-ready adaptation: parameters, samples, their order, training steps, evaluation and commit
(R232 to R251, R289). -/

namespace Sys2Proof.Machine

/-! ### Random draws and order (R239, R240) -/

def w64 (x : Nat) : Nat := x % 2 ^ 64

def mix64 (z : Nat) : Nat :=
  let z := z ^^^ (z >>> 30)
  let z := w64 (z * 0xBF58476D1CE4E5B9)
  let z := z ^^^ (z >>> 27)
  let z := w64 (z * 0x94D049BB133111EB)
  z ^^^ (z >>> 31)

def draw (seed e i d : Nat) : Nat :=
  let k := mix64 (w64 seed ^^^ 0x5851F42D4C957F2D)
  let c := w64 (e * 2 ^ 48) ||| (i * 2 ^ 24) ||| d
  mix64 (mix64 (w64 (c * 0x9E3779B97F4A7C15 + k)) ^^^ k)

/-- unif(x), exact. -/
def unif (x : Nat) : FV := fq (x >>> 40 : Nat) (2 ^ 24)

/-- Rounds of the Feistel permutation on (lo, hi). -/
def feistel (seed e a c : Nat) : List Nat → Nat × Nat → Nat × Nat
  | [], p => p
  | i :: t, (lo, hi) =>
    let r := draw seed e 0xFFFFFF i
    if i % 2 = 0 then feistel seed e a c t (lo ^^^ (mix64 (r ^^^ hi) % 2 ^ c), hi)
    else feistel seed e a c t (lo, hi ^^^ (mix64 (r ^^^ lo) % 2 ^ a))

def perm (seed e b x : Nat) : Nat :=
  let a := b / 2
  let c := b - a
  let p := feistel seed e a c [0, 1, 2, 3] (x % 2 ^ c, x / 2 ^ c)
  p.2 * 2 ^ c + p.1

/-- Cycle-walking; a cycle of the permutation has at most 2^b members. -/
def cycleWalk (seed e b n : Nat) : Nat → Nat → Nat
  | 0, y => y
  | k + 1, y => if y < n then y else cycleWalk seed e b n k (perm seed e b y)

def ceilLog2 (n : Nat) : Nat := if n ≤ 1 then 0 else Nat.log2 (n - 1) + 1

def order (seed p e n : Nat) : Nat :=
  if n = 1 then 0 else cycleWalk seed e (ceilLog2 n) n (2 ^ ceilLog2 n) (perm seed e (ceilLog2 n) p)

/-! ### Parameters (R232 to R235, R289) -/

def adParam (bs : List Byte) : AdParam :=
  { seed := le bs 0 8, master := le bs 8 4, decLimit := le bs 0xC 4, work := le bs 0x10 8, hostAug := le bs 0x18 8,
    laneMask := le bs 0x20 4, lr := le bs 0x24 4, lrMin := le bs 0x28 4, warmup := le bs 0x2C 4, b1 := le bs 0x30 4,
    b2 := le bs 0x34 4, eps := le bs 0x38 4, wd := le bs 0x3C 4, alpha := le bs 0x40 4, ainit := le bs 0x44 4,
    aug := (List.range 6).map (fun i => le bs (0x48 + 4 * i) 4), gainMin := le bs 0x60 4, hold := le bs 0x64 2,
    holdMin := le bs 0x66 2, capObjs := le bs 0x68 2, gslots := le bs 0x6A 2, srcJob := le bs 0x6C 1, model := le bs 0x6D 1,
    sites := le bs 0x6E 1, rank := le bs 0x6F 1, epochs := le bs 0x70 1, augMode := le bs 0x71 1, batch := le bs 0x72 2,
    done := le bs 0x74 2, noRegress := bit (le bs 0x76 1) 0 }

/-- lo <= x <= hi, or x < hi, for FP32 codes; NaN and infinities fail. -/
def inF (lo : FV) (hi : FV) (c : Nat) : Bool := fle lo (fp32Of c) && fle (fp32Of c) hi
def fzero : FV := .zero false
def unitF (c : Nat) : Bool := fle fzero (fp32Of c) && flt (fp32Of c) (fint 1)
def posF (c : Nat) : Bool := flt fzero (fp32Of c) && inF fzero (fmax fp32) c
def nonnegF (c : Nat) : Bool := inF fzero (fmax fp32) c
def inN (lo hi x : Nat) : Bool := decide (lo ≤ x) && decide (x ≤ hi)

/-- Upper limits of ROT, SCL, SHIFT, GAIN, OFS, NOISE, each as the FP32 value nearest to it. -/
def augMax : List FV := [fint 5, rn32 (fq 1 10), fint 8, fq 1 4, fint 32, fint 16]

/-- (j, K, N) of every adapted site in order (R232, R234). -/
def sitesOf (p : AdParam) (m : ModelImg) : List (Nat × Nat × Nat) :=
  let dim (i : Nat) : Nat × Nat := m.dims.getD i (0, 0)
  (if m.detector then []
   else ((List.range m.layers).map (fun l => ((List.range 4).filter (fun i => p.sites.testBit i)).map (fun i => (4 * l + i, (dim i).1, (dim i).2)))).flatten) ++
  (if m.detector && p.sites.testBit 4 then [(0, (dim 4).1, (dim 4).2)] else [])

/-- The selected sites exist with weights that can be adapted, and no attention is RING or COARSE (R232). -/
def sitesOk (p : AdParam) (m : ModelImg) : Bool :=
  !m.longSeq && decide (p.sites < 32) &&
  (List.range 5).all (fun i => !p.sites.testBit i || (m.sites.testBit i && decide (m.detector = decide (i = 4))))

def paramCount (p : AdParam) (m : ModelImg) : Nat := ((sitesOf p m).map (fun x => p.rank * (x.2.1 + x.2.2))).foldl (· + ·) 0

/-- Half-open Darkroom ranges that MASTER must not meet. -/
def drkTaken (s : State) : List (Nat × Nat) :=
  ((List.range 4).filter (fun b => (sb s b).isSome)).map (fun b => (sbBase s b, sbBase s b + sbSlots s b * sbPitch s b)) ++
  [(Config.hotArea 0, Config.hotArea 0 + rf s 0xB0000 24 16 * 65536), (Config.hotArea 1, Config.hotArea 1 + rf s 0x80010 8 0 * 65536)]

def masterOk (s : State) (a n : Nat) : Bool :=
  decide (a + n ≤ drkSize) && (drkTaken s).all (fun r => decide (r.1 = r.2) || !meets a (a + n) r.1 r.2)

/-- The ranges of R235. -/
def paramOk (s : State) (p : AdParam) : Bool :=
  let j := job s p.srcJob
  decide (p.srcJob < 64) && decide (j.st = .ready) && decide (p.model < j.img.models.length) &&
  [4, 8, 16, 32, 64].contains p.rank && posF p.alpha && posF p.ainit && inN 1 64 p.epochs && inN 1 256 p.batch &&
  nonnegF p.lr && nonnegF p.lrMin && fle (fp32Of p.lrMin) (fp32Of p.lr) && unitF p.b1 && unitF p.b2 && posF p.eps && nonnegF p.wd &&
  decide (p.augMode ≤ 2) && (p.aug.zip augMax).all (fun e => inF fzero e.2 e.1) && inN 8 512 p.hold && inN 1 p.hold p.holdMin &&
  unitF p.gainMin && inN 1 256 p.capObjs && inN 2 256 p.gslots && inN 100 1000000 p.decLimit &&
  decide (p.warmup ≤ p.epochs * ceilDiv (2048 - p.hold) p.batch) &&
  decide (p.work < dramSize s) && (decide (p.augMode ≠ 2) || devRangeOk s p.hostAug 1)

/-- FP32 codes as they lie in memory. -/
def fpBytes (l : List Nat) : List Byte := (l.map (leBytes 4)).flatten

/-- Parameters of an adaptation. -/
def paramsOf (a : Adapt) : Nat := a.theta.length

/-- The masters and the moments are written to buffer `b` of MASTER and WORK: masters at 4 n b, m and v at 8 n b (R234, R245; the
order within a buffer is a DESIGN CHOICE, notes/assumptions/46.md). -/
def putBuffer (s : State) (a : Adapt) (b : Nat) : State :=
  storeBytes (storeBytes s (drkBase + a.p.master + 4 * paramsOf a * b) (fpBytes a.theta)) (a.p.work + 8 * paramsOf a * b) (fpBytes (a.m ++ a.v))

/-- At ADAPT_OPEN the masters are in the buffer in use, and the moments +0 in both. -/
def initBuffers (s : State) (a : Adapt) : State :=
  storeBytes (putBuffer s a 0) (a.p.work + 8 * paramsOf a) (fpBytes (a.m ++ a.v))

/-- A of site j: element (i, k) is rn32((2 unif - 1) AINIT); B is +0 (R234). -/
def initSite (p : AdParam) (x : Nat × Nat × Nat) : List Nat :=
  ((List.range p.rank).map (fun i => (List.range x.2.1).map (fun k =>
    enc fp32 (fmul (fsub (fmul (fint 2) (unif (draw p.seed 0xFFFF (x.1 * 64 + i) k))) (fint 1)) (fp32Of p.ainit))))).flatten ++
  List.replicate (x.2.2 * p.rank) 0

def freeAdapt (s : State) : Option Nat := (List.range 4).find? (fun k => decide (adapt s k = none))

def adaptOpen (s : State) (f : Flight) (a : Nat) : State :=
  let bs := rdBytes s a 128
  let p := adParam bs
  if !devRangeOk s a 128 then complete s f stBadParam 0x10 0
  else if (poisonIn s a 128).isSome then complete s f stPoisoned 0 0
  else if !(((bs.drop 0x77).take 9).all (fun b => decide (b = 0)) && decide (le bs 0x76 1 < 2) && paramOk s p) then complete s f stBadParam 0x10 0
  else
    let m := ((job s p.srcJob).img.models[p.model]?).getD {}
    let n := paramCount p m
    if !sitesOk p m || !masterOk s p.master (8 * n) || !decide (p.work + 16 * n + 4 * n * p.gslots ≤ dramSize s) then complete s f stBadParam 0x10 0
    else
      match freeAdapt s with
      | none => complete s f stNoResource 0 0
      | some k =>
        let x : Adapt := { p := p, theta := ((sitesOf p m).map (initSite p)).flatten, m := List.replicate n 0, v := List.replicate n 0 }
        complete (signalExt (setAdapt (chargeDram (initBuffers s x) 2 (16 * n)) k (some x)) p.done 1) f stOk 0 k

def execAdaptOpen (c : Cmd) (param : Nat) (s : State) : Res :=
  .next (accept s c 0xA0 [] (fun s f => adaptOpen s f param))

/-! ### Samples (R236, R237) -/

def maxSamples : Nat := 2048

/-- Insertion by a key, and the sort it makes. -/
def insBy {α : Type} (key : α → Nat) (x : α) : List α → List α
  | [] => [x]
  | y :: t => if key x ≤ key y then x :: y :: t else y :: insBy key x t
def sortBy {α : Type} (key : α → Nat) : List α → List α
  | [] => []
  | x :: t => insBy key x (sortBy key t)

/-- Captured objects of the lane with numbers first to last, in order. -/
def confirmed (a : Adapt) (n first last : Nat) : List CapObj :=
  let off (q : CapObj) : Nat := (q.seq + 2 ^ 32 - first) % 2 ^ 32
  let m := (last + 2 ^ 32 - first) % 2 ^ 32
  let l := a.ring.filter (fun q => decide (q.lane = n) && decide (off q ≤ m))
  sortBy off l

/-- Pixels of the largest crop that augmentation takes (R242). -/
def maxPixels : Nat := 2 ^ 24 - 16

/-- The sample is refused at addition: its label, or a crop of too many pixels (R237, R242). -/
def refusedAt (x : AdSample) : Bool := x.refused || decide (maxPixels < x.w * x.h)

/-- Add objects whole while there is room: samples, objects added, objects refused, whether a sample was refused. -/
def addObjs : List CapObj → List AdSample × Nat × Nat × Bool → List AdSample × Nat × Nat × Bool
  | [], r => r
  | o :: t, (ss, add, ref, bad) =>
    let fs := o.fields.filter (fun x => !refusedAt x)
    let b := bad || o.fields.any refusedAt
    if ss.length + fs.length ≤ maxSamples then addObjs t (ss ++ fs, add + 1, ref, b) else addObjs t (ss, add, ref + 1, b)

def c16 (n : Nat) : Nat := min 65535 n

def adaptConfirm (s : State) (f : Flight) (first last k n : Nat) : State :=
  match adapt s k with
  | none => complete s f stBadState 0 0
  | some a =>
    if a.st ≠ .opened then complete s f stBadState 0 0
    else
      let l := confirmed a n first last
      let (ss, add, ref, bad) := addObjs l (a.samples, 0, 0, false)
      let lost := (last + 2 ^ 32 - first) % 2 ^ 32 + 1 - l.length
      let s := setAdapt s k (some { a with samples := ss, missed := 0 })
      complete s f (if bad then stBadParam else stOk) 0 (c16 add + c16 ref * 2 ^ 16 + c16 lost * 2 ^ 32 + c16 a.missed * 2 ^ 48)

def execAdaptConfirm (c : Cmd) (first last ad lane : Nat) (s : State) : Res :=
  .next (accept s c 0xA1 [(decide (ad < 4), 0x18), (decide (lane < 32), 0x19)] (fun s f => adaptConfirm s f first last ad lane))

/-- Output cells of a detector head over a crop: one class each, a byte in the class map. -/
def outCells (m : ModelImg) (w h : Nat) : Nat := if m.detector then ceilDiv w m.cell * ceilDiv h m.cell else 0

def adaptSample (s : State) (f : Flight) (src lbl map len w h ll k kind : Nat) : State :=
  match adapt s k with
  | none => complete s f stBadState 0 0
  | some a =>
    let md := adModel s a
    if a.st ≠ .opened then complete s f stBadState 0 0
    else if !rangeOk s src len then complete s f stBadParam 0x10 0
    else if ll ≠ 0 ∧ !rangeOk s lbl ll then complete s f stBadParam 0x18 0
    else if md.detector && !rangeOk s map (outCells md w h) then complete s f stBadParam 0x20 0
    else if maxPixels < w * h ∨ (kind = 0 ∧ len ≠ w * h) then complete s f stBadParam 0x28 0
    else if hostFail f.c (if md.detector then [src, lbl, map] else [src, lbl]) then complete s f stHostErr 0 0
    else if (poisonIn s src len).isSome || (poisonIn s lbl ll).isSome || (poisonIn s map (outCells md w h)).isSome then complete s f stPoisoned 0 0
    else
      let t := labelToks s md md.split (rdBytes s lbl ll)
      if !md.detector && t.2 then complete s f stBadParam 0x30 0
      else if maxSamples ≤ a.samples.length then complete s f stNoResource 0 0
      else
        let x : AdSample := { jpeg := decide (kind = 1), w := w, h := h, crop := rdBytes s src len, label := rdBytes s lbl ll,
                              map := rdBytes s map (outCells md w h), toks := if md.detector then [] else t.1 }
        let n := dramOf s src len + dramOf s lbl ll + dramOf s map (outCells md w h)
        complete (chargeDram (setAdapt s k (some { a with samples := a.samples ++ [x] })) 2 n) f stOk 0 a.samples.length

def execAdaptSample (c : Cmd) (src lbl map len w h lblLen ad kind : Nat) (s : State) : Res :=
  .next (accept s c 0xA2 [(decide (ad < 4), 0x32), (decide (kind < 2), 0x33)]
    (fun s f => adaptSample s f src lbl map len w h lblLen ad kind))

/-! ### The run (R238, R241, R247, R250) -/

/-- Held-out sample indices, and the training samples in ascending index. -/
def heldOut (a : Adapt) : List Nat := (List.range a.p.hold).map (fun p => order a.p.seed p 0xFFFE a.n)
def trainIdx (a : Adapt) : List Nat := (List.range a.n).filter (fun i => !(heldOut a).contains i)
def nTrain (a : Adapt) : Nat := a.n - a.p.hold
def batchesPer (a : Adapt) : Nat := ceilDiv (nTrain a) (max 1 a.p.batch)
def tSteps (a : Adapt) : Nat := a.p.epochs * batchesPer a

/-- Epoch of the open batch, its first position, its size. -/
def epochOf (a : Adapt) : Nat := a.t / max 1 (batchesPer a)
def batchStart (a : Adapt) : Nat := a.t % max 1 (batchesPer a) * a.p.batch
def batchSize (a : Adapt) : Nat := min a.p.batch (nTrain a - batchStart a)

/-- Sample index of a position of the open batch. -/
def sampleOf (a : Adapt) (slot : Nat) : Nat :=
  (trainIdx a).getD (order a.p.seed (batchStart a + slot) (epochOf a) (nTrain a)) 0

/-- The decode slot that the run holds for JPEG samples (R237). -/
def takeStream (s : State) (a : Adapt) : Option (State × Option Nat) :=
  if a.samples.any (·.jpeg) then
    (match freeStream s with
     | none => none
     | some k => some (setStream s k { st := .opened, held := true, jpeg := true, ageMax := a.p.decLimit, cls := 2 }, some k))
  else some (s, none)

def adaptRun (s : State) (f : Flight) (k : Nat) : State :=
  match adapt s k with
  | none => complete s f stBadState 0 0
  | some a =>
    if a.evaluating then complete s f stBadState 0 0
    else if a.st = .opened then
      (if a.samples.length < 2 * a.p.hold ∨ tSteps { a with n := a.samples.length } < a.p.warmup then complete s f stBadParam 0x10 0
       else
         match takeStream s a with
         | none => complete s f stNoResource 0 0
         | some (s, st) =>
           complete (adaptMove (setAdapt s k (some { a with n := a.samples.length, stream := st, ring := [] })) k .training 0) f stOk 0 0)
    else if a.st = .paused ∨ ((a.st = .accepted ∨ a.st = .rejected) ∧ a.fromPause) then
      complete (adaptMove (setAdapt s k (some { a with slots := [], fed := [], gslot := [], snap := [] })) k .training 0) f stOk 0 0
    else complete s f stBadState 0 0

def execAdaptRun (c : Cmd) (ad : Nat) (s : State) : Res :=
  .next (accept s c 0xA3 [(decide (ad < 4), 0x10)] (fun s f => adaptRun s f ad))

def adaptPause (s : State) (f : Flight) (k : Nat) : State :=
  match adapt s k with
  | some a =>
    if a.st = .training then defer (setAdapt s k (some { a with pausing := true })) f (.adaptPause k) [] else complete s f stBadState 0 0
  | none => complete s f stBadState 0 0

def execAdaptPause (c : Cmd) (ad : Nat) (s : State) : Res :=
  .next (accept s c 0xA4 [(decide (ad < 4), 0x10)] (fun s f => adaptPause s f ad))

/-! ### Augmentation (R242, R243) -/

/-- The values that augment one sample in one epoch. -/
structure AugPar where
  theta : FV
  sigma : FV
  tx : FV
  ty : FV
  g : FV
  o : FV
  noise : FV
  deriving DecidableEq, Repr

/-- 2u - 1 for the draw of a sample in an epoch, exact. -/
def sgnDraw (a : Adapt) (e i d : Nat) : FV := fsub (fmul (fint 2) (unif (draw a.p.seed e i d))) (fint 1)

/-- A seeded limit times its draw, rounded once. -/
def augDraw (a : Adapt) (e i d : Nat) : FV := rn32 (fmul (sgnDraw a e i d) (fp32Of (a.p.aug.getD d 0)))

/-- The record of a sample and an epoch at HOST_AUG (R243). -/
def hostRec (s : State) (a : Adapt) (e i : Nat) : List Nat :=
  (List.range 7).map (fun k => rdLe s (a.p.hostAug + (e * a.n + i) * 32 + 4 * k) 4)

def isFiniteCode (c : Nat) : Bool := match fp32Of c with | .zero _ => true | .num _ _ => true | _ => false

/-- A record with a value that is not finite, or with sigma <= 0 (R243). -/
def hostRecBad (s : State) (a : Adapt) (e i : Nat) : Bool :=
  decide (a.p.augMode = 2) &&
    (!(hostRec s a e i).all isFiniteCode || !flt fzero (fp32Of ((hostRec s a e i).getD 1 0)))

/-- SEEDED draws, or the values of the host's record. -/
def augPar (s : State) (a : Adapt) (e i : Nat) : AugPar :=
  if a.p.augMode = 2 then
    let r (k : Nat) : FV := fp32Of ((hostRec s a e i).getD k 0)
    ⟨r 0, r 1, r 2, r 3, r 4, r 5, r 6⟩
  else
    ⟨augDraw a e i 0, rn32 (fadd (fint 1) (augDraw a e i 1)), rn32 (fmul (sgnDraw a e i 2) (fp32Of (a.p.aug.getD 2 0))),
      rn32 (fmul (sgnDraw a e i 3) (fp32Of (a.p.aug.getD 2 0))), rn32 (fadd (fint 1) (rn32 (fmul (sgnDraw a e i 4) (fp32Of (a.p.aug.getD 3 0))))),
      rn32 (fmul (sgnDraw a e i 5) (fp32Of (a.p.aug.getD 4 0))), fp32Of (a.p.aug.getD 5 0)⟩

def rmul (x y : FV) : FV := rn32 (fmul x y)
def radd (x y : FV) : FV := rn32 (fadd x y)
def rsub (x y : FV) : FV := rn32 (fsub x y)

/-- Floor of a finite value. -/
def fvFloor : FV → Int
  | .num n d => n / (d : Int)
  | _ => 0

/-- Pixel (x, y) of a crop; outside it the nearest edge pixel. -/
def edgePix (w h : Nat) (p : List Nat) (x y : Int) : FV :=
  fint ((p.getD ((max 0 (min ((h : Int) - 1) y)).toNat * w + (max 0 (min ((w : Int) - 1) x)).toNat) 0 : Nat) : Int)

/-- The bilinear sample of R242, evaluated left to right. -/
def bilinear (w h : Nat) (p : List Nat) (xs ys : FV) : FV :=
  let x0 := fvFloor xs
  let y0 := fvFloor ys
  let fx := rsub xs (fint x0)
  let fy := rsub ys (fint y0)
  let ux := rsub (fint 1) fx
  let uy := rsub (fint 1) fy
  radd (radd (radd (rmul (rmul ux uy) (edgePix w h p x0 y0)) (rmul (rmul fx uy) (edgePix w h p (x0 + 1) y0)))
    (rmul (rmul ux fy) (edgePix w h p x0 (y0 + 1)))) (rmul (rmul fx fy) (edgePix w h p (x0 + 1) (y0 + 1)))

/-- A value as a pixel, half to even and clamped; a value that is not a number is open. -/
def toPixel (free : Nat) : FV → Nat
  | .nan => free % 256
  | x => (toInt 0 255 x).1.toNat

/-- One pixel of the augmented crop; `n` is its noise. -/
def augPixel (free w h : Nat) (p : List Nat) (q : AugPar) (cs sn n : FV) (x y : Nat) : Nat :=
  let cx := rn32 (fq ((w : Int) - 1) 2)
  let cy := rn32 (fq ((h : Int) - 1) 2)
  let dx := rsub (rsub (fint x) cx) q.tx
  let dy := rsub (rsub (fint y) cy) q.ty
  let xs := radd cx (rn32 (fdiv (radd (rmul cs dx) (rmul sn dy)) q.sigma))
  let ys := radd cy (rn32 (fdiv (rsub (rmul cs dy) (rmul sn dx)) q.sigma))
  toPixel free (radd (radd (rmul (bilinear w h p xs ys) q.g) q.o) n)

/-- The crop that goes forward (R242): the sample's own with AUG_MODE = NONE, else augmented. -/
def augCrop (s : State) (a : Adapt) (e i w h : Nat) (p : List Nat) : List Nat :=
  if a.p.augMode = 0 then p
  else
    let q := augPar s a e i
    let cs := rn32 (fvCos q.theta)
    let sn := rn32 (fvSin q.theta)
    (List.range (w * h)).map (fun k =>
      augPixel (freshVal s) w h p q cs sn (rn32 (fmul (sgnDraw a e i (16 + k)) q.noise)) (k % w) (k / w))

/-- What the sample of a position feeds forward; a JPEG sample's pixels are decoded at each use (R237). -/
def fedCrop (s : State) (a : Adapt) (slot : Nat) (pixels : List Nat) : List Nat :=
  let x := a.samples.getD (sampleOf a slot) {}
  augCrop s a (epochOf a) (sampleOf a slot) x.w x.h (if x.jpeg then pixels else x.crop.map (·.toNat))

/-! ### A sample resolves (R244, R246) -/

/-- The loss: the mean of -lp over the targets, summed exactly and rounded once (R244). -/
def lossOf (lps : List Nat) : Nat :=
  enc fp32 (fdiv (lps.foldl (fun acc c => fsub acc (fp32Of c)) fzero) (fint lps.length))

/-- The targets of a sample: the tokens of its label, or the output cells of a detector head (R244). -/
def targetsOf (m : ModelImg) (x : AdSample) : Nat := if m.detector then outCells m x.w x.h else x.toks.length

/-- The sample of a position. -/
def trainAt (a : Adapt) (slot : Nat) : AdSample := a.samples.getD (sampleOf a slot) {}

/-- The operand speaks of this sample: lp of each target, one gradient element for each parameter. -/
def resFits (s : State) (a : Adapt) (slot : Nat) (r : SampleRes) : Bool :=
  r.corrupt.isSome ||
    (decide (r.lps.length = targetsOf (adModel s a) (trainAt a slot)) && decide (r.grad.length = paramsOf a))

/-- The decode of a JPEG sample is abandoned at DEC_LIMIT, or gives no picture of the sample's size (R107, R237, R246). -/
def decodeFails (a : Adapt) (slot : Nat) (r : SampleRes) : Bool :=
  let x := trainAt a slot
  x.jpeg && (decide (a.p.decLimit * 1000 ≤ r.decodeNs) || decide (r.pixels.length ≠ x.w * x.h))

/-- The sample's context faulted in this step (R246). -/
def faulted (a : Adapt) (slot : Nat) : Bool := a.bad.contains (a.t, sampleOf a slot)

/-- Why a sample is corrupt, if it is; the spec gives the causes no numbers (R246). -/
def corruptOf (s : State) (a : Adapt) (slot : Nat) (r : SampleRes) : Option Nat :=
  match r.corrupt with
  | some c => some c
  | none =>
    if !(trainAt a slot).poisoned && !faulted a slot && !decodeFails a slot r && !hostRecBad s a (epochOf a) (sampleOf a slot) && isFiniteCode (lossOf r.lps) &&
        r.grad.all isFiniteCode then none
    else some (freshVal s % 256)

/-! ### Gradient slots (R244) -/

/-- The lowest sample of the batch that has not resolved. -/
def lowestOpen (a : Adapt) : Option Nat :=
  ((List.range (batchSize a)).filter (fun i => decide (tget none a.slots i = none))).foldl (fun m i => match m with
    | none => some (sampleOf a i)
    | some x => some (min x (sampleOf a i))) none

/-- Positions whose gradient still stands in a slot: it is added, in ascending sample index, once no lower sample is open. -/
def heldSlots (a : Adapt) : List Nat :=
  (List.range (batchSize a)).filter (fun i =>
    (match tget none a.slots i with | some r => decide (r.corrupt = none) | none => false) &&
    (match lowestOpen a with | some m => decide (m < sampleOf a i) | none => false))

/-- The lowest gradient slot that no held gradient takes. -/
def freeGrad (a : Adapt) : Nat :=
  (((List.range a.p.gslots).filter (fun g => !((heldSlots a).map (tget 0 a.gslot)).contains g)).head?).getD 0

/-- A sample may take a slot: the lowest open one always, another only while two are free. -/
def mayTake (a : Adapt) (slot : Nat) : Bool :=
  decide (lowestOpen a = some (sampleOf a slot)) || decide ((heldSlots a).length + 2 ≤ a.p.gslots)

/-- The gradient is written to its slot in WORK. -/
def putGrad (s : State) (a : Adapt) (g : List Nat) : State :=
  chargeDram (storeBytes s (a.p.work + 16 * paramsOf a + 4 * paramsOf a * freeGrad a) (fpBytes g)) 2 (4 * paramsOf a)

/-- DRAM bytes that decoding a JPEG sample takes (R237, R269). -/
def jpegBytes (x : AdSample) : Nat := if x.jpeg then x.crop.length + x.w * x.h else 0

def sampleResolve (s : State) (k slot : Nat) (a : Adapt) (r : SampleRes) : State :=
  let c := corruptOf s a slot r
  let fed := if c = none then tset [] a.fed slot (fedCrop s a slot r.pixels) else a.fed
  let s := chargeDram (useFresh s) 2 (jpegBytes (trainAt a slot))
  let b := { a with slots := tset none a.slots slot (some { r with corrupt := c }), fed := fed }
  match c with
  | none => putGrad (setAdapt s k (some { b with gslot := tset 0 a.gslot slot (freeGrad a) })) a r.grad
  | some c =>
    report (setAdapt s k (some b)) 0x0701 none k 0 (leBytes 4 (sampleOf a slot) ++ leBytes 4 (a.t + 1) ++ leBytes 2 (epochOf a) ++ leBytes 1 c)

def execSampleResolve (ad slot : Nat) (res : SampleRes) (s : State) : Res :=
  .next (match adapt s ad with
    | none => s
    | some a =>
      if isReady s && decide (a.st = .training) && decide (slot < batchSize a) && decide (tget none a.slots slot = none) &&
          resFits s a slot res && mayTake a slot then
        sampleResolve s ad slot a res
      else s)

/-! ### AdamW (R244, R245) -/

def fpowN (x : FV) : Nat → FV
  | 0 => fint 1
  | n + 1 => fmul x (fpowN x n)

/-- lr(t), rounded once to FP32. -/
def lrAt (a : Adapt) (t : Nat) : FV :=
  let lr := fp32Of a.p.lr
  let mn := fp32Of a.p.lrMin
  if t ≤ a.p.warmup then rn32 (fdiv (fmul lr (fint t)) (fint a.p.warmup))
  else
    let c := degCos (180 * (t - a.p.warmup : Nat)) (tSteps a - a.p.warmup)
    rn32 (fadd mn (fmul (fmul (fq 1 2) (fsub lr mn)) (fadd (fint 1) c)))

/-- One parameter's update: theta, m and v. -/
def adamw (a : Adapt) (lr c1 c2 : FV) (th m v g : Nat) : Nat × Nat × Nat :=
  let b1 := fp32Of a.p.b1
  let b2 := fp32Of a.p.b2
  let gf := fp32Of g
  let m' := rn32 (fadd (rn32 (fmul b1 (fp32Of m))) (rn32 (fmul (rn32 (fsub (fint 1) b1)) gf)))
  let v' := rn32 (fadd (rn32 (fmul b2 (fp32Of v))) (rn32 (fmul (rn32 (fmul (rn32 (fsub (fint 1) b2)) gf)) gf)))
  let d := rn32 (fdiv (rn32 (fdiv m' c1)) (rn32 (fadd (rn32 (fsqrt (rn32 (fdiv v' c2)))) (fp32Of a.p.eps))))
  let th' := rn32 (fsub (fp32Of th) (rn32 (fmul lr (rn32 (fadd d (rn32 (fmul (fp32Of a.p.wd) (fp32Of th))))))))
  (enc fp32 th', enc fp32 m', enc fp32 v')

/-- Good gradients of the batch in ascending sample index. -/
def goodGrads (a : Adapt) : List (List Nat) :=
  let l := (List.range (batchSize a)).filterMap (fun i => match tget none a.slots i with
    | some r => if r.corrupt = none then some (sampleOf a i, r.grad) else none
    | none => none)
  (sortBy (·.1) l).map (·.2)

/-- The batch gradient of parameter i: the sum with one rounding per addition, over the count of good samples. -/
def gradAt (gs : List (List Nat)) (i : Nat) : Nat :=
  let sum := gs.foldl (fun acc g => rn32 (fadd acc (fp32Of (g.getD i 0)))) fzero
  enc fp32 (rn32 (fdiv sum (fint gs.length)))

/-- Step t of the optimiser. -/
def optStep (a : Adapt) (gs : List (List Nat)) : Adapt :=
  let t := a.t + 1
  let lr := lrAt a t
  let c1 := rn32 (fsub (fint 1) (fpowN (fp32Of a.p.b1) t))
  let c2 := rn32 (fsub (fint 1) (fpowN (fp32Of a.p.b2) t))
  let r := (List.range a.theta.length).map (fun i =>
    adamw a lr c1 c2 (a.theta.getD i 0) (a.m.getD i 0) (a.v.getD i 0) (gradAt gs i))
  { a with theta := r.map (·.1), m := r.map (·.2.1), v := r.map (·.2.2) }

def batchResolved (a : Adapt) : Bool := (List.range (batchSize a)).all (fun i => (tget none a.slots i).isSome)

/-- The step's results go to the idle buffers, which then are those in use; moments and gradients are charged as they move. -/
def putStep (s : State) (a : Adapt) (grads : Nat) : State :=
  chargeDram (putBuffer s a ((a.buf + 1) % 2)) 2 (16 * paramsOf a + 4 * paramsOf a * grads)

/-- The batch closes: a step, or a skipped batch; then the next batch, a pause, or the end of the run (R245 to R247). -/
def batchClose (s : State) (k : Nat) (a : Adapt) : State :=
  let gs := goodGrads a
  let b := if gs.isEmpty then a else { optStep a gs with buf := (a.buf + 1) % 2 }
  let s := if gs.isEmpty then report s 0x0702 none k 0 (leBytes 4 (a.t + 1) ++ leBytes 2 (epochOf a)) else putStep s { optStep a gs with buf := a.buf } gs.length
  let s := setAdapt s k (some { b with t := a.t + 1, slots := [], fed := [], gslot := [], bad := [], pausing := false })
  let s := if tSteps a ≤ a.t + 1 then adaptMove s k .trained 0 else if a.pausing then adaptMove s k .paused 0 else s
  completeAwait s (.adaptPause k) stOk 0 0

def execBatchClose (ad : Nat) (s : State) : Res :=
  .next (match adapt s ad with
    | none => s
    | some a => if isReady s && decide (a.st = .training) && batchResolved a then batchClose s ad a else s)

/-! ### Evaluation, commit, close (R248 to R251) -/

/-- A BF16 working copy of an FP32 master (R132, R234). -/
def bf16Copy (c : Nat) : Nat := enc bf16 (fp32Of c)

def adaptEval (s : State) (f : Flight) (k : Nat) : State :=
  match adapt s k with
  | none => complete s f stBadState 0 0
  | some a =>
    if a.st = .opened ∨ a.st = .training ∨ a.evaluating then complete s f stBadState 0 0
    else
      let fresh := decide (a.st = .paused) || decide (a.st = .trained)
      let a := if fresh then { a with snap := a.theta.map bf16Copy, fromPause := decide (a.st = .paused) } else a
      defer (setAdapt s k (some { a with evaluating := true })) f (.adaptEval k) []

def execAdaptEval (c : Cmd) (ad : Nat) (s : State) : Res :=
  .next (accept s c 0xA5 [(decide (ad < 4), 0x10)] (fun s f => adaptEval s f ad))

def sumN (l : List Nat) : Nat := l.foldl (· + ·) 0

/-- The mean of losses with one rounding. -/
def meanLoss (l : List Nat) : FV := rn32 (fdiv (l.foldl (fun acc c => fadd acc (fp32Of c)) fzero) (fint l.length))

/-- Distances and FP32 losses of a held-out sample, base and adapted. -/
structure Measure where
  eb : Nat
  ea : Nat
  lb : Nat
  la : Nat
  deriving DecidableEq, Repr

/-- Output cells whose argmax is not the class of the class map. -/
def cellsDiffer (map : List Byte) (cells : List Nat) : Nat :=
  ((List.range map.length).filter (fun i => decide (cells[i]? ≠ (map[i]?).map (·.toNat)))).length

/-- The distance of R248: Levenshtein between label and text, or a detector head's cells that differ. -/
def evalDistance (det : Bool) (x : AdSample) (text : List Byte) (cells : List Nat) : Nat :=
  if det then cellsDiffer x.map cells else editDistance (scalars x.label) (scalars text)

def measureOne (det : Bool) (x : AdSample) (r : EvalRes) : Measure :=
  ⟨evalDistance det x r.textB r.cellsB, evalDistance det x r.textA r.cellsA, lossOf r.lpsB, lossOf r.lpsA⟩

/-- A held-out sample counts: it is not corrupt, as R246 says of its passes and its losses. -/
def heldGood (m : ModelImg) (x : AdSample) (r : EvalRes) : Bool :=
  r.good && !x.poisoned && decide (r.lpsB.length = targetsOf m x) && decide (r.lpsA.length = targetsOf m x) && isFiniteCode (lossOf r.lpsB) &&
    isFiniteCode (lossOf r.lpsA)

/-- The measures of the good held-out samples; `res` is in the order of R238's positions. -/
def measures (s : State) (a : Adapt) (res : List EvalRes) : List Measure :=
  ((heldOut a).zip res).filterMap (fun e =>
    let x := a.samples.getD e.1 {}
    if heldGood (adModel s a) x e.2 then some (measureOne (adModel s a).detector x e.2) else none)

/-- The snapshot is ACCEPTED (R249). -/
def evalAccepts (a : Adapt) (g : List Measure) : Bool :=
  let lb := meanLoss (g.map (·.lb))
  let la := meanLoss (g.map (·.la))
  decide (a.p.holdMin ≤ g.length) && decide (sumN (g.map (·.ea)) ≤ sumN (g.map (·.eb))) &&
  fle la (rn32 (fmul lb (rn32 (fsub (fint 1) (fp32Of a.p.gainMin))))) &&
  (!a.p.noRegress || !g.any (fun r => decide (r.eb = 0) && decide (r.ea ≠ 0)))

def evalDone (s : State) (k : Nat) (a : Adapt) (res : List EvalRes) : State :=
  let g := measures s a res
  let ok := evalAccepts a g
  let loss (l : List Nat) : Nat := if l.isEmpty then freshVal s else enc fp32 (meanLoss l)
  let pay := leBytes 4 (sumN (g.map (·.eb))) ++ leBytes 4 (sumN (g.map (·.ea))) ++ leBytes 4 (loss (g.map (·.lb))) ++
    leBytes 4 (loss (g.map (·.la))) ++ leBytes 2 g.length ++ leBytes 2 (g.filter (fun r => decide (r.eb = 0) && decide (r.ea ≠ 0))).length ++
    leBytes 1 (b2n (!ok))
  let s := chargeDram s 2 (sumN ((heldOut a).map (fun i => jpegBytes (a.samples.getD i {}))))
  let s := report (useFresh (setAdapt s k (some { a with evaluating := false }))) 0x0703 none k 0 pay
  completeAwait (adaptMove s k (if ok then .accepted else .rejected) 0) (.adaptEval k) stOk 0 (b2n ok)

def execAdaptEvalComplete (ad : Nat) (res : List EvalRes) (s : State) : Res :=
  .next (match adapt s ad with
    | none => s
    | some a => if isReady s && a.evaluating then evalDone s ad a res else s)

/-- The snapshot as the adapters of its sites. -/
def bound (a : Adapt) : Adapters := ⟨a.p.model, a.p.sites, a.p.rank, a.p.alpha, a.snap⟩

def adaptCommit (s : State) (f : Flight) (k slot : Nat) : State :=
  match adapt s k with
  | none => complete s f stBadState 0 0
  | some a =>
    if a.st ≠ .accepted ∨ a.evaluating then complete s f stBadState 0 0
    else if (List.range 64).all (fun j => decide ((job s j).st ≠ .empty)) then complete s f stNoResource 0 0
    else if (job s slot).st ≠ .empty then complete s f stInUse 0 0
    else complete (setJob s slot { st := .ready, img := (job s a.p.srcJob).img, base := some a.p.srcJob, adapters := some (bound a) }) f stOk 0 0

def execAdaptCommit (c : Cmd) (ad slot : Nat) (s : State) : Res :=
  .next (accept s c 0xA6 [(decide (ad < 4), 0x10), (decide (slot < 64), 0x11)] (fun s f => adaptCommit s f ad slot))

/-- The slots and commands an adaptation still holds go with it. -/
def adaptClose (s : State) (f : Flight) (k : Nat) : State :=
  match adapt s k with
  | none => complete s f stBadState 0 0
  | some a =>
    let s := match a.stream with | some n => startPics (setStream s n {}) | none => s
    let s := completeWhere (setAdapt s k none) (fun g => decide (g.await = .adaptPause k) || decide (g.await = .adaptEval k)) stAborted 0 0
    complete s f stOk 0 0

def execAdaptClose (c : Cmd) (ad : Nat) (s : State) : Res :=
  .next (accept s c 0xA7 [(decide (ad < 4), 0x10)] (fun s f => adaptClose s f ad))

end Sys2Proof.Machine
end

