-- ==== Sys2Proof/Machine/Bed.lean ====
section
/-! DEFINITION. Proof-bed scanning (R93 to R95): the commands, the STEP entry, the line, the end of a run. -/

namespace Sys2Proof.Machine

def bed (s : State) : Bed := s.fe.bed
def setBed (s : State) (b : Bed) : State := setFe s { s.fe with bed := b }

/-- TMU_CTRL.SRC is PROOF_BED and FE_PB_CFG.EN is 1. -/
def bedMode (s : State) : Bool := decide (rf s 0x20000 1 0 = 1) && bit (rg s 0xC0070) 31

def bedSteps (s : State) : Nat := rf s 0xC0070 29 24 + 1
def rampLast (s : State) : Nat := rf s 0xC0070 23 16
def bedSettle (s : State) : Nat := rf s 0xC0070 15 0 * 100
def bedExpose (s : State) : Nat := rf s 0xC0074 15 0 * 10
def bedLines (s : State) : Nat := rf s 0xC0078 23 0
def rampNs (s : State) (k : Nat) : Nat := rg s (0x510000 + 4 * k) * 10

/-- The steps of a group along the ramp: its time and the ramp position after it. -/
def rampWalk (s : State) (up : Bool) : Nat → Nat → Nat → Nat × Nat
  | 0, k, t => (t, k)
  | n + 1, k, t => rampWalk s up n (if up then min (k + 1) (rampLast s) else k - 1) (t + rampNs s k)

/-- The steady line period: a group at the last ramp entry, its settle time and its exposure (R93). -/
def steadyNs (s : State) : Nat := bedSteps s * rampNs s (rampLast s) + bedSettle s + bedExpose s

/-- Arm a STEP entry for the bed's next group at a device time; while no entry is free the group waits for one. -/
def armStep (s : State) (at' dir : Nat) : State :=
  match freeEntry s with
  | none => setBed s { bed s with want := some (at', dir) }
  | some k => armHw (setBed s { bed s with want := none }) k .bed true 1 0 0 (bedSteps s) dir at'

/-- A group that waited for a Shutter entry takes the first that is free. -/
def bedRetry (s : State) : State :=
  match (bed s).want with
  | none => s
  | some g => armStep s g.1 g.2

def freeBedEntries (s : State) : State :=
  ((s.sht.filter (fun e => decide (e.2.owner = .bed))).map (·.1)).foldl (fun s k => setEnt s k {}) (setBed s { bed s with want := none })

def execPbStart (c : Cmd) (s : State) : Res :=
  .next (accept s c 0x44 [] (fun s f =>
    if !bedMode s || decide ((bed s).st ≠ .idle) then complete s f stBadState 0 0
    else if freeEntry s = none then complete s f stNoResource 0 0
    else
      let s := { s with pins := { s.pins with enOut := true, dirOut := false } }
      complete (armStep (setBed s { st := .moving }) (dt s) 0) f stOk 0 0))

/-- The bed accelerates from entry 0 (R94). -/
def bedGo (s : State) : State := armStep (setBed s { bed s with st := .moving, ramp := 0, auto := false }) (dt s) 0

/-- Every report ring is below half full. -/
def ringsLow (s : State) : Bool :=
  s.sal.rq.all (fun e => match e.2 with | some r => decide (2 * r.unread.length < ringSize r.log2) | none => true)

/-- An automatic pause ends once every report ring is below half full (R94). -/
def bedResumeAuto (s : State) : State :=
  if (bed s).auto ∧ (bed s).st = .paused ∧ ringsLow s then bedGo s else s

/-- The bed stands at entry 0 between groups. -/
def bedStops (s : State) : State :=
  let s := freeBedEntries s
  bedResumeAuto (completeAwait (flag (setBed s { bed s with st := .paused }) 0xC0004 2) .pbPause stOk 0 0)

def execPbPause (c : Cmd) (s : State) : Res :=
  .next (accept s c 0x45 [] (fun s f =>
    match (bed s).st with
    | .moving =>
      let s := defer (setBed s { bed s with st := .slowing, auto := false }) f .pbPause []
      if (bed s).ramp = 0 ∧ (bed s).stepped = false then bedStops s else s
    | .slowing => defer (setBed s { bed s with auto := false }) f .pbPause []
    | .paused => complete (setBed s { bed s with auto := false }) f stOk 0 0
    | _ => complete s f stBadState 0 0))

def execPbResume (c : Cmd) (s : State) : Res :=
  .next (accept s c 0x46 [] (fun s f =>
    if (bed s).st = .paused then complete (bedGo s) f stOk 0 0 else complete s f stBadState 0 0))

/-- A group of steps issues and its entry frees (R66). Under way the group's line falls due after the settle time (R93); on the way
home the next group follows as soon as this one's steps end (R95). -/
def stepFire (s : State) (k : Nat) : State :=
  let b := bed s
  let e := ent s k
  let (t, r) := rampWalk s (decide (b.st = .moving) || decide (b.st = .homing)) e.len b.ramp 0
  let s := setEnt { s with pins := { s.pins with stepOut := s.pins.stepOut + e.len, dirOut := bit e.par 0 } } k {}
  if b.st = .homing then
    let s := setBed s { b with ramp := r, back := b.back - 1, stepped := decide (b.back ≤ 1), readyAt := dt s + t }
    if b.back ≤ 1 then s else armStep s (dt s + t) 1
  else setBed s { b with ramp := r, stepped := true, readyAt := dt s + t + bedSettle s }

def execStepFire (entry : Nat) (s : State) : Res :=
  let e := ent s entry
  .next (if isReady s && e.armed && decide (e.typ = 1) && decide (e.target ≤ dt s) then stepFire s entry else s)

/-- Web time gains one line and the line triggers due fire (R55, R93). -/
def bedLine (s : State) : State :=
  let s := advanceTo s (s.tmu.line + 1) s.tmu.rem s.tmu.frac
  ((trigEntries s).filter (fun k => trigDue s (ent s k))).foldl fireTrig s

/-- The step group's line. After the last line of the run the line-trigger generator stops (R95); a run of PB_LINES = 0 ends with its
first line (DESIGN CHOICE, notes/assumptions/77.md). -/
def lineStep (s : State) : State :=
  let b := bed s
  let s := bedLine (setBed s { b with stepped := false, pos := b.pos + 1 })
  if bedLines s ≤ b.pos + 1 then
    let s := (trigEntries s).foldl (fun s k => setEnt s k {}) s
    setBed s { bed s with st := .ending, readyAt := dt s + steadyNs s }
  else if (bed s).st = .slowing ∧ (bed s).ramp = 0 then bedStops s
  else armStep s (dt s + bedExpose s) 0

def execPbLineStep (s : State) : Res :=
  .next (if isReady s && (bed s).stepped && decide ((bed s).st ≠ .homing) && decide ((bed s).readyAt ≤ dt s) then lineStep s else s)

def anyInflight (s : State) : Bool := s.lanes.any (fun e => decide (0 < inflight e.2))

/-- The bed turns for home: as many groups as the run made, along the ramp from entry 0, with no settle time and no exposure between
them (DESIGN CHOICE, notes/assumptions/77.md: R95 gives the direction and that web time holds). -/
def goHome (s : State) : State :=
  let b := bed s
  let s := completeAwait { s with pins := { s.pins with dirOut := true } } .pbPause stOk 0 0
  if b.pos = 0 then setBed { s with pins := { s.pins with enOut := false } } { pos := b.pos }
  else armStep (setBed s { st := .homing, pos := b.pos, back := b.pos }) (dt s) 1

/-- Web time runs out line by line until no object is in flight; then the bed goes home, and at home it rests (R95). -/
def runEnd (s : State) : State :=
  let b := bed s
  if b.st = .homing then setBed { s with pins := { s.pins with enOut := false } } { pos := b.pos }
  else if anyInflight s then setBed (advanceTo s (s.tmu.line + 1) s.tmu.rem s.tmu.frac) { b with readyAt := dt s + steadyNs s }
  else goHome s

def execPbRunEnd (s : State) : Res :=
  .next (if isReady s &&
        (decide ((bed s).st = .ending) && (decide ((bed s).readyAt ≤ dt s) || !anyInflight s) ||
          decide ((bed s).st = .homing) && (bed s).stepped && decide ((bed s).readyAt ≤ dt s)) then runEnd s
    else s)

end Sys2Proof.Machine
end

