-- ==== Sys2Proof/Machine/Desc.lean ====
section
/-! DEFINITION. The sequencer: fetching, checking, dispatching and issuing descriptors (R115 to R125, R187,
R188, R252 to R261), and a context's moves when they complete (R255, R257). The results of a descriptor land
at its completion, DESC_COMPLETE (notes/assumptions/13.md). -/

namespace Sys2Proof.Machine

/-! ### Fetching and reading a descriptor -/

/-- A descriptor address in DRAM or the Darkroom (R121, R253). -/
def fetchOk (s : State) (a : Nat) : Bool := devRangeOk s a 128
def descAt (s : State) (a : Nat) : List Byte := rdBytes s a 128
def descType (bs : List Byte) : Nat := le bs 0 1
def descFlags (bs : List Byte) : Nat := le bs 1 1
def descWaits (bs : List Byte) : Nat := le bs 2 1
def descTag (bs : List Byte) : Nat := le bs 4 4

def zeros (bs : List Byte) (o n : Nat) : Bool := ((bs.drop o).take n).all (· = 0)

structure Dma where
  src : Nat
  dst : Nat
  rowBytes : Nat
  rows : Nat
  sp : Nat
  dp : Nat
  grain : Nat
  dir : Bool
  deriving DecidableEq, Repr, Inhabited

inductive Op where
  | gemm (g : Gemm)
  | conv (d : Conv)
  | pool (d : Pool)
  | vec (v : Vec)
  | attn (a : Attn)
  | dma (d : Dma)
  | wait (m v : Nat)
  | signal (m a : Nat)
  | branch (cnt op : Nat) (target : Int) (value : Nat)
  deriving DecidableEq, Repr, Inhabited

def dmaOf (bs : List Byte) : Dma :=
  { src := le bs 0x10 8, dst := le bs 0x18 8, rowBytes := le bs 0x20 4, rows := le bs 0x24 4, sp := le bs 0x28 4,
    dp := le bs 0x2C 4, grain := bits (le bs 0x30 1) 1 0, dir := bit (le bs 0x30 1) 2 }

def isDramSide (s : State) (a : Nat) : Bool := decide (a < dramSize s)

/-- The checks of a DMA's own fields (R119 context). -/
def dmaOk (s : State) (d : Dma) : Bool :=
  decide (1 ≤ d.rowBytes) && decide (d.rowBytes ≤ 16777216) && decide (1 ≤ d.rows) && decide (d.rows ≤ 16777216) &&
  (decide (d.grain = 0) ||
    (xor (isDramSide s d.src) (isDramSide s d.dst) && decide (d.rowBytes % 128 = 0) && (isDramSide s d.src == d.dir)))

/-- Header checks (R119). -/
def headerOk (bs : List Byte) : Bool :=
  decide (descFlags bs < 4) && decide (descWaits bs < 32) && zeros bs 3 1 && zeros bs 8 8

/-- Read a descriptor; none where R119 or a shape rule refuses it. -/
def readDesc (s : State) (bs : List Byte) : Option Op :=
  if !headerOk bs then none
  else
    let t := descType bs
    if t = 1 then (if gemmOk (gemmOf bs) && zeros bs 0x60 32 then some (.gemm (gemmOf bs)) else none)
    else if t = 2 then
      (if convOk (convOf bs) && zeros bs 0x73 1 && zeros bs 0x7C 4 then some (.conv (convOf bs)) else none)
    else if t = 3 then (if poolOk (poolOf bs) && zeros bs 0x62 30 then some (.pool (poolOf bs)) else none)
    else if t = 4 then
      (if vecOk (vecOf bs) && decide (le bs 0x51 1 < 2) && zeros bs 0x52 2 && zeros bs 0x5C 36 then some (.vec (vecOf bs)) else none)
    else if t = 5 then
      (if attnOk (attnOf bs) && decide (le bs 0x64 1 < 16) && zeros bs 0x67 25 then some (.attn (attnOf bs)) else none)
    else if t = 6 then
      (if dmaOk s (dmaOf bs) && decide (le bs 0x30 1 < 8) && zeros bs 0x31 79 then some (.dma (dmaOf bs)) else none)
    else if t = 7 then (if zeros bs 0x12 6 && zeros bs 0x20 96 then some (.wait (le bs 0x10 2) (le bs 0x18 8)) else none)
    else if t = 8 then (if zeros bs 0x12 6 && zeros bs 0x20 96 then some (.signal (le bs 0x10 2) (le bs 0x18 8)) else none)
    else if t = 9 then
      (if decide (le bs 0x10 1 < 4) && decide (le bs 0x11 1 < 2) && zeros bs 0x12 2 && zeros bs 0x1C 100 then
        some (.branch (le bs 0x10 1) (le bs 0x11 1) (ofTwos 32 (le bs 0x14 4)) (le bs 0x18 4)) else none)
    else none

/-- The unit of a descriptor: 0 ARRAY, 1 OUTPUT, 2 VEC, 3 LOUPE, 4 DMA, 5 the sequencer (R120, R121). -/
def opUnit : Op → Nat
  | .gemm _ => 0
  | .conv d => if d.gw = 1 then 2 else 0
  | .pool _ => 1
  | .vec _ => 2
  | .attn _ => 3
  | .dma _ => 4
  | _ => 5

/-! ### Tray intervals and windows (R115, R122) -/

def isTrayAddr (a : Nat) : Bool := decide (0x4100000000 ≤ a) && decide (a < 0x4102000000)

/-- Bytes a DMA side moves in a row: the DRAM side of a Grain transfer counts compressed bytes. -/
def sideBytes (s : State) (d : Dma) (a : Nat) : Nat :=
  if d.grain ≠ 0 ∧ isDramSide s a then d.rowBytes / 128 * grainSize d.grain else d.rowBytes

def sideLen (s : State) (d : Dma) (a pitch : Nat) : Nat := (d.rows - 1) * pitch + sideBytes s d a

def dmaIvals (s : State) (c : Ctx) (d : Dma) : List Ival :=
  (if isTrayAddr d.src then [⟨trayAddr c (d.src - 0x4100000000), sideLen s d d.src d.sp, false⟩] else []) ++
  (if isTrayAddr d.dst then [⟨trayAddr c (d.dst - 0x4100000000), sideLen s d d.dst d.dp, true⟩] else [])

def intPair (f : Nat) : Bool := !isFloat f

def opIvals (s : State) (c : Ctx) : Op → List Ival
  | .gemm g => ivals c g.a false ++ ivals c g.b false ++ ivals c g.c true ++ osIvals c g.os g.b.rows (intPair g.a.fmt)
  | .conv d => ivals c d.im.opnd false ++ ivals c d.w false ++ ivals c d.out true ++ osIvals c d.os d.oc (intPair d.im.fmt)
  | .pool d => ivals c d.im.opnd false ++ ivals c d.out true
  | .vec v => ((([v.s0, v.s1, v.s2].take ((vecArity v.op).getD 0)).map (fun o => ivals c o false)).flatten) ++ ivals c v.d true
  | .attn a => ivals c a.q false ++ (if a.append then ivals c a.k false ++ ivals c a.v false else []) ++ ivals c a.o true
  | .dma d => dmaIvals s c d
  | _ => []

/-- Every extent stays in its window (R115). -/
def opInWindow (s : State) (c : Ctx) : Op → Bool
  | .gemm g => opndInWindow c g.a false && opndInWindow c g.b false && opndInWindow c g.c true && osInWindow c g.os g.b.rows (intPair g.a.fmt)
  | .conv d => opndInWindow c d.im.opnd false && opndInWindow c d.w false && opndInWindow c d.out true && osInWindow c d.os d.oc (intPair d.im.fmt)
  | .pool d => opndInWindow c d.im.opnd false && opndInWindow c d.out true
  | .vec v => ([v.s0, v.s1, v.s2].take ((vecArity v.op).getD 0)).all (fun o => opndInWindow c o false) && opndInWindow c v.d true
  | .attn a => opndInWindow c a.q false && (!a.append || (opndInWindow c a.k false && opndInWindow c a.v false)) && opndInWindow c a.o true
  | .dma d =>
    (!isTrayAddr d.src || windowOk c (d.src - 0x4100000000) (sideLen s d d.src d.sp) false) &&
    (!isTrayAddr d.dst || windowOk c (d.dst - 0x4100000000) (sideLen s d d.dst d.dp) true)
  | _ => true

/-- Each side of a DMA stays in one region (R117). -/
def dmaBadAddr (s : State) (d : Dma) : Option Nat :=
  if !(isTrayAddr d.src || devRangeOk s d.src (sideLen s d d.src d.sp)) then some d.src
  else if !(isTrayAddr d.dst || devRangeOk s d.dst (sideLen s d d.dst d.dp)) then some d.dst
  else none

/-- DRAM bytes a DMA moves (R264). -/
def dmaDram (s : State) (d : Dma) : Nat :=
  (if isDramSide s d.src then d.rows * sideBytes s d d.src else 0) + (if isDramSide s d.dst then d.rows * sideBytes s d d.dst else 0)

/-- Nominal clocks (R261). -/
def opClocks (s : State) (c : Nat) : Op → Nat
  | .gemm g => gemmClocks g.a.rows g.b.rows g.a.cols (pairKt g.a.fmt g.b.fmt) (pairLw g.a.fmt g.b.fmt) (if g.a.fmt = 5 then 2 else 1)
  | .conv d => convClocks d
  | .pool d => poolClocks d
  | .vec v => vecClocks v
  | .attn a =>
    if a.mode = 2 then (match seq s (seqKey c a.seq) with | some q => coarseClocks s (ctx s c) q a | none => attnClocks a 0)
    else attnClocks a (if a.mode = 1 then (match group s a.seq with | some r => r.g | none => 0) else 0)
  | .dma d => ceilDiv (d.rows * d.rowBytes) 64
  | _ => 0

/-- The first poisoned unit among spans (start, length). -/
def poisonSpans (s : State) (l : List (Nat × Nat)) : Option Nat := l.findSome? (fun e => if e.2 = 0 then none else poisonIn s e.1 e.2)

/-- The bytes of an operand's rows, without what lies between them, and its block codes. -/
def opndSpans (c : Ctx) (o : Opnd) : List (Nat × Nat) :=
  (List.range o.rows).map (fun r => (trayAddr c o.addr + r * o.pitch, rowBytes o)) ++
  (if isCB o.fmt then [(trayAddr c o.scale, codeBytes o)] else [])

/-- Input pixels that the executed taps of a window operation sample, as (y, x); an elided tap reads no input (R143, R147). -/
def tapPixels (h w mode kh kw oh ow : Nat) (n : Win) : List (Nat × Nat) :=
  let at1 (i : Int) (len : Nat) : Option Nat :=
    if inImg i len then some i.toNat else if mode = 2 then some (clampIdx i len) else if mode = 3 then some (refl i len) else none
  let ys := ((List.range oh).map (fun o => (List.range kh).filterMap (fun t => at1 (samp o n.sy t n.dy n.pt) h))).flatten.eraseDups
  let xs := ((List.range ow).map (fun o => (List.range kw).filterMap (fun t => at1 (samp o n.sx t n.dx n.pl) w))).flatten.eraseDups
  (ys.map (fun y => xs.map (fun x => (y, x)))).flatten

/-- Bytes of the pixels of an image, and of their block codes. -/
def pixelSpans (c : Ctx) (i : Img) (l : List (Nat × Nat)) : List (Nat × Nat) :=
  let o := i.opnd
  let n := i.c * elemBits i.fmt
  l.map (fun p => (trayAddr c i.addr + p.1 * o.pitch + p.2 * n / 8, ceilDiv ((p.2 + 1) * n) 8 - p.2 * n / 8)) ++
  (if isCB i.fmt then l.map (fun p => (trayAddr c i.scale + p.1 * (o.cols / 32) + p.2 * (i.c / 32), i.c / 32)) else [])

def osSpans (c : Ctx) (o : OutStage) (n : Nat) (intPair : Bool) : List (Nat × Nat) := (osIvals c o n intPair).map (fun i => (i.addr, i.len))

/-- The bytes of the Tray that a descriptor reads. -/
def traySpans (s : State) (c : Ctx) : Op → List (Nat × Nat)
  | .gemm g => opndSpans c g.a ++ opndSpans c g.b ++ osSpans c g.os g.b.rows (intPair g.a.fmt)
  | .conv d => pixelSpans c d.im (tapPixels d.im.h d.im.w d.im.mode d.kh d.kw d.oh d.ow d.win) ++ opndSpans c d.w ++
      osSpans c d.os d.oc (intPair d.im.fmt)
  | .pool d => pixelSpans c d.im (tapPixels d.im.h d.im.w 0 d.kh d.kw (poolOh d) (poolOw d) d.win)
  | .vec v => ([v.s0, v.s1, v.s2].take ((vecArity v.op).getD 0)).map (opndSpans c) |>.flatten
  | .attn a => opndSpans c a.q ++ (if a.append then opndSpans c a.k ++ opndSpans c a.v else [])
  | .dma d => if isTrayAddr d.src then (List.range d.rows).map (fun r => (trayAddr c (d.src - 0x4100000000) + r * d.sp, sideBytes s d d.src)) else []
  | _ => []

/-- The poisoned unit a descriptor reads, with its cause: Tray operands, then DMA sources (R116, R318, R321). -/
def readPoison (s : State) (c : Ctx) (op : Op) : Option (Nat × Nat) :=
  match poisonSpans s (traySpans s c op) with
  | some a => some (0x0201, a)
  | none =>
    match op with
    | .dma d =>
      if isTrayAddr d.src then none
      else ((List.range d.rows).findSome? (fun r => poisonIn s (d.src + r * d.sp) (sideBytes s d d.src))).map
        (fun a => (if a < dramSize s then 0x0202 else 0x0203, a))
    | _ => none

/-! ### Issue conditions (R122, R254, R260, R261, R265) -/

def mine (k : Core) (c : Nat) : List QDesc := k.q.filter (fun d => decide (d.ctx = c))

def clash (e d : List Ival) : Bool :=
  e.any (fun a => d.any (fun b => (a.write || b.write) && meets a.addr (a.addr + a.len) b.addr (b.addr + b.len)))


/-- issue_ok of R122 for a descriptor with intervals `iv`. -/
def issueOk (s : State) (c : Nat) (x : Ctx) (bs : List Byte) (u : Nat) (iv : List Ival) : Bool :=
  let k := core s x.core
  let es := mine k c
  (decide (u = 5) || decide (places k u < 4)) && decide (sbFill k < 16) &&
  (!bit (descFlags bs) 1 || es.isEmpty) &&
  !(es.any (fun e => decide (e.unit < 5) && bit (descWaits bs) e.unit)) &&
  !(es.any (fun e => clash e.ivals iv)) &&
  (!decide (descType bs = 8) || es.isEmpty)

/-- Another context on the core whose shared window overlaps is neither OPEN nor FREE (R254). -/
def sharedBlock (s : State) (c : Nat) (x : Ctx) : Bool :=
  s.ctxs.any (fun e => decide (e.1 ≠ c) && decide (e.2.core = x.core) && (x.sharedWr || e.2.sharedWr) &&
    decide (e.2.st ≠ .free) && decide (e.2.st ≠ .opened) &&
    decide (0 < e.2.shrSize) && decide (0 < x.shrSize) &&
    meets e.2.shrBase (e.2.shrBase + e.2.shrSize) x.shrBase (x.shrBase + x.shrSize))

/-- The context may be given to the sequencer at all (R255, R358). In a boundary's clock the boundary comes first (R262). -/
def runnable (s : State) (c : Nat) (x : Ctx) : Bool :=
  let k := core s x.core
  (decide (x.st = .ready) || decide (x.st = .running)) && !x.stopReq && !x.ended && !k.stop && !boundaryDue s &&
  ((!k.halted && !k.haltReq) || decide (k.stepCtx = some c)) && !sharedBlock s c x

/-- DRAM bytes known before issue. -/
def opDram (s : State) (c : Nat) : Op → Nat
  | .dma d => dmaDram s d
  | .attn a =>
    (match seq s (if a.mode = 1 then (match group s a.seq with | some r => r.leader | none => seqKey c a.seq) else seqKey c a.seq) with
     | some q => if q.paged ∨ q.region < dramSize s then 1 else 0
     | none => 0)
  | _ => 0

/-- Work of classes other than 0 queued on a unit, in nominal clocks (R261). -/
def queuedNv (s : State) (k : Core) (u : Nat) : Nat :=
  sumOf (((unitQ k u).filter (fun d => d.lead && decide ((ctx s d.ctx).cls ≠ 0))).map (·.clocks))

def nvqOk (s : State) (x : Ctx) (u clocks : Nat) : Bool :=
  decide (x.cls = 0) || decide (u = 5) ||
  (let q := queuedNv s (core s x.core) u
   (unitQ (core s x.core) u).isEmpty || decide (q + clocks ≤ rf s 0x6000C 19 0))

/-- What the context's next descriptor is and whether it can issue in this clock. -/
structure Cand where
  bs : List Byte
  op : Option Op
  unit : Nat
  iv : List Ival
  dram : Nat
  ok : Bool
  deriving DecidableEq, Repr

def cand (s : State) (c : Nat) : Cand :=
  let x := ctx s c
  let bs := descAt s x.pc
  match readDesc s bs with
  | none =>
    { bs := bs, op := none, unit := 5, iv := [], dram := 0,
      ok := runnable s c x && issueOk s c x bs 5 [] }
  | some op =>
    let u := opUnit op
    let iv := opIvals s x op
    { bs := bs, op := some op, unit := u, iv := iv, dram := opDram s c op,
      ok := runnable s c x && issueOk s c x bs u iv && nvqOk s x u (opClocks s c op) }

/-- The class's budget allows the descriptor; control descriptors are never held (R260, R265). -/
def budgetOk (s : State) (c : Nat) (k : Cand) : Bool :=
  decide (k.unit = 5) || underCap s (ctx s c).cls (ctx s c).core k.unit k.dram

/-- The tier of R260, then the class. -/
def rank (s : State) (c : Nat) (k : Cand) : Nat :=
  let x := ctx s c
  if k.unit = 5 ∨ inReserve s x.cls x.core k.unit k.dram then (if x.cls = 0 then 0 else x.cls)
  else
    let last := tget 0 s.hst.rr (x.core * 8 + k.unit)
    16 + (x.cls + 15 - last) % 16

/-- Since when the context's next descriptor has been able to issue. -/
def ableAt (s : State) (x : Ctx) : Nat := x.able.getD (dt s)

/-- Of two contexts of one class, `d` goes before `c`: the higher PRIO, then the one able to issue for longer, then the lower ID. -/
def goesFirst (s : State) (d c : Nat) : Bool :=
  let x := ctx s d
  let y := ctx s c
  decide (y.prio < x.prio) ||
    (decide (x.prio = y.prio) && (decide (ableAt s x < ableAt s y) || (decide (ableAt s x = ableAt s y) && decide (d < c))))

/-- A context on the core goes first under R260. -/
def beaten (s : State) (c : Nat) (k : Cand) : Bool :=
  let x := ctx s c
  s.ctxs.any (fun e =>
    decide (e.1 ≠ c) && decide (e.2.core = x.core) && (decide (e.2.st = .ready) || decide (e.2.st = .running)) &&
    (let j := cand s e.1
     j.ok && budgetOk s e.1 j &&
     (decide (rank s e.1 j < rank s c k) || (decide (rank s e.1 j = rank s c k) && goesFirst s e.1 c))))

/-- The context's next descriptor can issue, but for the other contexts. -/
def canIssue (s : State) (c : Nat) : Bool :=
  let x := ctx s c
  runnable s c x && fetchOk s x.pc && (let k := cand s c; k.ok && budgetOk s c k)

/-- The time at which each context became able to issue (R260). -/
def noteAble (s : State) : State :=
  { s with ctxs := s.ctxs.map (fun e => (e.1,
      if canIssue s e.1 then { e.2 with able := some (e.2.able.getD (dt s)) } else { e.2 with able := none })) }

/-! ### Completion and program end (R255, R257) -/

/-- The next descriptor is a WAIT_MARK that its mark does not satisfy. -/
def nextWait (s : State) (x : Ctx) : Option (Nat × Nat) :=
  if fetchOk s x.pc then
    (match readDesc s (descAt s x.pc) with
     | some (.wait m v) => if mark s m < v then some (m, v) else none
     | _ => none)
  else none

def inFlight (s : State) (c : Nat) : Bool := !(mine (core s (ctx s c).core) c).isEmpty

/-- Nothing is in flight: READY, WAITING, or STOPPED where a stop is requested (R255). -/
def settleIdle (s : State) (c : Nat) : State :=
  let x := ctx s c
  let (st, w) := match nextWait s x with
    | some (m, v) => (CtxSt.waiting, some (CtxWait.mark m v))
    | none => (CtxSt.ready, none)
  let x := { x with st := st, wait := w, waitSince := if st = CtxSt.waiting then dt s else x.waitSince }
  if x.stopReq then
    completeAwait (setCtx s c { x with st := .stopped, prevSt := st, stopReq := false }) (.ctxStop c) stOk 0 0
  else setCtx s c x

end Sys2Proof.Machine
end

