-- ==== Sys2Proof/Machine/Search.lean ====
section
/-! DEFINITION. Step boundaries of decoding contexts: the token selector and the search (R183 to R186), and the
end of a program (R255, R257). -/

namespace Sys2Proof.Machine

/-! ### Scores (R184) -/

def logitRow (s : State) (x : Ctx) (d : Decode) (i : Nat) : List FV :=
  let a := trayAddr x d.logits + i * (ceilDiv (4 * d.v) 64 * 64)
  (List.range d.v).map (fun v => fp32Of (rdLe s (a + 4 * v) 4))

/-- LOG2 of R140 on an FP32 value. -/
def log2q (x : FV) : FV := rn32 (flog2 (if isSubnormal fp32 (encodeF fp32 x) then .zero (fisNeg x) else x))

/-- lp of every token of a row. -/
def logProbs (z : List FV) : List FV :=
  let m := z.foldl nmax (.inf true)
  let dz := z.map (fun x => rn32 (fsub x m))
  let sum := dz.foldl (fun a x => rn32 (fadd a (exp2q x))) (.zero false)
  dz.map (fun x => rn32 (fsub x (log2q sum)))

/-- The confidence of a token. -/
def confOf (lp : FV) : Nat :=
  match fmul (exp2q lp) (fint 65536) with
  | .num n d => min 65535 (rhe n d).toNat
  | _ => 0

/-! ### The search (R185) -/

structure Choice where
  row : Nat
  tok : Nat
  score : FV
  conf : Nat
  deriving DecidableEq, Repr, Inhabited

/-- Choices of the live rows considered, in row order, then token order; with B = 1 the one choice is the RARGMAX of the logits. -/
def choices (s : State) (x : Ctx) (d : Decode) : List Choice :=
  let live := if d.stepNo = 0 then d.live.take 1 else d.live
  (live.mapIdx (fun i h =>
    let z := logitRow s x d i
    let cs := (logProbs z).mapIdx (fun v lp =>
      ({ row := i, tok := v, score := rn32 (fadd (fp32Of h.score) lp), conf := confOf lp } : Choice))
    if d.beam = 1 then (cs.drop (argmax z)).take 1 else cs)).flatten

/-- The best choice; earlier ones win ties. -/
def bestChoice : List Choice → Option Choice
  | [] => none
  | c :: t =>
    match bestChoice t with
    | none => some c
    | some b => if flt c.score b.score then some b else some c

structure Walk where
  live : List (Nat × Hyp) := []
  fin : List Hyp := []
  deriving DecidableEq, Repr

def extend (live : List Hyp) (c : Choice) : Hyp :=
  { score := enc fp32 c.score, toks := (c.tok, c.conf) :: (live.getD c.row {}).toks }

/-- Index of the worst finished hypothesis, the latest among equals. -/
def worstFin : List Hyp → Nat → Nat → FV → Nat
  | [], _, w, _ => w
  | h :: t, i, w, m => if flt m (fp32Of h.score) then worstFin t (i + 1) w m else worstFin t (i + 1) i (fp32Of h.score)

/-- A hypothesis that ends joins the finished set. -/
def joinFin (b : Nat) (fin : List Hyp) (h : Hyp) : List Hyp :=
  if fin.length < b then fin ++ [h]
  else
    let w := worstFin fin 0 0 (.inf false)
    if flt (fp32Of (fin.getD w {}).score) (fp32Of h.score) then fin.eraseIdx w ++ [h] else fin

/-- Walk down the ranking until B hypotheses are live. -/
def walk (d : Decode) : Nat → List Choice → Walk → Walk
  | 0, _, w => w
  | n + 1, cs, w =>
    if d.beam ≤ w.live.length then w
    else
      match bestChoice cs with
      | none => w
      | some c =>
        let h := extend d.live c
        let w' : Walk := if c.tok = d.endTok then { w with fin := joinFin d.beam w.fin h } else { w with live := w.live ++ [(c.row, h)] }
        walk d n (cs.filter (fun e => decide (e.row ≠ c.row) || decide (e.tok ≠ c.tok))) w'

/-- The best hypothesis, the earliest among equals. -/
def bestHyp : List Hyp → Option Hyp
  | [] => none
  | h :: t =>
    match bestHyp t with
    | none => some h
    | some b => if flt (fp32Of h.score) (fp32Of b.score) then some b else some h

/-- The search ends by its own rule (R185, 4). -/
def searchOver (d : Decode) (stepNo : Nat) (w : Walk) : Bool :=
  decide (d.maxTok ≤ stepNo) ||
  (match bestHyp w.fin with
   | none => false
   | some f =>
     match bestHyp (w.live.map (·.2)) with
     | none => true
     | some l => fle (fp32Of l.score) (fp32Of f.score))

/-- The result (R185, 5). -/
def result (fin live : List Hyp) : Hyp := ((bestHyp fin).orElse (fun _ => bestHyp live)).getD {}

def tokWord (t : Nat × Nat) : List Byte := leBytes 4 (t.1 % 65536 + t.2 % 65536 * 65536)

/-- Copy the embedding row of each new live hypothesis into NEXT_IN. -/
def putNextIn (x : Ctx) (d : Decode) (s : State) (l : List (Nat × Hyp)) : State :=
  (l.mapIdx (fun i h => (i, h))).foldl (fun s e =>
    copyBytes s (d.embed + ((e.2.2.toks.headD (0, 0)).1) * d.pitch) (trayAddr x d.nextIn + e.1 * (ceilDiv d.pitch 64 * 64)) d.pitch) s

/-! ### Beam sequences (R183, R185) -/

/-- Sequence k + i takes the page table of k + j: an internal RELEASE, then a SHARE of j's full length, read from
the tables `olds` before any move. -/
def beamTake (k : Nat) (olds : List (Option Seq)) (s : State) (ij : Nat × Nat) : State :=
  match seq s (k + ij.1), (olds.getD ij.2 none), (olds.getD ij.1 none) with
  | some q, some src, some old =>
    let n := repLen src
    let take := (List.range (ceilDiv n 64)).filterMap (fun b => (tget none src.pt b).map (fun f => (b, f)))
    let s := take.foldl (fun s e => incRef s e.2) s
    let s := (old.pt.filterMap (·.2)).foldl decRef s
    let gen := (q.gen + 1) % 2 ^ 32
    let pt := take.foldl (fun t e => tset none t e.1 (some e.2)) []
    let s := setSeq s (k + ij.1) (some { q with pt := pt, len := List.replicate q.layers n, gen := gen })
    editReport (editReport s (k + ij.1) gen q.steps .release) (k + ij.1) gen q.steps (.share (k + ij.2) n)
  | _, _, _ => s

/-- Every frame a move takes is held first, so that no frame is lost on the way. -/
def beamMove (s : State) (k : Nat) (parents : List Nat) : State × List Nat :=
  let olds := (List.range 4).map (fun i => seq s (k + i))
  let mv := ((parents.mapIdx (fun i j => (i, j))).filter (fun e => decide (e.1 ≠ e.2)))
  let held := (mv.map (fun e => match olds.getD e.2 none with | some q => q.pt.filterMap (·.2) | none => [])).flatten
  let s := held.foldl pinFrame s
  let s := mv.foldl (beamTake k olds) s
  (held.foldl unpinFrame s, mv.map (fun e => k + e.1))

/-! ### One step boundary -/

def setDec (s : State) (k : Nat) (d : Decode) : State :=
  match seq s k with
  | none => s
  | some q => setSeq s k (some { q with dec := some d })

/-- The tokens handed on at a boundary: at B = 1 the step's token, else the result at the end (R185, R211). -/
def handOn (s : State) (c : Nat) (d : Decode) (w : Walk) (finish : Bool) : State :=
  let res := result w.fin (w.live.map (·.2))
  if d.beam = 1 then
    let h := if w.fin.isEmpty then (w.live.headD (0, {})).2 else w.fin.headD {}
    match h.toks with
    | [] => s
    | t :: _ =>
      let s := detokPut (storeBytes s (d.tokbuf + 4 * d.stepNo) (tokWord t)) c t.1 t.2
      if finish then storeBytes s (d.tokbuf + 4 * (d.stepNo + 1)) (leBytes 4 0) else s
  else if finish then
    let ts := res.toks.reverse
    let s := storeBytes s d.tokbuf ((ts.map tokWord).flatten ++ leBytes 4 0)
    ts.foldl (fun s t => detokPut s c t.1 t.2) s
  else s

/-- Bytes of DRAM a boundary of a search reads from EMBED and writes to TOKBUF (R264, R269). -/
def selectDram (s : State) (d : Decode) (w : Walk) (finish : Bool) : Nat :=
  (if d.embed < dramSize s then w.live.length * d.pitch else 0) +
  (if d.tokbuf < dramSize s then
    (if d.beam = 1 then 4 + 4 * b2n finish else if finish then 4 * ((result w.fin (w.live.map (·.2))).toks.length + 1) else 0)
   else 0)

/-- The selector of sequence k at a boundary of context c; the sequences its internal edits moved. -/
def selectToken (c : Nat) (sm : State × List Nat) (k : Nat) : State × List Nat :=
  let s := sm.1
  match seq s k with
  | none => sm
  | some q =>
    match q.dec with
    | none => sm
    | some d =>
      if d.ended then sm
      else
        let x := ctx s c
        let cut := decide (d.beam = 1) && detokStopped s c
        let w := walk d 9 (choices s x d) { fin := d.fin }
        let finish := cut || searchOver d (d.stepNo + 1) w
        let s := putNextIn x d (handOn s c d w finish) w.live
        let s := chargeDram s x.cls (selectDram s d w finish)
        let mv := if finish then (s, []) else beamMove s k (w.live.map (·.1))
        let s := setDec mv.1 k { d with live := w.live.map (·.2), fin := w.fin, stepNo := d.stepNo + 1, ended := finish, waiting := false }
        let s := if finish then signalCtx (detokEnd s c) c d.done 1 else s
        (s, sm.2 ++ mv.2)

/-- Sequences of a context whose search goes on. -/
def searching (s : State) (c : Nat) : List Nat :=
  (seqsOf s c).filter (fun k => match seq s k with
    | some q => (match q.dec with | some d => !d.ended | none => false)
    | none => false)

/-- The beam sequences of searches. -/
def members (s : State) (ks : List Nat) : List Nat :=
  (ks.map (fun k => match seq s k with
    | some q => (match q.dec with | some d => (List.range d.beam).map (k + ·) | none => [])
    | none => [])).flatten

/-- The selector's Tray references stay in the context's windows (R115). -/
def searchInWindow (s : State) (c : Nat) : Bool :=
  (searching s c).all (fun k => match seq s k with
    | some q => (match q.dec with
      | some d => windowOk (ctx s c) d.logits ((d.beam - 1) * (ceilDiv (4 * d.v) 64 * 64) + 4 * d.v) false &&
                  windowOk (ctx s c) d.nextIn (d.beam * (ceilDiv d.pitch 64 * 64)) true
      | none => true)
    | none => true)

/-- The program ends: END_MARK, then OPEN (R257). A CTX_STOP that still waits has nothing left to stop. -/
def endProgram (s : State) (c : Nat) : State :=
  let x := ctx s c
  let s := signalCtx s c x.endMark x.endAdd
  completeAwait (setCtx s c { ctx s c with st := .opened, wait := none, stopReq := false, ended := false, held := false }) (.ctxStop c) stOk 0 0

/-- The context runs its program again from PROG (R257). -/
def nextStep (s : State) (c : Nat) : State :=
  let x := { ctx s c with pc := (ctx s c).prog, ended := false, st := .ready, wait := none }
  if x.stopReq then completeAwait (setCtx s c { x with st := .stopped, prevSt := .ready, stopReq := false }) (.ctxStop c) stOk 0 0
  else setCtx s c x

/-- The run of a context's program has ended: the selectors, the internal edits, the deferred edits, then the
program's end or its next step (R181, R185, R257). -/
def endRun (s : State) (c : Nat) : State :=
  let ks := searching s c
  if ks.isEmpty then endProgram (stepBoundary s c) c
  else if !detokIdle s c then
    ks.foldl (fun s k => match seq s k with
      | some q => (match q.dec with | some d => setDec s k { d with waiting := true } | none => s)
      | none => s) s
  else if !searchInWindow s c then faultCtx s c { cause := 0x0103, tier := 1 }
  else
    let r := ks.foldl (selectToken c) (countSteps s c (members s ks), [])
    let s := closeSteps r.1 c r.2
    let b := 0x300000 + (ctx s c).core * 0x10000 + 0x14
    let s := rsetN s b (rg s b + 1)
    if (searching s c).isEmpty then endProgram s c else nextStep s c

/-- A descriptor of the context has completed (R255, R328). -/
def settle (s : State) (c : Nat) : State :=
  let s := setCtx s c { ctx s c with wd := 0 }
  if (ctx s c).st ≠ .running ∨ inFlight s c then s
  else if (ctx s c).ended then endRun s c
  else settleIdle s c

def execDetokeniseToken (ctx : Nat) (s : State) : Res :=
  .next (if isReady s && !detokIdle s ctx then
      (let s := detokStep s ctx
       let x := Machine.ctx s ctx
       if x.ended && decide (x.st = .running) && !inFlight s ctx && detokIdle s ctx && !(searching s ctx).isEmpty then endRun s ctx else s)
    else s)

end Sys2Proof.Machine
end

