-- ==== Sys2Proof/Machine/Issue.lean ====
section
/-! DEFINITION. The descriptor commands: GEMM with step merging, CONV_TAP, POOL, VEC, ATTN, the control types, and
the ring barrier (R111 to R125, R167 to R178, R187, R188, R195 to R200, R257 to R265). -/

namespace Sys2Proof.Machine

/-! ### Common to every descriptor -/

/-- Set HELD: the class's budget does not allow the descriptor (R255, R265). -/
def hold (s : State) (c : Nat) : State := setCtx s c { ctx s c with held := true }

/-- The descriptor has issued: position, state, CUR_CTX, and the turn of a borrowing class (R255, R260). -/
def advance (s : State) (c : Nat) (k : Cand) : State :=
  let x := ctx s c
  let s := if 16 ≤ rank s c k ∧ k.unit < 5 then
      { s with hst := { s.hst with rr := tset 0 s.hst.rr (x.core * 8 + k.unit) x.cls } } else s
  let s := setCore s x.core { core s x.core with cur := some c, stepCtx := if (core s x.core).stepCtx = some c then none else (core s x.core).stepCtx }
  setCtx s c { x with
    pc := x.pc + 128, st := .running, held := false, wait := none, able := none, ended := bit (descFlags k.bs) 0 }

/-- Queue the descriptor on its unit. -/
def enqueue (s : State) (c : Nat) (q : QDesc) : State :=
  let n := (ctx s c).core
  setCore s n (startHeads { core s n with q := (core s n).q ++ [q] })

def mkQ (s : State) (c : Nat) (k : Cand) (op : Op) : QDesc :=
  { ctx := c, unit := k.unit, pc := (ctx s c).pc, tag := descTag k.bs, last := bit (descFlags k.bs) 0, ivals := k.iv,
    clocks := opClocks s c op, dram := k.dram, bs := k.bs }

/-- Issue on a unit: its DRAM requests are charged and it is queued; its results land at its completion (notes/assumptions/13.md). -/
def issueWith (s : State) (c : Nat) (k : Cand) (q : QDesc) : State := advance (enqueue (chargeDram s (ctx s c).cls q.dram) c q) c k

/-- The class of poison met, as TRAY_UE sets its flag (R116). -/
def faultPoison (s : State) (c : Nat) (p : Nat × Nat) : State :=
  let s := if p.1 = 0x0201 then flag s (0x200004 + (ctx s c).core * 0x20000) 5 else s
  faultDesc s c p.1 p.2

/-- Give the next descriptor of context `c` to `go` where it is of type `typ`, can issue and passes its checks; a
descriptor that fails one faults its context (R119, R122, R124). -/
def dispatch (s : State) (c typ : Nat) (go : State → Cand → Op → State) : State :=
  let x := ctx s c
  if !isReady s || !runnable s c x then s
  else if !fetchOk s x.pc then faultDesc s c 0x0102 x.pc
  else
    match poisonIn s x.pc 128 with
    | some a => faultDesc s c (if a < dramSize s then 0x0202 else 0x0203) a
    | none =>
      let k := cand s c
      if !k.ok then s
      else
        match k.op with
        | none => if descType k.bs = typ ∨ descType k.bs = 0 ∨ 9 < descType k.bs then faultDesc s c 0x0101 0 else s
        | some op =>
          if descType k.bs ≠ typ then s
          else if !budgetOk s c k then hold s c
          else if beaten s c k then s
          else if !opInWindow s x op then faultDesc s c 0x0103 0
          else
            match (match op with | .dma d => dmaBadAddr s d | _ => none) with
            | some a => faultDesc s c 0x0104 a
            | none =>
              match readPoison s x op with
              | some p => faultPoison s c p
              | none => go s k op

/-! ### GEMM (R113, R187, R188) -/

def slice16 (bs : List Byte) (o n : Nat) : List Byte := (bs.drop o).take n

/-- Context `e` can join the pass of lead `c` (R187). -/
def joins (s : State) (c : Nat) (k : Cand) (g : Gemm) (e : Nat) : Bool :=
  let j := cand s e
  decide (e ≠ c) && decide ((ctx s e).core = (ctx s c).core) && j.ok && budgetOk s e j &&
  (match j.op with
   | some (.gemm h) =>
     decide (slice16 j.bs 0x20 16 = slice16 k.bs 0x20 16) && bit g.b.addr 24 && decide ((ctx s e).shrBase = (ctx s c).shrBase) &&
     decide (slice16 j.bs 0x40 32 = slice16 k.bs 0x40 32) && decide (h.a.fmt = g.a.fmt) && decide (h.c.fmt = g.c.fmt) &&
     opInWindow s (ctx s e) (.gemm h) && (readPoison s (ctx s e) (.gemm h)).isNone
   | _ => false)

def rowsOf (s : State) (e : Nat) : Nat := match (cand s e).op with | some (.gemm h) => h.a.rows | _ => 0

/-- Partners in ascending context ID while the pass stays within 128 descriptors and 256 rows of A. -/
def takePartners (s : State) : List Nat → Nat → Nat → List Nat
  | [], _, _ => []
  | e :: t, n, rows =>
    if n < 128 ∧ rows + rowsOf s e ≤ 256 then e :: takePartners s t (n + 1) (rows + rowsOf s e) else takePartners s t n rows

def partners (s : State) (c : Nat) (k : Cand) (g : Gemm) : List Nat :=
  if g.a.rows ≤ 256 then takePartners s ((s.ctxs.map (·.1)).filter (joins s c k g)) 1 g.a.rows else []

/-- Issue the pass: the lead, then its partners, each with the candidate it had in this clock. -/
def issueGemm (s : State) (c : Nat) (k : Cand) (g : Gemm) : State :=
  let ps := partners s c k g
  let rows := (ps.map (rowsOf s)).foldl (· + ·) g.a.rows
  let clocks := gemmClocks rows g.b.rows g.a.cols (pairKt g.a.fmt g.b.fmt) (pairLw g.a.fmt g.b.fmt) (if g.a.fmt = 5 then 2 else 1)
  let one (lead : Bool) (e : Nat) : Cand × QDesc :=
    let j := cand s e
    match j.op with
    | some (.gemm h) => (j, { mkQ s e j (.gemm h) with lead := lead, clocks := clocks, rows := h.a.rows })
    | _ => (j, { ctx := e, unit := 0, pc := 0 })
  let all := (c, one true c) :: ps.map (fun e => (e, one false e))
  all.foldl (fun s e => issueWith s e.1 e.2.1 e.2.2) s

def execGemm (ctx : Nat) (s : State) : Res :=
  .next (dispatch s ctx 1 (fun s k op => match op with | .gemm g => issueGemm s ctx k g | _ => s))

/-! ### CONV_TAP, POOL, VEC -/

def execConvTap (ctx : Nat) (s : State) : Res :=
  .next (dispatch s ctx 2 (fun s k op => issueWith s ctx k (mkQ s ctx k op)))

def execPool (ctx : Nat) (s : State) : Res :=
  .next (dispatch s ctx 3 (fun s k op => issueWith s ctx k (mkQ s ctx k op)))

def execVec (ctx : Nat) (s : State) : Res :=
  .next (dispatch s ctx 4 (fun s k op => issueWith s ctx k (mkQ s ctx k op)))

/-! ### ATTN (R167 to R178, R189, R199) -/

def lpe (s : State) (c : Nat) : Nat := 0x300000 + (ctx s c).core * 0x10000

/-- What an ATTN reads of a layer: rows 0 to n - 1 of each block listed with n, and the summaries of the pages it scores. -/
structure Reads where
  rows : List (Nat × Nat) := []
  summ : List Nat := []
  deriving DecidableEq, Repr, Inhabited

def addRead (e : Nat × Nat) : List (Nat × Nat) → List (Nat × Nat)
  | [] => [e]
  | y :: t => if e.1 < y.1 then e :: y :: t else if e.1 = y.1 then (y.1, max e.2 y.2) :: t else y :: addRead e t

/-- What a query row with last attended position `last` reads of blocks `bs`; no row beyond it (R168). -/
def rowReads (last : Nat) (bs : List Nat) : List (Nat × Nat) := bs.map (fun b => (b, min 64 (last + 1 - 64 * b)))

def lastAll (a : Attn) : Nat := lastOf a (a.q.rows - 1)

def coarseReads (s : State) (x : Ctx) (q : Seq) (a : Attn) (p w : Nat) : Reads :=
  { rows := (((List.range a.q.rows).map (fun t => rowReads (lastOf a t) (rowSel s x q a p w t))).flatten).foldl (fun l e => addRead e l) []
    summ := coarseCands q a.layer (lastAll a / 64) w }

def readsOf (s : State) (x : Ctx) (q : Seq) (a : Attn) : AttnMode → Reads
  | .coarse p w => coarseReads s x q a p w
  | _ => { rows := rowReads (lastAll a) (List.range (attnNb a)) }

/-- The blocks it reads anything of. -/
def Reads.blocks (r : Reads) : List Nat := (r.rows.map (·.1) ++ r.summ).eraseDups

/-- Pages that the hot-page cache can hold (R190). -/
def hotSlots (s : State) : Nat := rf s 0x80010 8 0 * 65536 / (poolPsize s (bits (rg s 0x80010) 31 30) * 64)

/-- The page of block b, layer l, can lie in the hot-page cache under this key. -/
def hotKey (s : State) (q : Seq) (b l : Nat) : Option Nat :=
  if q.paged ∧ bits (rg s 0x80010) 31 30 = q.pool then (tget none q.pt b).map (fun f => f * 64 + l) else none

/-- The page is served from the hot-page cache. -/
def isHot (s : State) (q : Seq) (b l : Nat) : Bool :=
  match hotKey s q b l with
  | some k => (s.kv.hot.take (hotSlots s)).contains k
  | none => false

def inDram (s : State) (q : Seq) : Bool := q.paged || decide (q.region < dramSize s)

/-- A page read from the hot-page cache or from memory (R176 context, R190), and the bytes of DRAM read so far. -/
def readPage (q : Seq) (l : Nat) (sn : State × Nat) (b : Nat) : State × Nat :=
  let s := sn.1
  let n := sn.2 + (if inDram s q then pageBytes q else 0)
  match hotKey s q b l with
  | none => (s, n)
  | some k =>
    if isHot s q b l then (rsetN { s with kv := { s.kv with hot := k :: s.kv.hot.filter (· ≠ k) } } 0x80014 (rg s 0x80014 + 1), sn.2)
    else (rsetN { s with kv := { s.kv with hot := (k :: s.kv.hot).take (hotSlots s) } } 0x80018 (rg s 0x80018 + 1), n)

/-- Bytes of DRAM that summaries alone cost. -/
def summDram (s : State) (q : Seq) (l : Nat) (r : Reads) : Nat :=
  if inDram s q then ((r.summ.filter (fun b => !(r.rows.map (·.1)).contains b && !isHot s q b l)).length) * summBytes q else 0

/-- The first poisoned unit of memory that the reads meet; a page in the hot-page cache is not read from DRAM (R189). -/
def pagePoison (s : State) (q : Seq) (l : Nat) (r : Reads) : Option Nat :=
  let at1 (b : Nat) (f : Nat → List (Nat × Nat)) : Option Nat :=
    if isHot s q b l then none else (pageAddr s q b l).bind (fun p => poisonSpans s (f p))
  (r.rows.findSome? (fun e => at1 e.1 (fun p => ((List.range q.kvHeads).map (copySpans q p e.2)).flatten))).orElse (fun _ =>
    r.summ.findSome? (fun b => at1 b (fun p => [(p + q.kvHeads * headBytes q, summBytes q)])))

/-- The pages are read and every frame is pinned: the state, the bytes of DRAM, the frames (R177, R264). -/
def takeReads (s : State) (q : Seq) (l : Nat) (r : Reads) : State × Nat × List Nat :=
  let n := summDram s q l r
  let x := (r.rows.map (·.1)).foldl (readPage q l) (s, n)
  let fs := framesOf q r.blocks
  (fs.foldl pinFrame x.1, x.2, fs)

/-- Bytes of DRAM that `t` appended positions and the summaries of the pages they fill cost (R264). -/
def appBytes (s : State) (q : Seq) (pos t : Nat) : Nat :=
  if inDram s q then t * (q.kvHeads * 2 * (ebOf q + codesRow q)) + ((pos + t) / 64 - pos / 64) * summBytes q else 0

/-- Poison met by the copies an append makes (R178, R189). -/
def cowPoison (s : State) (q : Seq) (bs : List Nat) : Option Nat :=
  bs.findSome? (fun b => match tget none q.pt b with
    | some f =>
      if frRef s f > 1 then
        (((List.range q.layers).map (fun l => pageSpans q (frameAddr s q.pool f + l * (poolPsize s q.pool * 64)) (validRows q b l))).flatten).findSome?
          (fun e => if e.2 = 0 then none else poisonIn s e.1 e.2)
      else none
    | none => none)

/-- Bytes of the copies an append makes, both ways (R264). -/
def cowBytes (s : State) (q : Seq) (bs : List Nat) : Nat :=
  sumOf (bs.map (fun b => match tget none q.pt b with
    | some f => if frRef s f > 1 then 2 * sumOf ((List.range q.layers).map (fun l => validRows q b l * (pageBytes q / 64))) else 0
    | none => 0))

/-- KV_POISON with its flags, or the Darkroom's fault for a flat region there (R189, R321). -/
def poisonFlags (s : State) (c a : Nat) : State × Nat :=
  if drkBase ≤ a then (s, 0x0203) else (flag (flag s 0x80004 2) (lpe s c + 4) 2, 0x0204)

def kvPoisonFault (s : State) (c a : Nat) : State := faultDesc (poisonFlags s c a).1 c (poisonFlags s c a).2 a

/-- A fault of R167 or R176 with the flags it sets. -/
def kvFault (s : State) (c cause : Nat) : State :=
  let s := if cause = 0x0303 then flag s (lpe s c + 4) 1 else s
  let s := if cause = 0x0304 then flag (flag s (lpe s c + 4) 3) 0x80004 3 else s
  faultDesc s c cause 0

/-- A step has begun for the sequence (R181). -/
def beginStep (s : State) (k : Nat) : State :=
  match seq s k with
  | none => s
  | some q => setSeq s k (some { q with inStep := true })

def setDeg (s : State) (c : Nat) : State := setCtx s c { ctx s c with deg := true }

/-- LOCAL and COARSE. -/
def issueAttn (s : State) (c : Nat) (k : Cand) (a : Attn) : State :=
  let key := seqKey c a.seq
  match attnCause s key a, seq s key with
  | some cause, _ => kvFault s c cause
  | _, none => kvFault s c 0x0301
  | none, some q0 =>
    let app := if a.append then appendBlocks a.qPos a.q.rows else []
    match cowPoison s q0 app with
    | some p => kvPoisonFault s c p
    | none =>
      match ensureBlocks key app s with
      | none => kvFault s c 0x0304
      | some s1 =>
        let s1 := if a.append then appendRows s1 (ctx s c) key a else s1
        let q := withAppend ((seq s1 key).getD q0) a
        let mode : AttnMode := if a.mode = 2 then .coarse a.topP a.winW else .loc
        let rd := readsOf s1 (ctx s c) q a mode
        match pagePoison s1 q a.layer rd with
        | some p => kvPoisonFault s1 c p
        | none =>
          let r := takeReads s1 q a.layer rd
          let qd := { mkQ s c k (.attn a) with
            dram := r.2.1 + cowBytes s q0 app + (if a.append then appBytes s q0 a.qPos a.q.rows else 0)
            pins := r.2.2, view := some q, blks := rd.rows.length
            app := if a.append then some (key, a.layer, a.q.rows) else none }
          issueWith (beginStep r.1 key) c k qd

/-- A RING ATTN goes to its group's barrier (R195, R255). -/
def issueRing (s : State) (c : Nat) (k : Cand) (a : Attn) : State :=
  match group s a.seq with
  | none => kvFault s c 0x0301
  | some r =>
    if !r.ctxs.contains c then kvFault s c 0x0301
    else
      let s := issueWith s c k { mkQ s c k (.attn a) with dram := 0, group := some a.seq, barrier := true, force := bit (rg s 0x70000) 0 }
      setCtx s c { ctx s c with st := .waiting, wait := some (.barrier a.seq), waitSince := dt s }

def execAttn (ctx : Nat) (s : State) : Res :=
  .next (dispatch s ctx 5 (fun s k op => match op with
    | .attn a => if a.mode = 1 then issueRing s ctx k a else issueAttn s ctx k a
    | _ => s))

/-! ### The group barrier (R195 to R199) -/

/-- The RING ATTN of context `c` in group `g` that is in its core's queue. -/
def ringDesc (s : State) (g c : Nat) : Option QDesc :=
  (core s (ctx s c).core).q.find? (fun d => decide (d.ctx = c) && decide (d.group = some g))

def updDesc (s : State) (g c : Nat) (f : QDesc → QDesc) : State :=
  let n := (ctx s c).core
  setCore s n { core s n with q := (core s n).q.map (fun d => if d.ctx = c ∧ d.group = some g then f d else d) }

/-- What a fault of the group records of member `c` (R330). -/
def ringHit (s : State) (g c cause adr : Nat) : Hit :=
  match ringDesc s g c with
  | some d => { cause := cause, tier := 1, descTag := d.tag, pc := d.pc, addr := adr }
  | none => { cause := cause, tier := 1, addr := adr }

/-- Every member stands at the barrier: its context and its descriptor. -/
def atBarrier (s : State) (g : Nat) (r : RGroup) : Option (List (Nat × Attn)) :=
  r.ctxs.foldr (fun c acc =>
    match ringDesc s g c, acc with
    | some d, some l => if d.barrier ∧ (ctx s c).st = .waiting then some ((c, attnOf d.bs) :: l) else none
    | _, _ => none) (some [])

def sameRing (a b : Attn) : Bool :=
  decide (a.layer = b.layer) && decide (a.kvLen = b.kvLen) && decide (a.sm = b.sm) && decide (a.causal = b.causal) &&
  decide (a.append = b.append)

/-- The cause of the group's fault at the barrier: comparison, then R167 against the leader sequence (R195). -/
def ringCause (s : State) (r : RGroup) (ms : List (Nat × Attn)) : Option Nat :=
  match ms with
  | [] => none
  | (_, a) :: t =>
    if !(t.all (fun m => sameRing a m.2)) then some 0x0305
    else
      match seq s r.leader with
      | none => some 0x0301
      | some q =>
        let n := lenOf q a.layer
        let total := if a.append then sumOf (ms.map (fun m => m.2.q.rows)) else 0
        if ms.any (fun m => decide (q.layers ≤ m.2.layer) || decide (m.2.headDim ≠ q.headDim) || decide (m.2.kvHeads ≠ q.kvHeads)) then some 0x0101
        else if a.append && !(ms.mapIdx (fun j m => decide (m.2.qPos = n + sumOf ((ms.take j).map (fun x => x.2.q.rows))))).all id then some 0x0302
        else if a.append && decide (q.maxLen < n + total) then some 0x0303
        else if n + total < a.kvLen then some 0x0303
        else none

/-- NB of the group: the blocks up to the last position any member attends (R195). -/
def ringNb (ms : List (Nat × Attn)) : Nat := (ms.map (fun m => attnNb m.2)).foldl max 0

def scratch (r : RGroup) (q : Seq) (s : State) (e : Nat × Nat × Attn) : State :=
  let x := ctx s e.2.1
  let pn := r.g * r.tMax * e.2.2.qHeads * (q.headDim + 2) * 4
  let s := if windowOk x (r.part.getD e.1 0) pn true then fillFree s (trayAddr x (r.part.getD e.1 0)) pn else s
  if windowOk x (r.rbuf.getD e.1 0) (8 * pageBytes q) true then fillFree s (trayAddr x (r.rbuf.getD e.1 0)) (8 * pageBytes q) else s

/-- What member j reads: the pages of its own COARSE selection, or its own shard up to `last`, the last position that any member
attends (R195, R198). -/
def memberReads (s : State) (r : RGroup) (q : Seq) (falls : Bool) (nb last : Nat) (e : Nat × Nat × Attn) : Reads :=
  if falls then coarseReads s (ctx s e.2.1) q e.2.2 r.topP r.winW
  else { rows := rowReads last ((List.range nb).filter (fun b => decide (e.1 * nb / r.g ≤ b) && decide (b < (e.1 + 1) * nb / r.g))) }

/-- The member reads its pages, pins them and is charged; its descriptor keeps what it reads. -/
def memberTake (g : Nat) (q : Seq) (nb : Nat) (falls : Bool) (extra : Nat) (s : State) (m : Nat × Attn) (rd : Reads) : State :=
  let x := takeReads s q m.2.layer rd
  let s := chargeDram x.1 (ctx s m.1).cls (x.2.1 + extra)
  updDesc s g m.1 (fun d => { d with pins := x.2.2, dram := d.dram + x.2.1 + extra, view := some q, nb := nb
                                     blks := if falls then rd.rows.length else attnNb m.2 })

/-- A member reads poison: it faults, and its mates with RING_MISMATCH (R189, R201, R331). -/
def ringPoison (s : State) (g c a : Nat) : State :=
  faultCtx (poisonFlags s c a).1 c (ringHit s g c (poisonFlags s c a).2 a)

/-- The frames of every member's append, in member order; the context whose append finds none (R176, R195). -/
def ringEnsure (k : Nat) : List (Nat × Attn) → State → Except Nat State
  | [], s => .ok s
  | m :: t, s =>
    match ensureBlocks k (appendBlocks m.2.qPos m.2.q.rows) s with
    | none => .error m.1
    | some s => ringEnsure k t s

/-- The descriptor leaves the barrier. -/
def leaveBarrier (g k : Nat) (s : State) (m : Nat × Attn) : State :=
  let s := updDesc s g m.1 (fun d => { d with barrier := false, app := if m.2.append then some (k, m.2.layer, m.2.q.rows) else none })
  let n := (ctx s m.1).core
  setCtx (setCore s n (startHeads (core s n))) m.1 { ctx s m.1 with st := .running, wait := none }

/-- Every member's appends, then every member's reads; a RING ATTN runs in the mode in which any member of its group issued (R195,
R198, R202; DESIGN CHOICE for members that issued in different modes, notes/assumptions/77.md). -/
def ringGo (s : State) (g : Nat) (r : RGroup) (ms : List (Nat × Attn)) : State :=
  match ms, seq s r.leader with
  | (_, a) :: _, some q0 =>
    let force := ms.any (fun m => match ringDesc s g m.1 with | some d => d.force | none => false)
    let s := ms.foldl (fun s m => updDesc s g m.1 (fun d => { d with force := force })) s
    let falls := force || arcFalls s r
    let n := lenOf q0 a.layer
    let total := if a.append then sumOf (ms.map (fun m => m.2.q.rows)) else 0
    let blocks (m : Nat × Attn) : List Nat := if a.append then appendBlocks m.2.qPos m.2.q.rows else []
    match ms.findSome? (fun m => (cowPoison s q0 (blocks m)).map (fun p => (m.1, p))) with
    | some e => ringPoison s g e.1 e.2
    | none =>
      match (if a.append then ringEnsure r.leader ms s else .ok s) with
      | .error c => faultCtx (flag (flag s (lpe s c + 4) 3) 0x80004 3) c (ringHit s g c 0x0304 0)
      | .ok s1 =>
        let s1 := if a.append then ms.foldl (fun s m => appendRows s (ctx s m.1) r.leader m.2) s1 else s1
        let q1 := (seq s1 r.leader).getD q0
        let q := if a.append then { q1 with len := listSet q1.len a.layer (n + total) } else q1
        let nb := ringNb ms
        let last := (ms.map (fun m => lastAll m.2)).foldl max 0
        let rd := ms.mapIdx (fun j m => (m, memberReads s1 r q falls nb last (j, m)))
        match rd.findSome? (fun e => (pagePoison s1 q a.layer e.2).map (fun p => (e.1.1, p))) with
        | some e => ringPoison s1 g e.1 e.2
        | none =>
          let s2 := rd.foldl (fun s e =>
            memberTake g q nb falls (if a.append then cowBytes s q0 (blocks e.1) + appBytes s q0 e.1.2.qPos e.1.2.q.rows else 0) s e.1 e.2)
            (beginStep s1 r.leader)
          ms.foldl (leaveBarrier g r.leader) s2
  | _, _ => s

/-- The outputs of one member, in the mode that the links and its issue give (R196, R198, R199, R201). -/
def ringFinish (s : State) (d : QDesc) (a : Attn) (q : Seq) (r : RGroup) : State :=
  let falls := d.force || arcFalls s r
  let s := if falls then s else scratch r q s (r.ctxs.idxOf d.ctx, d.ctx, a)
  let s := attnOut s (ctx s d.ctx) q a (if falls then .coarse r.topP r.winW else .ring r.g d.nb)
  let s := if falls then flag s 0x70004 2 else s
  if falls ∨ ringState s ≠ 1 then setDeg s d.ctx else s

/-- The outputs of an ATTN (R169, R199). -/
def runAttn (s : State) (d : QDesc) (a : Attn) : State :=
  match d.view with
  | none => s
  | some q =>
    let s := rsetN s (lpe s d.ctx + 0x10) (rg s (lpe s d.ctx + 0x10) + d.blks)
    if a.mode = 0 then attnOut s (ctx s d.ctx) q a .loc
    else if a.mode = 2 then setDeg (attnOut s (ctx s d.ctx) q a (.coarse a.topP a.winW)) d.ctx
    else match d.group.bind (group s) with
      | some r => ringFinish s d a q r
      | none => s

/-- A barrier does not complete while a member's core is stopped for a change of frequency: its state is held (R126). -/
def execRingBarrierComplete (group : Nat) (s : State) : Res :=
  .next (match Machine.group s group with
    | none => s
    | some r =>
      match atBarrier s group r with
      | none => s
      | some ms =>
        if !isReady s || ms.any (fun m => (core s (Machine.ctx s m.1).core).stop) then s
        else
          match ringCause s r ms with
          | some cause => ms.foldl (fun s m =>
              let s := if cause = 0x0303 then flag s (lpe s m.1 + 4) 1 else s
              faultOne s m.1 (ringHit s group m.1 cause 0)) s
          | none => ringGo s group r ms)

/-! ### Control descriptors (R121, R123, R257, R258) -/

/-- A control descriptor executes at issue and is complete. -/
def control (s : State) (c : Nat) (k : Cand) (pc : Nat) : State :=
  let s := advance s c k
  settle (setCtx s c { ctx s c with pc := pc }) c

def execWaitMark (ctx : Nat) (s : State) : Res :=
  .next (dispatch s ctx 7 (fun s k op => match op with
    | .wait m v =>
      if v ≤ mark s m then control s ctx k ((Machine.ctx s ctx).pc + 128)
      else if inFlight s ctx then s
      else setCtx s ctx { Machine.ctx s ctx with st := .waiting, wait := some (.mark m v), waitSince := dt s }
    | _ => s))

def execSignalMark (ctx : Nat) (s : State) : Res :=
  .next (dispatch s ctx 8 (fun s k op => match op with
    | .signal m a =>
      if 0x1000 ≤ ctx ∧ m < 0x1000 then faultDesc (flag s 0x50004 1) ctx 0x0105 0
      else control (signalCtx s ctx m a) ctx k ((Machine.ctx s ctx).pc + 128)
    | _ => s))

/-- The new counter, and whether DEC_BNZ branches (R121). -/
def branchStep (op value n : Nat) : Nat × Bool :=
  if op = 1 then (value, false) else if n = 0 then (0, false) else (n - 1, decide (n - 1 ≠ 0))

def execBranchOnCount (ctx : Nat) (s : State) : Res :=
  .next (dispatch s ctx 9 (fun s k op => match op with
    | .branch cnt o target value =>
      let x := Machine.ctx s ctx
      let (n, go) := branchStep o value (x.cnt.getD cnt 0)
      let dst := (x.pc : Int) + 128 * target
      if go ∧ (dst < 0 ∨ !fetchOk s dst.toNat) then faultDesc s ctx 0x0102 (twos 64 dst)
      else
        let s := setCtx s ctx { x with cnt := listSet x.cnt cnt n }
        control s ctx k (if go then dst.toNat else x.pc + 128)
    | _ => s))

end Sys2Proof.Machine
end

