-- ==== Sys2Proof/Machine/Fetch.lean ====
section
/-! DEFINITION. DMA descriptors with the crops they fetch (R42, R117, R118, R155 to R159), and the completion of a
descriptor (R122, R168, R177, R188, R255, R264). -/

namespace Sys2Proof.Machine

/-! ### DMA -/

/-- The byte address of a DMA side. -/
def sideAddr (x : Ctx) (a : Nat) : Nat := if isTrayAddr a then trayAddr x (a - 0x4100000000) else a

/-- The bytes a row becomes on its way. -/
def dmaRow (d : Dma) (bs : List Byte) : List Byte :=
  if d.grain = 0 then bs
  else if d.dir then ((chunksOf (grainSize d.grain) bs.length bs).map (grainExpand d.grain)).flatten
  else ((blocks128 bs.length bs).map (grainCompress d.grain)).flatten

def dmaRows (x : Ctx) (d : Dma) : List Nat → State → State
  | [], s => s
  | r :: t, s =>
    let bs := dmaRow d (rdBytes s (sideAddr x d.src + r * d.sp) (sideBytes s d d.src))
    let a := sideAddr x d.dst + r * d.dp
    dmaRows x d t (storeBytes s a bs)

def runDma (s : State) (x : Ctx) (d : Dma) : State := dmaRows x d (List.range d.rows) s

/-- The input that a stale fetch spoils takes STALE, and the context owes it no more (R42, R75). -/
def staleFetch (s : State) (c : Nat) (w : Nat × Nat × Option Nat) : State :=
  if (ctx s c).owes.contains w then
    match cropStale s w.1 w.2.1 w.2.2 with
    | none => s
    | some r =>
      let x : FieldOut := { out := .stale, reason := r, degraded := (ctx s c).deg, d := 0xFFFF }
      let s := setCtx s c { ctx s c with owes := (ctx s c).owes.filter (· ≠ w) }
      match w.2.2 with
      | some i => giveField s w.1 w.2.1 i x
      | none => giveCmp s w.1 w.2.1 x [] []
  else s

/-- The object whose comparison a DMA fetches for. -/
def fetchObj (w : Option (Nat × Nat × Option Nat)) : Option (Nat × Nat) := w.map (fun w => (w.1, w.2.1))

/-- `tile` is the reference tile that the descriptor reads in place of DRAM, if it reads one (R102). -/
def execDma (ctx : Nat) (fetch : Option (Nat × Nat × Option Nat)) (tile : Option TileRead) (s : State) : Res :=
  .next (dispatch s ctx 6 (fun s k op => match op with
    | .dma _ =>
      let s := match fetch with | some w => staleFetch s ctx w | none => s
      let q := mkQ s ctx k op
      match tile with
      | some t => issueWith (readTile s t (fetchObj fetch)) ctx k { q with dram := 0 }
      | none => issueWith s ctx k q
    | _ => s))

/-! ### The class map of a comparison (R40) -/

/-- The centre of class-map pixel (x, y) lies in an excluded field, whose flag is the image's own; the map is at 300 dpi, 4 units a
pixel (DESIGN CHOICE, notes/assumptions/77.md). -/
def excluded (i : JobImage) (x y : Nat) : Bool :=
  i.fields.any (fun f => f.exclude && decide (f.rect.x0 ≤ 4 * x + 2) && decide (4 * x + 2 < f.rect.x1) &&
    decide (f.rect.y0 ≤ 4 * y + 2) && decide (4 * y + 2 < f.rect.y1))

/-- Pixels of a class, by aligned 8 x 8 cell. -/
def cellCounts (i : JobImage) (m : List (List Nat)) (c : Nat) : Tab Nat :=
  (m.mapIdx (fun y r => (y, r))).foldl (fun t e =>
    (e.2.mapIdx (fun x v => (x, v))).foldl (fun t f =>
      if f.2 = c ∧ !excluded i f.1 e.1 then tmod 0 t (e.1 / 8 * 65536 + f.1 / 8) (· + 1) else t) t) []

/-- P(c) and C(c) for classes 0 to 15. -/
def mapCounts (i : JobImage) (m : List (List Nat)) : List Nat × List Nat :=
  let cs := (List.range 16).map (cellCounts i m)
  (cs.map (fun t => (t.map (·.2)).foldl (· + ·) 0), cs.map (fun t => (t.map (·.2)).foldl max 0))

/-- A class map reaches the comparison its context owes (R40, R163). A tile under repair that the object has not read gives STALE
(R103). -/
def deliverMap (s : State) (c : Nat) (m : Nat × Nat × List (List Nat)) : State :=
  let w : Nat × Nat × Option Nat := (m.1, m.2.1, none)
  if (ctx s c).owes.contains w then
    let deg := (ctx s c).deg
    let s := setCtx s c { ctx s c with owes := (ctx s c).owes.filter (· ≠ w) }
    match objOf s m.1 m.2.1 with
    | none => s
    | some o =>
      if staleRows s (objBox o) then giveCmp s m.1 m.2.1 { out := .stale, reason := 13, degraded := deg } [] []
      else if (job s (refSlot s o.job)).poisoned.any (fun t => !o.tiles.contains t) then giveCmp s m.1 m.2.1 { out := .stale, degraded := deg } [] []
      else
        let k := mapCounts o.img m.2.2
        giveCmp s m.1 m.2.1 { out := .pass, degraded := deg } k.1 k.2
  else s

/-! ### Completion -/

/-- The results of a descriptor: they land as it completes (notes/assumptions/13.md). -/
def runQ (s : State) (d : QDesc) : State :=
  let x := ctx s d.ctx
  match readDesc s d.bs with
  | some (.gemm g) => runGemm s x g
  | some (.conv c) => runConv s x c
  | some (.pool p) => runPool s x p
  | some (.vec v) => runVec s x v
  | some (.attn a) => runAttn s d a
  | some (.dma m) => runDma s x m
  | _ => s

/-- The append of a completed ATTN becomes part of the sequence (R168). -/
def commitApp (s : State) (d : QDesc) : State :=
  match d.app with
  | none => s
  | some (k, l, n) =>
    match seq s k with
    | none => s
    | some q => setSeq s k (some { q with len := listSet q.len l (lenOf q l + n) })

/-- One entry of a pass completes. -/
def finishEntry (u : Nat) (p : List QDesc) (clocks : Nat) (map : Option (Nat × Nat × List (List Nat))) (s : State) (d : QDesc) : State :=
  let n := (ctx s d.ctx).core
  let s := commitApp (d.pins.foldl unpinFrame (runQ s d)) d
  let s := if u = 3 then rsetN s (lpe s d.ctx + 0xC) (rg s (lpe s d.ctx + 0xC) + 1) else s
  let s := chargeEntry n u p clocks s d
  let s := match map with | some m => deliverMap s d.ctx m | none => s
  settle s d.ctx

def descComplete (s : State) (n u clocks : Nat) (map : Option (Nat × Nat × List (List Nat))) : State :=
  let k := core s n
  let p := headPass k u
  match p with
  | [] => s
  | d :: _ =>
    if d.barrier then s
    else
      let s := setCore s n (startHeads { k with q := p.foldl (fun q e => q.erase e) k.q })
      let s := if u = 0 then cadd s (0x200020 + n * 0x20000) clocks else s
      sweepRings (p.foldl (finishEntry u p clocks map) s)

/-- `ecc` are the addresses at which its reads met errors that ECC corrected (R116, R318, R321). -/
def execDescComplete (core unit clocks : Nat) (map : Option (Nat × Nat × List (List Nat))) (ecc : List Nat) (s : State) : Res :=
  .next (if isReady s && decide (core < 8) && decide (unit < 5) && !(Machine.core s core).stop then
      (match headPass (Machine.core s core) unit with
       | [] => s
       | d :: _ => if d.barrier then s else descComplete (ecc.foldl corrected s) core unit clocks map)
    else s)

end Sys2Proof.Machine
end

