-- ==== Sys2Proof/Machine/Ctx.lean ====
section
/-! DEFINITION. Context, sequence and ring-group commands, and marks signalled by the host (R166, R180 to R183, R194,
R252 to R259, R286 to R288). -/

namespace Sys2Proof.Machine

/-! ### Opening a context (R252 to R254) -/

/-- The host may not act on device contexts (R252). -/
def hostDenied (f : Flight) (x : Nat) : Bool := !f.c.dev && decide (x < 0x1000)

/-- The control section of a context descriptor at `a` (R253). -/
def ctxAt (s : State) (a : Nat) : Ctx :=
  { desc := a, prog := rdLe s a 8, core := rdLe s (a + 8) 1 % 8, cls := rdLe s (a + 9) 1 % 16, prio := rdLe s (a + 10) 1 % 4,
    sharedWr := bit (rdLe s (a + 11) 1) 0, caption := bit (rdLe s (a + 11) 1) 1, privBase := rdLe s (a + 12) 4,
    privSize := rdLe s (a + 16) 4, shrBase := rdLe s (a + 20) 4, shrSize := rdLe s (a + 24) 4, endMark := rdLe s (a + 28) 2,
    endAdd := rdLe s (a + 32) 8, wdog := rdLe s (a + 40) 4, tag := rdLe s (a + 44) 4 }

/-- Reserved fields of the descriptor, the caption block apart, are zero. -/
def ctxZeros (bs : List Byte) : Bool :=
  decide (le bs 8 1 < 8) && decide (le bs 9 1 < 16) && decide (le bs 10 1 < 4) && decide (le bs 11 1 < 4) &&
  zeros bs 0x1E 2 && zeros bs 0x30 208 && zeros bs 0x320 224

def placedWith (s : State) (n : Nat) : List (Nat × Ctx) := s.ctxs.filter (fun e => decide (e.2.st ≠ .free) && decide (e.2.core = n))

/-- Reserved bytes of a caption block are zero; a block is read where FLAGS.CAPTION is 1 (R210, R253). -/
def captionZeros (bs : List Byte) : Bool :=
  decide (le bs 0x100 1 < 16) && decide (le bs 0x101 1 < 8) && zeros bs 0x103 1 && zeros bs 0x10C 4 && zeros bs 0x11C 4

/-- The descriptor's checks (R253, R254). -/
def ctxDescOk (s : State) (f : Flight) (a c : Nat) : Bool :=
  let x := ctxAt s a
  ctxZeros (rdBytes s a 1024) && (!x.caption || captionZeros (rdBytes s a 1024)) && decide (x.prog % 128 = 0) && devRangeOk s x.prog 1 &&
  decide (x.privBase % 4096 = 0) && decide (x.privSize % 4096 = 0) && decide (x.shrBase % 4096 = 0) && decide (x.shrSize % 4096 = 0) &&
  decide (x.privBase + x.privSize ≤ traySize) && decide (x.shrBase + x.shrSize ≤ traySize) &&
  !((placedWith s x.core).any (fun e => decide (e.1 ≠ c) && meets e.2.privBase (e.2.privBase + e.2.privSize) x.privBase (x.privBase + x.privSize))) &&
  clsEn s x.cls && (f.c.dev || decide (2 ≤ x.cls))

def ctxOpen (s : State) (f : Flight) (a c : Nat) : State :=
  if !devRangeOk s a 1024 || decide (a % 64 ≠ 0) then complete s f stBadParam 0x10 0
  else if !f.c.dev && decide (c < 0x1000) then complete s f stBadParam 0x18 0
  else if (poisonIn s a 1024).isSome then complete s f stPoisoned 0 0
  else if !ctxDescOk s f a c then complete s f stBadParam 0x10 0
  else if (ctx s c).st ≠ .free then complete s f stInUse 0 0
  else
    let x := ctxAt s a
    if 4096 ≤ (placedWith s x.core).length then complete s f stNoResource 0 0
    else
      let cap := if x.caption then captionAt s (a + 0x100) else {}
      let x := { x with st := CtxSt.opened, cap := cap }
      complete (setCtx s c (if f.c.dev then { x with lanes := f.c.lanes, owes := f.c.owes, ad := f.c.ad, sample := f.c.sample } else x)) f stOk 0 0

def execCtxOpen (c : Cmd) (desc ctx : Nat) (s : State) : Res :=
  .next (accept s c 0x60 [(decide (desc < 2 ^ 64), 0x10), (decide (ctx < 0x4000), 0x18)] (fun s f => ctxOpen s f desc ctx))

/-! ### Launching (R210, R256) -/

/-- A search starts afresh with its context's program. -/
def freshDecode (d : Decode) : Decode := { d with live := [{}], fin := [], stepNo := 0, ended := false, waiting := false }

def resetSearches (s : State) (c : Nat) : State :=
  { s with kv := { s.kv with seqs := s.kv.seqs.map (fun e =>
      if e.1 / 1024 = c then (e.1, e.2.map (fun q => { q with dec := q.dec.map freshDecode })) else e) } }

/-- The checks of R210 on the caption block at `a`. -/
def launchCapOk (s : State) (a : Nat) : Bool := captionOk s (captionAt s a)

/-- The launch itself; a caption block that fails its check faults the context (R210). The flag says that it ran. -/
def launch (s : State) (c : Nat) (cnt : List Nat) : State × Bool :=
  let x := ctx s c
  let s := resetSearches (setCtx s c { x with st := .ready, pc := x.prog, cnt := cnt, deg := false, wait := none, stopReq := false,
                                              held := false, wd := 0, step := 0, ended := false }) c
  if x.caption then
    if launchCapOk s (x.desc + 0x100) then
      let cap := captionAt s (x.desc + 0x100)
      (setDetok (setCtx s c { ctx s c with cap := cap }) c (some { cap := cap }), true)
    else (faultCtx s c { cause := 0x0106, tier := 1 }, false)
  else (s, true)

/-- A Shutter launch frees its entry; it does nothing but report where the context is not OPEN (R256), or is the
device's (R252). -/
def launchFire (s : State) (k : Nat) : State :=
  let c := (ent s k).par % 0x4000
  let x := ctx s c
  let s := setEnt s k (freeHost (ent s k))
  if x.st = .opened ∧ 0x1000 ≤ c then (launch s c [0, 0, 0, 0]).1
  else report (flag s 0x50004 0) 0x0303 none c x.tag (leBytes 2 k ++ leBytes 1 (ctxCode x.st))

/-- The entry's launch is due. -/
def launchDue (s : State) (e : Entry) : Bool := e.armed && decide (e.typ = 3) && decide (e.target ≤ (if e.dev then dt s else wt s))

/-- Shutter launches of the context that are due go before a CTX_LAUNCH of the same clock (R256). -/
def launchesDue (s : State) (c : Nat) : State :=
  ((s.sht.filter (fun e => launchDue s e.2 && decide (e.2.par % 0x4000 = c))).map (·.1)).foldl launchFire s

def execCtxLaunch (c : Cmd) (cnt0 cnt1 cnt2 cnt3 ctx : Nat) (s : State) : Res :=
  .next (accept s c 0x61 [(decide (ctx < 0x4000), 0x20)] (fun s f =>
    if hostDenied f ctx then complete s f stDenied 0 0
    else
      let s := launchesDue s ctx
      if (Machine.ctx s ctx).st ≠ .opened then complete s f stBadState 0 0
      else
      let r := launch s ctx [cnt0 % 2 ^ 32, cnt1 % 2 ^ 32, cnt2 % 2 ^ 32, cnt3 % 2 ^ 32]
      complete r.1 f (if r.2 then stOk else stAborted) 0 0))

def execCtxLaunchFire (entry : Nat) (s : State) : Res :=
  .next (if isReady s && launchDue s (ent s entry) then launchFire s entry else s)

/-! ### Stop, resume, close, abort (R255) -/

def stopNowCtx (s : State) (c : Nat) : State :=
  let x := ctx s c
  setCtx s c { x with st := .stopped, prevSt := x.st, stopReq := false }

def ctxStop (s : State) (f : Flight) (c : Nat) : State :=
  let x := ctx s c
  if x.st ≠ .ready ∧ x.st ≠ .running ∧ x.st ≠ .waiting then complete s f stBadState 0 0
  else if inFlight s c ∨ x.ended then defer (setCtx s c { x with stopReq := true }) f (.ctxStop c) [c]
  else complete (stopNowCtx s c) f stOk 0 0

def execCtxStop (c : Cmd) (ctx : Nat) (s : State) : Res :=
  .next (accept s c 0x62 [(decide (ctx < 0x4000), 0x10)] (fun s f =>
    if hostDenied f ctx then complete s f stDenied 0 0 else ctxStop s f ctx))

/-- The state held before the stop; a wait satisfied meanwhile is over. -/
def resumeCtx (s : State) (c : Nat) : State :=
  let x := ctx s c
  match x.prevSt, x.wait with
  | .waiting, some (.mark m v) =>
    if v ≤ mark s m then setCtx s c { x with st := .ready, wait := none, prevSt := .ready } else setCtx s c { x with st := .waiting, prevSt := .ready }
  | p, _ => setCtx s c { x with st := p, prevSt := .ready }

def execCtxResume (c : Cmd) (ctx : Nat) (s : State) : Res :=
  .next (accept s c 0x63 [(decide (ctx < 0x4000), 0x10)] (fun s f =>
    if hostDenied f ctx then complete s f stDenied 0 0
    else if (Machine.ctx s ctx).st ≠ .stopped then complete s f stBadState 0 0
    else complete (resumeCtx s ctx) f stOk 0 0))

def closeCtx (s : State) (c : Nat) : State :=
  let s := (seqsOf s c).foldl (fun s k => runEdits s k [.close]) s
  setDetok (setCtx s c {}) c none

def execCtxClose (c : Cmd) (ctx : Nat) (s : State) : Res :=
  .next (accept s c 0x64 [(decide (ctx < 0x4000), 0x10)] (fun s f =>
    if hostDenied f ctx then complete s f stDenied 0 0
    else if (Machine.ctx s ctx).st ≠ .opened then complete s f stBadState 0 0
    else complete (closeCtx s ctx) f stOk 0 0))

def execCtxAbort (c : Cmd) (ctx : Nat) (s : State) : Res :=
  .next (accept s c 0x65 [(decide (ctx < 0x4000), 0x10)] (fun s f =>
    if hostDenied f ctx then complete s f stDenied 0 0
    else
      let st := (Machine.ctx s ctx).st
      if st = .free ∨ st = .opened ∨ st = .faulted then complete s f stBadState 0 0
      else faultCtx (defer s f (.ctxAbort ctx) [ctx]) ctx { cause := 0x0501, tier := 1 }))

/-! ### Opening a sequence (R166, R173, R174, R183, R287) -/

def sigmaTable (s : State) (a n : Nat) : List (Nat × Nat) :=
  (List.range n).map (fun i => (rdLe s (a + 8 * i) 4, rdLe s (a + 8 * i + 4) 4))

def seqOfParam (s : State) (bs : List Byte) : Seq :=
  let layers := le bs 2 1
  let heads := le bs 3 1 + 1
  { paged := decide (le bs 0 1 = 1), fmt := le bs 1 1, layers := layers, kvHeads := heads, headDim := le bs 4 2, maxLen := le bs 8 4,
    region := le bs 0x10 8, pool := le bs 6 1, scales := le bs 0x18 8, sigma := sigmaTable s (le bs 0x18 8) (layers * heads),
    len := List.replicate layers 0 }

def decOfParam (bs : List Byte) : Decode :=
  { beam := le bs 0 1, endTok := le bs 2 2, maxTok := le bs 4 2, done := le bs 6 2, logits := le bs 8 4, nextIn := le bs 12 4,
    v := le bs 0x10 4, pitch := le bs 0x14 4, embed := le bs 0x18 8, tokbuf := le bs 0x20 8 }

def sigmaOk (fmt : Nat) (p : Nat × Nat) : Bool :=
  if fmt = 3 then decide (p.1 = 0x3F800000) && decide (p.2 = 0x3F800000) else scaleOk p.1 && scaleOk p.2

/-- Ranges of the sequence properties (R166). -/
def seqRangeOk (s : State) (bs : List Byte) : Bool :=
  let q := seqOfParam s bs
  decide (le bs 0 1 < 2) && decide (1 ≤ q.fmt) && decide (q.fmt ≤ 3) && decide (1 ≤ q.layers) && decide (q.layers ≤ 64) &&
  decide (q.kvHeads ≤ 128) && (decide (q.headDim = 64) || decide (q.headDim = 128) || decide (q.headDim = 256)) &&
  zeros bs 7 1 && zeros bs 12 4 && zeros bs 0x28 24 &&
  devRangeOk s q.scales (8 * q.layers * q.kvHeads) && q.sigma.all (sigmaOk q.fmt) &&
  (if q.paged then
     decide (64 ≤ q.maxLen) && decide (q.maxLen ≤ 65536) && decide (q.pool < 4) && poolEn s q.pool &&
     decide (pageBytes q ≤ poolPsize s q.pool * 64) && decide (q.layers ≤ poolLayers s q.pool)
   else
     decide (64 ≤ q.maxLen) && decide (q.maxLen ≤ 4096) && decide (q.maxLen % 64 = 0) && decide (q.region % 64 = 0) &&
     devRangeOk s q.region (q.layers * (q.maxLen / 64) * pageBytes q))

/-- Ranges of the decode block (R183). -/
def decRangeOk (s : State) (paged : Bool) (bs : List Byte) : Bool :=
  let d := decOfParam bs
  decide (1 ≤ d.beam) && decide (d.beam ≤ 4) && decide (1 ≤ d.maxTok) && decide (d.maxTok ≤ 4096) && decide (1 ≤ d.v) &&
  decide (d.v ≤ 65536) && (decide (d.beam = 1) || paged) && zeros bs 1 1 && zeros bs 0x28 24 &&
  devRangeOk s d.embed (d.v * d.pitch) && devRangeOk s d.tokbuf (4 * (d.maxTok + 1))

/-- Poison met while a command reads. -/
def readsPoison (s : State) (a n : Nat) : Bool := (poisonIn s a n).isSome

def seqOpen (s : State) (f : Flight) (param c n : Nat) : State :=
  let bs := rdBytes s param 64
  let da := le bs 0x20 8
  let db := rdBytes s da 64
  if hostDenied f c then complete s f stDenied 0 0
  else if !rangeOk s param 64 then complete s f stBadParam 0x10 0
  else if hostFail f.c [param] || (decide (da ≠ 0) && hostFail f.c [da]) then complete s f stHostErr 0 0
  else if readsPoison s param 64 then complete s f stPoisoned 0 0
  else if !seqRangeOk s bs || (decide (da ≠ 0) && !rangeOk s da 64) then complete s f stBadParam 0x10 0
  else if decide (da ≠ 0) && readsPoison s da 64 then complete s f stPoisoned 0 0
  else if decide (da ≠ 0) && !decRangeOk s (seqOfParam s bs).paged db then complete s f stBadParam 0x10 0
  else
    let dec := if da = 0 then none else some (decOfParam db)
    let b := match dec with | some d => d.beam | none => 1
    if 1024 < n + b then complete s f stBadParam 0x1A 0
    else if (ctx s c).st = .free then complete s f stBadState 0 0
    else if (List.range b).any (fun i => (seq s (seqKey c (n + i))).isSome) then complete s f stInUse 0 0
    else
      let q := { seqOfParam s bs with leader := n }
      complete ((List.range b).foldl (fun s i => setSeq s (seqKey c (n + i)) (some { q with dec := if i = 0 then dec else none })) s) f stOk 0 0

def execSeqOpen (c : Cmd) (param ctx seq : Nat) (s : State) : Res :=
  .next (accept s c 0x68 [(decide (param < 2 ^ 64), 0x10), (decide (ctx < 0x4000), 0x18), (decide (seq < 1024), 0x1A)]
    (fun s f => seqOpen s f param ctx seq))

/-! ### Closing and editing (R180, R181, R183) -/

/-- An edit of a sequence now, or deferred to its step boundary, which sets DEFER (R181, R190); whether it was deferred. -/
def giveEdit (s : State) (k : Nat) (e : KvEdit) : State × Bool :=
  match seq s k with
  | none => (s, false)
  | some q =>
    if q.inStep then (flag (setSeq s k (some { q with defer := q.defer ++ [e] })) 0x80004 0, true)
    else (runEdits s k [e], false)

def beamOf (q : Seq) : Nat := match q.dec with | some d => d.beam | none => 1

def seqClose (s : State) (f : Flight) (c n : Nat) : State :=
  match seq s (seqKey c n) with
  | none => complete s f stBadState 0 0
  | some q =>
    if q.leader ≠ n then complete s f stBadParam 0x12 0
    else
      let r := (List.range (beamOf q)).foldl (fun r i =>
        let e := giveEdit r.1 (seqKey c (n + i)) .close
        (e.1, r.2 || e.2)) (s, false)
      complete r.1 f (if r.2 then stDeferred else stOk) 0 0

def execSeqClose (c : Cmd) (ctx seq : Nat) (s : State) : Res :=
  .next (accept s c 0x69 [(decide (ctx < 0x4000), 0x10), (decide (seq < 1024), 0x12)] (fun s f =>
    if hostDenied f ctx then complete s f stDenied 0 0 else seqClose s f ctx seq))

def sameGeom (a b : Seq) : Bool :=
  decide (a.pool = b.pool) && decide (a.layers = b.layers) && decide (a.kvHeads = b.kvHeads) && decide (a.headDim = b.headDim) &&
  decide (a.fmt = b.fmt) && decide (a.scales = b.scales)

/-- The check of SHARE: its status on failure (R180). -/
def shareBad (s : State) (n : Nat) (q : Seq) (src : Option Seq) : Option Nat :=
  match src with
  | none => some stBadParam
  | some a =>
    if !q.paged || !a.paged then some stNotPaged
    else if !(q.pt.isEmpty && q.len.all (· = 0)) || !sameGeom q a || decide (a.bound < n) then some stBadParam
    else if (List.range (ceilDiv n 64)).any (fun b => match tget none a.pt b with | some f => decide (65535 ≤ frRef s f) | none => false) then some stNoResource
    else none

/-- A SHARE reaches a sequence of a beam through its leader only, as its destination does (R183); one that NO_RESOURCE refuses sets
REF_SAT (R190). -/
def ptEdit (s : State) (f : Flight) (n c k srcC srcK op : Nat) : State :=
  match seq s (seqKey c k) with
  | none => complete s f stBadState 0 0
  | some q =>
    if q.leader ≠ k then complete s f stBadParam 0x16 0
    else
      let src := (seq s (seqKey srcC srcK)).filter (fun a => decide (a.leader = srcK))
      let bad := if op = 0 then shareBad s n q src else if op = 1 ∧ q.maxLen < n then some stBadParam else none
      match bad with
      | some st =>
        complete (if st = stNoResource then flag s 0x80004 1 else s) f st (if st = stBadParam then (if op = 0 ∧ src.isNone then 0x1A else 0x10) else 0) 0
      | none =>
        let e : KvEdit := if op = 0 then .share (seqKey srcC srcK) n else if op = 1 then .truncate n else .release
        let r := giveEdit s (seqKey c k) e
        if r.2 then complete r.1 f stDeferred 0 0
        else complete r.1 f stOk 0 (match seq r.1 (seqKey c k) with | some q => q.gen | none => 0)

def execPtEdit (c : Cmd) (n ctx seq srcCtx srcSeq op : Nat) (s : State) : Res :=
  .next (accept s c 0x6A [(decide (n < 2 ^ 32), 0x10), (decide (ctx < 0x4000), 0x14), (decide (seq < 1024), 0x16),
      (decide (op ≠ 0 ∨ srcCtx < 0x4000), 0x18), (decide (op ≠ 0 ∨ srcSeq < 1024), 0x1A), (decide (op < 3), 0x1C)] (fun s f =>
    if hostDenied f ctx then complete s f stDenied 0 0 else ptEdit s f n ctx seq srcCtx srcSeq op))

/-! ### Ring groups (R194, R288) -/

def groupOfParam (bs : List Byte) : RGroup :=
  let g := le bs 1 1
  let m (j : Nat) : Nat := 0x18 + 12 * j
  let cs := (List.range g).map (fun j => le bs (m j) 2)
  { start := le bs 0 1, g := g, ctxs := cs, leader := seqKey (cs.headD 0) (le bs 8 2),
    rbuf := (List.range g).map (fun j => le bs (m j + 4) 4), part := (List.range g).map (fun j => le bs (m j + 8) 4),
    tMax := le bs 2 2, topP := le bs 4 1, winW := le bs 5 1, evtAddr := le bs 0x10 8, evtMark := le bs 6 2 }

/-- Groups that core n serves. -/
def groupsOn (s : State) (n : Nat) : Nat :=
  (s.ring.groups.filter (fun e => match e.2 with | some r => decide ((n + 8 - r.start) % 8 < r.g) | none => false)).length

def groupOk (s : State) (bs : List Byte) : Bool :=
  let r := groupOfParam bs
  decide (r.start < 8) && decide (2 ≤ r.g) && decide (r.g ≤ 8) && decide (1 ≤ r.tMax) && decide (r.tMax ≤ 4096) &&
  decide (8 ≤ r.topP) && decide (r.topP ≤ 64) && decide (1 ≤ r.winW) && decide (r.winW ≤ 64) && decide (le bs 8 2 < 1024) &&
  zeros bs 10 6 && (List.range r.g).all (fun j => zeros bs (0x18 + 12 * j + 2) 2) && zeros bs (0x18 + 12 * r.g) (12 * (8 - r.g)) &&
  devRangeOk s r.evtAddr 512 &&
  (r.ctxs.mapIdx (fun j c => decide (c < 0x4000) && decide ((ctx s c).st ≠ .free) && decide ((ctx s c).core = (r.start + j) % 8))).all id &&
  (r.rbuf ++ r.part).all (fun a => decide (a < 2 ^ 24)) &&
  (match seq s r.leader with | some q => q.paged | none => false) &&
  (List.range r.g).all (fun j => decide (groupsOn s ((r.start + j) % 8) < 4))

def freeGroup (s : State) : Option Nat := (List.range 32).find? (fun g => (group s g).isNone)
def setGroup (s : State) (g : Nat) (r : Option RGroup) : State := { s with ring := { s.ring with groups := tset none s.ring.groups g r } }

def ringOpen (s : State) (f : Flight) (param : Nat) : State :=
  let bs := rdBytes s param 120
  if !rangeOk s param 120 then complete s f stBadParam 0x10 0
  else if hostFail f.c [param] then complete s f stHostErr 0 0
  else if readsPoison s param 120 then complete s f stPoisoned 0 0
  else if (groupOfParam bs).ctxs.any (hostDenied f) then complete s f stDenied 0 0
  else if !groupOk s bs then complete s f stBadParam 0x10 0
  else
    match freeGroup s with
    | none => complete s f stNoResource 0 0
    | some g => complete (setGroup s g (some (groupOfParam bs))) f stOk 0 g

def execRingGroupOpen (c : Cmd) (param : Nat) (s : State) : Res :=
  .next (accept s c 0x6C [(decide (param < 2 ^ 64), 0x10)] (fun s f => ringOpen s f param))

def execRingGroupClose (c : Cmd) (group : Nat) (s : State) : Res :=
  .next (accept s c 0x6D [(decide (group < 32), 0x10)] (fun s f =>
    match Machine.group s group with
    | none => complete s f stBadState 0 0
    | some _ => sweepRings (defer s f (.ringClose group) [])))

/-! ### Marks from the host (R258, R259) -/

def execMarkSignal (c : Cmd) (add mark : Nat) (s : State) : Res :=
  .next (accept s c 0x70 [(decide (add < 2 ^ 64), 0x10), (decide (mark < 65536), 0x18)]
    (fun s f => complete (signalExt s mark add) f stOk 0 0))

/-- The _HI word of the mark window signals the value it forms with the pending low half (R259). -/
def execMarkWindowHiWrite (mark : Nat) (v : Word) (s : State) : Res :=
  .next (if isReady s && decide (mark < 65536) then
      (let add := v.toNat * 2 ^ 32 + tget 0 s.marks.low mark
       signalExt s mark add)
    else s)

end Sys2Proof.Machine
end

