-- ==== Sys2Proof/Machine/Time.lean ====
section
/-! DEFINITION. Web time and timed actions (chapter 3): encoder counts, arming and firing of Shutter
entries, marker pulses, deadlines, lane start and stop lines, gap spans. -/

namespace Sys2Proof.Machine

/-! ### Encoder (R57, R58, R60) -/

/-- Web time follows the encoder (TMU_CTRL.SRC, R55). -/
def srcEncoder (s : State) : Bool := decide (rf s 0x20000 1 0 = 0)

/-- r + NUM split by DEN: lines gained, the new remainder and the published fraction (R57). With NUM = 0 web time advances by
nothing and keeps its published fraction, which never decreases (R55). -/
def forwardStep (s : State) : State :=
  let d := max 1 (den s)
  let r := s.tmu.rem + num s
  if num s = 0 then s else advanceTo s (s.tmu.line + r / d) (r % d) (r % d * 65536 / d)

def forwardCount (s : State) : State :=
  if s.tmu.debt > 0 then { s with tmu := { s.tmu with debt := s.tmu.debt - 1, sat := false } }
  else if srcEncoder s then forwardStep s else s

def execEncoderForwardCount (s : State) : Res :=
  .next (if powered s then forwardCount (periodCount s) else s)

def reverseCount (s : State) : State :=
  if s.tmu.debt = 1048575 then
    if s.tmu.sat then s else encCondition { s with tmu := { s.tmu with sat := true } } [7] 4
  else { s with tmu := { s.tmu with debt := s.tmu.debt + 1 } }

def execEncoderReverseCount (s : State) : Res :=
  .next (if powered s then reverseCount (periodCount s) else s)

/-- A Z edge compares the counts since the previous one with TMU_ZCOUNT and ends the check period (R60). -/
def zEdge (s : State) : State :=
  let z := s.tmu.zCnt
  let zEn := bit (rg s 0x20010) 3
  let want := rg s 0x20018
  let tol := rf s 0x20010 27 20
  let s := { s with tmu := { s.tmu with zCnt := 0, ill := if zEn then 0 else s.tmu.ill } }
  if zEn && (decide (want + tol < z) || decide (z + tol < want)) then encCondition s [1] 2 else s

def execEncZEdge (s : State) : Res := .next (if powered s then zEdge s else s)

def illegalTransition (s : State) : State :=
  let lim := rf s 0x20010 19 16
  let k := s.tmu.ill + 1
  let s := { s with tmu := { s.tmu with ill := k } }
  if lim ≠ 0 ∧ lim ≤ k then encCondition s [0] 1 else flag s 0x20004 0

def execEncIllegalTransition (s : State) : Res := .next (if powered s then illegalTransition s else s)

/-! ### Arming (R64, R65) -/

/-- The time base of an entry, now (R62). -/
def base (s : State) (e : Entry) : Nat := if e.dev then dt s else wt s

/-- The time base of an entry is at or beyond its target (R66). -/
def due (s : State) (e : Entry) : Bool := decide (e.target ≤ base s e)

/-- Between its firing and the end of its pulse a MARKER_PULSE entry takes no host write (R65). -/
def pulseRuns (e : Entry) : Bool := e.fired

/-- The entry armed with the content of its words and `w2` (R62, R65). -/
def armed (e : Entry) (w2 : Nat) : Entry :=
  { e with w2 := BitVec.ofNat 32 (w2 % 2 ^ 32 &&& 0xFFEFFFFF), owner := .host, armed := true, dev := bit w2 30, typ := bits w2 29 26,
           lane := bits w2 25 21, out := bits w2 19 16, len := bits w2 15 0, par := e.w3.toNat,
           target := e.w0.toNat + e.w1.toNat * 2 ^ 32, fired := false, asserted := false }

/-- A host write of word 2. A target equal to the present time has passed: the entry fires at once, and LATE_ARM is set (DESIGN
CHOICE, notes/assumptions/77.md). -/
def shutterArm (s : State) (k w2 : Nat) : State :=
  let off := 0x400000 + 16 * k + 8
  let e := ent s k
  if hostN s ≤ k then logUnsup s 0 off true
  else if pulseRuns e then logUnsup s 0 off true
  else if bit w2 31 then
    let t := bits w2 29 26
    if t ≠ 0 ∧ t ≠ 3 then logUnsup s 0 off true
    else
      let e' := armed e w2
      let s := setEnt s k e'
      if due s e' then flag s 0x20004 4 else s
  else setEnt s k { e with w2 := BitVec.ofNat 32 (w2 % 2 ^ 32 &&& 0xFFEFFFFF), owner := .free, armed := false, asserted := false }

def execShutterArm (entry w2 : Nat) (s : State) : Res :=
  .next (if powered s && decide (entry < 4096) then shutterArm s entry w2 else s)

/-! ### Marker pulses (R66, R70) -/

/-- The entry's pulse asserts: at the lead-compensated point for a web-time action, within the commit
window, else at the target (R70). -/
def assertDue (s : State) (e : Entry) : Bool :=
  e.armed && decide (e.typ = 0) && !e.asserted &&
  (if e.dev then due s e
   else (leadReached s e.out e.target && decide (e.target ≤ wt s + leadLines s e.out * 65536)) || due s e)

def execMarkerAssert (entry : Nat) (s : State) : Res :=
  let e := ent s entry
  .next (if powered s && assertDue s e then setEnt s entry { e with asserted := true, assertAt := base s e } else s)

/-- The entry reaches its target: from here its pulse runs to its end (R65, R66). -/
def execMarkerPulseFire (entry : Nat) (s : State) : Res :=
  let e := ent s entry
  .next (if powered s && e.armed && decide (e.typ = 0) && !e.fired && due s e then
      setEnt s entry { e with fired := true, asserted := true, assertAt := if e.asserted then e.assertAt else base s e }
    else s)

/-- The pulse ends: after N lines, compensated and clamped, or LEN x 100 ns (R70). -/
def deassertDue (s : State) (e : Entry) : Bool :=
  e.armed && decide (e.typ = 0) && e.asserted &&
  (if e.dev then decide (e.assertAt + e.len * 100 ≤ dt s)
   else
     (leadReached s e.out (e.target + e.len * 65536) &&
       decide (e.assertAt + e.len * 65536 ≤ wt s + leadLines s e.out * 65536)) ||
     decide (e.target + e.len * 65536 ≤ wt s))

def execMarkerDeassert (entry : Nat) (s : State) : Res :=
  let e := ent s entry
  .next (if powered s && deassertDue s e then releaseEntry s entry else s)

/-! ### Deadlines (R50, R67) -/

def updObj (l : Lane) (key : Nat) (f : Obj → Obj) : Lane :=
  { l with objs := l.objs.map (fun o => if o.key = key then f o else o) }

/-- A MARKER_PULSE of an object's action in the object's entry (R49, R67). -/
def armPulse (s : State) (k n : Nat) (i : JobImage) (cfg : LaneCfg) (a : Action) (origin : Nat) : State :=
  armHw s k (.lane n) false 0 n (if a = .mark then cfg.markMk else cfg.rejectMk) i.pulse
    (b2n (decide (a = .mark))) (origin + i.gateOfs * 65536)

/-- The deadline first: the entry turns into the fail-safe pulse and the object resolves as LATE (R67). -/
def deadlineFire (s : State) (k : Nat) : State :=
  let e := ent s k
  let n := e.lane
  match (lane s n).objs.find? (fun o => decide (o.entry = some k) && !o.late) with
  | none => s
  | some o =>
    let i := o.img
    let s := armPulse s k n i o.cfg (failAction i) o.origin
    checkStopped (setLane s n (updObj (lane s n) o.key (fun o => { o with late := true, lateAt := wt s }))) n

def execDeadlineFire (entry : Nat) (s : State) : Res :=
  let e := ent s entry
  .next (if powered s && e.armed && decide (e.typ = 6) && due s e then deadlineFire s entry else s)

/-! ### Lane start and stop lines (R35, R52, R54) -/

/-- Stop line and start line together bound a continuous restart (R54). -/
def stopLineDue (s : State) (l : Lane) : Bool := l.stopPend && decide (l.stopLine ≤ wt s)
def startLineDue (s : State) (l : Lane) : Bool := l.startPend && decide (l.startLine ≤ wt s)

def startLine (s : State) (n : Nat) : State :=
  let l := lane s n
  if stopLineDue s l && decide (l.stopLine ≠ l.startLine) then startNow (stopNow s n) n else startNow s n

def stopLine (s : State) (n : Nat) : State :=
  let l := lane s n
  if startLineDue s l && decide (l.stopLine = l.startLine) then startNow s n else stopNow s n

def execLaneStartLine (lane : Nat) (s : State) : Res :=
  .next (if powered s && startLineDue s (Machine.lane s lane) then startLine s lane else s)

def execLaneStopLine (lane : Nat) (s : State) : Res :=
  .next (if powered s && stopLineDue s (Machine.lane s lane) then stopLine s lane else s)

/-! ### Span entries (R38, R63, R68) -/

/-- The first span that reaches its start at the gate drives; a span that reaches its end there goes. -/
def spanStep (s : State) (n : Nat) : State :=
  let l := lane s n
  let g (x : Span) : Nat := x.gate * 65536
  let gone (x : Span) : Bool := match x.stop with
    | none => false
    | some e => decide (spanEndLine (e + g x) * 65536 ≤ wt s)
  let xs := (l.spans.filter (fun x => !gone x)).map (fun x =>
    if x.drives && decide (x.start + g x ≤ wt s) then { x with driving := true } else x)
  syncSpan (setLane s n { l with spans := xs }) n

def execSpanFire (lane : Nat) (s : State) : Res := .next (if powered s then spanStep s lane else s)

end Sys2Proof.Machine
end

