-- ==== Sys2Proof/Machine/Lanes.lean ====
section
/-! DEFINITION. Jobs and lanes: JOB_LOAD, JOB_UNLOAD, LANE_START, LANE_STOP, LANE_SET_VAR and LANE_RESTORE's effect
(R28 to R35, R41, R45, R51 to R54, R92, R100, R101, R216, R217, R222, R227, R337, R397, R400). -/

namespace Sys2Proof.Machine

/-! ### The checks of a job image (R28 to R30) -/

/-- The object length and the deadline fit before the gate (R15, R30). -/
def leadOk (i : JobImage) (lead : Nat) : Bool := decide (i.deadlineOfs + lenLines i + lead ≤ i.gateOfs)

def rectOk (r : Rect) : Bool := decide (r.x0 < r.x1) && decide (r.y0 < r.y1) && decide (r.x1 ≤ 65535) && decide (r.y1 ≤ 65535)

def expectOk : Expect → Bool
  | .lit t => decide (t.length ≤ 512) && wellFormed8 t
  | .var n => decide (n < 8)

/-- Raster pixels a rectangle spans in each direction before registration. -/
def cropSize (s : State) (d : Design) (r : Rect) : Nat × Nat :=
  (ceilDiv (ceilDiv ((r.x1 - r.x0) * 65536) d.pX) (ax s), ceilDiv (ceilDiv ((r.y1 - r.y0) * 65536) d.pL) (ay s))

/-- A field within its section limits (R28, R92, R217). -/
def fieldOk (s : State) (i : JobImage) (f : FieldDef) : Bool :=
  rectOk f.rect &&
  (match f.kind with
   | .text => decide (f.index < i.rules.length) && decide (f.confMin < 65536)
   | .code => decide (f.index < i.codes.length) && decide ((cropSize s i.design f.rect).1 ≤ 4096) && decide ((cropSize s i.design f.rect).2 ≤ 4096)
   | .patch => decide (f.index < i.colours.length) && decide (f.excl ≤ 255) &&
       decide (64 + 2 * f.excl ≤ f.rect.x1 - f.rect.x0) && decide (64 + 2 * f.excl ≤ f.rect.y1 - f.rect.y0))

/-- Symbology and options of R216. -/
def optsOk (c : CodeSpec) : Bool :=
  decide (c.sym ≤ 13) && decide (c.check ≤ (if c.sym = 6 then 2 else if c.sym = 7 then 1 else 0)) &&
  (!c.fullAscii || decide (c.sym = 6)) &&
  (if c.sym = 7 then decide (2 ≤ c.fixedLen) && decide (c.fixedLen ≤ 48) else decide (c.fixedLen = 0))

def codeOk (c : CodeSpec) : Bool :=
  optsOk c && decide (c.checks.length ≤ 4) && decide (c.minGrade ≤ 40) && decide (3 ≤ c.aperture) && decide (c.aperture ≤ 40) &&
  decide (c.action ≠ .none) && c.checks.all (fun k => expectOk k.expected)

def tenths (k : Nat) : Bool := decide (10 ≤ k) && decide (k ≤ 40)

def targetOk (t : ColourTarget) : Bool :=
  decide (t.formula ≤ 1) && tenths t.kl && tenths t.kc && tenths t.kh && decide (1 ≤ t.limit) && decide (t.limit ≤ 65535) &&
  decide (t.action ≠ .none)

def designOk (d : Design) : Bool :=
  decide (d.pL ≠ 0) && decide (d.pX ≠ 0) && decide (d.pL < 2 ^ 24) && decide (d.pX < 2 ^ 24) && decide (d.w ≤ 65535) && decide (d.h ≤ 65535) && decide (8 ≤ d.search) &&
  decide (d.search ≤ 4096) && decide (1 ≤ d.missLimit) && decide (d.missLimit ≤ 255)

/-- The limits of R28 and of the sections' own rules. -/
def limitsOk (s : State) (i : JobImage) : Bool :=
  designOk i.design && decide (1 ≤ i.stills.length) && decide (i.stills.length ≤ 64) && decide (i.fields.length ≤ 1024) &&
  decide (i.models.length ≤ 16) && decide (i.vslots.length ≤ 4) && i.vslots.all (fun v => decide (v < 16)) &&
  decide (i.rules.length ≤ 1024) && i.rules.all (fun r => expectOk r.expected) && decide (i.codes.length ≤ 256) &&
  decide (i.colours.length ≤ 1024) && decide (i.classes.length ≤ 15) &&
  i.classes.all (fun c => decide (1 ≤ c.cls) && decide (c.cls ≤ 15) && decide (c.action ≠ .none)) && decide (i.pulse < 65536) &&
  i.fields.all (fieldOk s i) && i.codes.all codeOk && i.colours.all targetOk &&
  i.stills.all (fun x => decide (x.role ≤ 4) && decide (x.artX % 4 = 0) && decide (x.artY % 4 = 0))

/-- Every rule's parameters are well formed (R45, R222, R400). -/
def rulesOk (i : JobImage) : Bool :=
  i.rules.all (fun r => !ruleBad r.rule r.expected) && i.codes.all (fun c => c.checks.all (fun k => !ruleBad k.rule k.expected))

def captionsOk (s : State) (i : JobImage) : Bool :=
  i.fields.all (fun f => decide (f.kind ≠ .text) || captionOk s f.caption)

/-- DETAIL is the offset of the image's first offending byte (R30). -/
def badImage (s : State) (f : Flight) (i : JobImage) : State := complete s f stBadParam (i.offending % 2 ^ 32) 0

/-- A still has only features of R96 and can take its role (R100, R101). -/
def stillOk (x : Still) : Bool := supported x.jpeg x.hdr && !(decide (x.role = 4) && x.jpeg && decide (x.hdr.comps = 1))

def jobLoad (s : State) (f : Flight) (src len slot : Nat) (i : JobImage) : State :=
  if (job s slot).st ≠ .empty then complete s f stInUse 0 0
  else if !rangeOk s src len then complete s f stBadParam 0x10 0
  else if hostFail f.c [src] then complete s f stHostErr 0 0
  else if (poisonIn s src len).isSome then complete s f stPoisoned 0 0
  else if !limitsOk s i || !rulesOk i then badImage s f i
  else if !((namedSlots i).all (fun v => (vocab s v).isSome)) then complete s f stNotReady 0 0
  else if !captionsOk s i then badImage s f i
  else if !leadOk i 0 then complete s f stBadLead 0 0
  else
    let ok := i.stills.all stillOk
    let s := setJob s slot { st := .loading, img := i, bad := !ok }
    defer (if ok then enqueueRefs s slot (List.range i.stills.length) false else s) f (.jobLoad slot) []

def execJobLoad (c : Cmd) (src len slot : Nat) (img : JobImage) (s : State) : Res :=
  .next (accept s c 0x20 [(decide (slot < 64), 0x1C)] (fun s f => jobLoad s f src len slot img))

/-! ### Reference stills (R96, R100, R101) -/

/-- A decoded sample as a reference byte: Main 10 samples are reduced (R100). -/
def refByte (ten : Bool) (v : Nat) : Nat := if ten then min 255 (rhe v 4).toNat else v % 256

/-- The channel bytes of pixel (x, y) of a still. -/
def stillPx (st : Still) (p : Picture) (x y v : Nat) : List (Nat × Nat) :=
  let ch (pl : List (List Nat)) : Nat := refByte p.ten ((pl.getD (y / p.vs) []).getD (x / p.hs) 0)
  if st.role = 4 then [(0, refByte p.ten v), (1, ch p.cb), (2, ch p.cr)] else [(st.role, refByte p.ten v)]

def refKey (x y c : Nat) : Nat := (y * 65536 + x) * 4 + c

/-- One still laid over the artwork; a later still wins (R100). -/
def placeStill (d : Design) (t : Tab (Option Nat)) (e : Still × Picture) : Tab (Option Nat) :=
  (e.2.y.mapIdx (fun y r => (y, r))).foldl (fun t row =>
    (row.2.mapIdx (fun x v => (x, v))).foldl (fun t px =>
      let x := e.1.artX / 4 + px.1
      let y := e.1.artY / 4 + row.1
      if x < refW d ∧ y < refH d then (stillPx e.1 e.2 px.1 row.1 px.2).foldl (fun t c => tset none t (refKey x y c.1) (some c.2)) t
      else t) t) t

/-- A reference pixel's channel as every lane reads it (R100, R101). -/
def refPixel (j : Job) (x y c : Nat) : Nat := (tget none j.ref (refKey x y c)).getD (j.img.design.background.getD c 0)

/-- The pictures of a job's stills, where all are decoded. -/
def decodedPics (j : Job) : Option (List Picture) := (List.range j.img.stills.length).mapM (fun i => tget none j.pics i)

/-- A load ends once every still is decoded, or one of them fails (R30, R101). -/
def jobLoadDone (s : State) (slot : Nat) : State :=
  let j := job s slot
  if j.bad then completeAwait (setJob s slot {}) (.jobLoad slot) stDecodeErr 0 0
  else
    match decodedPics j with
    | none => s
    | some pics =>
      completeAwait (setJob s slot { j with st := .ready, pics := [], ref := (j.img.stills.zip pics).foldl (placeStill j.img.design) [] })
        (.jobLoad slot) stOk 0 0

def execJobLoadComplete (slot : Nat) (s : State) : Res :=
  .next (if isReady s && decide ((job s slot).st = .loading) then jobLoadDone s slot else s)

/-! ### Unloading (R31) -/

def laneRefs (slot : Nat) (l : Lane) : Bool :=
  ((isActive l.st || decide (l.st = .outOfService)) && decide (l.act.slot = slot)) ||
  (l.startPend && decide (l.pend.slot = slot)) || l.objs.any (fun o => !o.late && decide (o.job = slot))

def jobReferenced (s : State) (slot : Nat) : Bool :=
  s.lanes.any (fun e => laneRefs slot e.2) ||
  s.adapts.any (fun e => match e.2 with | some a => decide (a.p.srcJob = slot) | none => false) ||
  s.jobs.any (fun e => decide (e.2.base = some slot))

def jobUnload (s : State) (f : Flight) (slot : Nat) : State :=
  if jobReferenced s slot || decide ((job s slot).st = .loading) then complete s f stInUse 0 0
  else complete (dropRefs (setJob { s with hot := s.hot.filter (fun e => decide (e.1 ≠ slot)) } slot {}) slot) f stOk 0 0

def execJobUnload (c : Cmd) (slot : Nat) (s : State) : Res :=
  .next (accept s c 0x21 [(decide (slot < 64), 0x10)] (fun s f => jobUnload s f slot))

/-! ### LANE_START (R35, R51, R53, R54, R397) -/

def startAdmitted (l : Lane) : Bool :=
  !l.startPend && (decide (l.st = .stopped) || decide (l.st = .stopping) ||
    ((decide (l.st = .acquiring) || decide (l.st = .running)) && l.stopPend))

/-- Device pixels from `a` up to and with `b` are delivered by enabled ports. -/
def delivered (s : State) (b : Nat) : Nat → Nat → Bool
  | 0, a => decide (b < a)
  | n + 1, a =>
    if b < a then true
    else match ((List.range 8).filterMap (portRange s)).find? (fun r => decide (r.1 ≤ a) && decide (a < r.2)) with
      | some r => delivered s b n r.2
      | none => false

def overlapsActive (s : State) (n a b : Nat) : Bool :=
  s.lanes.any (fun e => decide (e.1 ≠ n) && isActive e.2.st && meets e.2.act.pixStart (e.2.act.pixEnd + 1) a (b + 1))

/-- A rule of the job can produce MARK (R51). -/
def markPossible (i : JobImage) : Bool :=
  i.failMark || i.classes.any (fun c => decide (c.action = .mark)) ||
  i.fields.any (fun f => match f.kind with
    | .text => decide (f.action = .mark)
    | .code => (match i.codes[f.index]? with | some c => decide (c.action = .mark) | none => false)
    | .patch => (match i.colours[f.index]? with | some c => decide (c.action = .mark) | none => false))

/-- The lead of every output the lane names (R15, R53). -/
def leadFits (s : State) (c : LaneCfg) (i : JobImage) : Bool :=
  leadOk i (leadLines s c.rejectMk) && (!c.markEn || leadOk i (leadLines s c.markMk))

def dateVarOk (vars : Tab (List Byte)) (r : Rule) (e : Expect) : Bool :=
  match r, e with
  | .date f _ _, .var n => (dateOf f (tget [] vars n)).isSome
  | _, _ => true

/-- Every lane variable a DATE rule names parses under its format (R400). -/
def dateVarsOk (c : LaneCfg) (i : JobImage) : Bool :=
  i.rules.all (fun r => dateVarOk c.vars r.rule r.expected) &&
  i.codes.all (fun k => k.checks.all (fun r => dateVarOk c.vars r.rule r.expected))

/-- Entries the lane still needs from the free pool (R53, R397). -/
def entriesNeeded (l : Lane) : Nat := (l.pend.objSlots - l.entries.length) + (if l.spanEntry.isSome then 0 else 1)

/-- The checks of R53 in the order of its table; none when all pass. -/
def startBad (s : State) (n start : Nat) : Option Nat :=
  let l := lane s n
  let c := l.pend
  let j := job s c.slot
  if j.st ≠ .ready then some stNotReady
  else if c.pixEnd < c.pixStart ∨ !delivered s c.pixEnd 9 c.pixStart then some stBadSpan
  else if overlapsActive s n c.pixStart c.pixEnd then some stLaneOverlap
  else if c.pixEnd - c.pixStart + 1 < widPix j.img then some stBadSpan
  else if c.objSlots < 4 ∨ 256 < c.objSlots then some stBadParam
  else if shFree s < entriesNeeded l then some stNoResource
  else if markPossible j.img && !c.markEn then some stNoMarker
  else if !leadFits s c j.img then some stBadLead
  else if start < l.stopLine then some stBadState
  else if !dateVarsOk c j.img then some stBadParam
  else none

/-- A late start: the lines between the requested start line and now are reported, and covered by the span entry
unless an open gap covers them already (R54). -/
def lateGap (s : State) (n start : Nat) : State :=
  let l := lane s n
  let i := laneImg s l.pend
  let s := report s 0x0201 (some n) 0 0 (leBytes 8 start ++ leBytes 8 (wt s) ++ leBytes 1 2)
  if l.spans.any (fun x => decide (x.stop = none)) ∨ l.pend.gap ≠ 1 then s
  else addSpan s n { start := start, stop := some (wt s), cause := 2, gate := i.gateOfs, out := failOut i l.pend }

/-- The accepted start: entries are reserved, then the start is scheduled, or takes effect at once (R54, R397). -/
def laneStart (s : State) (n start : Nat) : State :=
  let l := lane s n
  let s := reserveSpan (reserveEntries s n (l.pend.objSlots - l.entries.length)) n
  let s := if stopLineDue s (lane s n) && decide ((lane s n).stopLine < start) then stopNow s n else s
  let s := if start < wt s then lateGap s n start else s
  let s := setLane s n { lane s n with startPend := true, startLine := max start (wt s) }
  if startLineDue s (lane s n) then startLine s n else armLine s n 4 start

/-- The checks of R53 name no byte: their replies carry DETAIL 0 (DESIGN CHOICE, notes/assumptions/77.md). -/
def execLaneStart (c : Cmd) (start lane : Nat) (s : State) : Res :=
  .next (accept s c 0x28 [(decide (start < 2 ^ 64), 0x10), (decide (lane < 32), 0x18)] (fun s f =>
    if !startAdmitted (Machine.lane s lane) then complete s f stBadState 0 0
    else match startBad s lane start with
      | some st => complete s f st 0 0
      | none => complete (laneStart s lane start) f stOk 0 (max start (wt s))))

/-! ### LANE_STOP, LANE_SET_VAR, LANE_RESTORE (R34, R35, R52, R337) -/

def laneStop (s : State) (n stop : Nat) : State :=
  let s := setLane s n { lane s n with stopPend := true, stopLine := max stop (wt s), winDone := false }
  if stopLineDue s (lane s n) then stopLine s n else armLine s n 5 stop

def stopAdmitted (l : Lane) : Bool := (decide (l.st = .acquiring) || decide (l.st = .running)) && !l.stopPend

def execLaneStop (c : Cmd) (stop lane : Nat) (s : State) : Res :=
  .next (accept s c 0x29 [(decide (stop < 2 ^ 64), 0x10), (decide (lane < 32), 0x18)] (fun s f =>
    if !stopAdmitted (Machine.lane s lane) then complete s f stBadState 0 0
    else complete (laneStop s lane stop) f stOk 0 (max stop (wt s))))

/-- The pending copy is open for writing (R33). -/
def pendOpen (l : Lane) : Bool := !l.startPend && (decide (l.st = .stopped) || decide (l.st = .stopping) || l.stopPend)

def setVar (s : State) (f : Flight) (src n v len : Nat) : State :=
  let l := lane s n
  if len ≠ 0 ∧ !rangeOk s src len then complete s f stBadParam 0x10 0
  else if !pendOpen l then complete s f stBadState 0 0
  else if len ≠ 0 ∧ hostFail f.c [src] then complete s f stHostErr 0 0
  else if len ≠ 0 ∧ (poisonIn s src len).isSome then complete s f stPoisoned 0 0
  else complete (setLane s n { l with pend := { l.pend with vars := tset [] l.pend.vars v (rdBytes s src len) } }) f stOk 0 0

def execLaneSetVar (c : Cmd) (src lane var len : Nat) (s : State) : Res :=
  .next (accept s c 0x2A [(decide (lane < 32), 0x18), (decide (var < 8), 0x19), (decide (len ≤ 64), 0x1A)]
    (fun s f => setVar s f src lane var len))

/-- An OUT_OF_SERVICE lane returns to STOPPED (R337). -/
def laneRestore (s : State) (n : Nat) : State :=
  let l := lane s n
  let s := { s with flt := { s.flt with laneEv := tset [] s.flt.laneEv n [] } }
  let s := putLaneState (setLane s n { l with oosHold := false, stopLine := l.oosAt }) n .stopped 0
  let s := if (lane s n).spanEntry.isSome then openGap s n l.oosAt 1 else s
  trimLane s n

end Sys2Proof.Machine
end

