-- ==== Sys2Proof/Machine/Rings.lean ====
section
/-! DEFINITION. Salhan ring commands, doorbells, and the memory and diagnostic commands (R271 to R275, R281, R282, R286,
R291, R296, R297, R329). -/

namespace Sys2Proof.Machine

/-- A ring's memory: aligned to 4 KiB, whole in one region (R271). -/
def ringMemOk (s : State) (base bytes : Nat) : Bool := decide (base % 4096 = 0) && rangeOk s base bytes

def vecOkay (v : Nat) : Bool := decide (v < 2048) || decide (v = 0xFFFF)
def vecOpt (v : Nat) : Option Nat := if v = 0xFFFF then none else some v

/-! ### Creation and deletion (R282) -/

def execSqCreate (c : Cmd) (base sq log2 cq prio : Nat) (s : State) : Res :=
  .next (accept s c 0x80 [(ringMemOk s base (64 * ringSize (min 16 log2)), 0x10), (decide (sq < 256), 0x18),
      (decide (4 ≤ log2 ∧ log2 ≤ 16), 0x19), (decide (cq < 256) && (Machine.cq s cq).isSome, 0x1A), (decide (prio < 4), 0x1B)] (fun s f =>
    if (Machine.sq s sq).isSome then complete s f stInUse 0 0
    else if sq = 0 then complete s f stBadParam 0x18 0
    else complete (setSq s sq (some { base := base, log2 := log2, cq := cq, prio := prio })) f stOk 0 0))

/-- Commands of the ring not yet accepted are discarded; the ring goes once the accepted ones have completed. -/
def sqDelete (s : State) (f : Flight) (n : Nat) : State :=
  match sq s n with
  | none => complete s f stBadParam 0x10 0
  | some r =>
    if n = 0 ∨ n = f.c.sq then complete s f stBadParam 0x10 0
    else
      let k := (r.tail + ringSize r.log2 - r.head) % ringSize r.log2
      let s := defer (setSq s n (some { r with head := r.tail })) f (.sqDelete n k) []
      finishDeletes s s.sal.flights

def execSqDelete (c : Cmd) (sq : Nat) (s : State) : Res :=
  .next (accept s c 0x81 [(decide (sq < 256), 0x10)] (fun s f => sqDelete s f sq))

def execCqCreate (c : Cmd) (base vec cq log2 : Nat) (s : State) : Res :=
  .next (accept s c 0x82 [(ringMemOk s base (32 * ringSize (min 16 log2)), 0x10), (vecOkay vec, 0x18), (decide (cq < 256), 0x1A),
      (decide (4 ≤ log2 ∧ log2 ≤ 16), 0x1B)] (fun s f =>
    if (Machine.cq s cq).isSome then complete s f stInUse 0 0
    else if cq = 0 then complete s f stBadParam 0x1A 0
    else complete (setCq s cq (some { base := base, log2 := log2, vec := vecOpt vec })) f stOk 0 0))

def execCqDelete (c : Cmd) (cq : Nat) (s : State) : Res :=
  .next (accept s c 0x83 [(decide (1 ≤ cq ∧ cq < 256) && (Machine.cq s cq).isSome, 0x10)] (fun s f =>
    if s.sal.sq.any (fun e => match e.2 with | some r => decide (r.cq = cq) | none => false) then complete s f stInUse 0 0
    else complete (setCq s cq none) f stOk 0 0))

def execRqCreate (c : Cmd) (base lanes cats vec wm hold rq log2 : Nat) (s : State) : Res :=
  .next (accept s c 0x84 [(ringMemOk s base (128 * ringSize (min 16 log2)), 0x10), (decide (lanes < 2 ^ 32), 0x18),
      (decide (cats < 2 ^ 16), 0x1C), (vecOkay vec, 0x1E), (decide (wm < 2 ^ 16), 0x20), (decide (hold < 2 ^ 16), 0x22),
      (decide (rq < 16), 0x24), (decide (4 ≤ log2 ∧ log2 ≤ 16) && !(bit cats 1 && decide (log2 < 6)), 0x25)] (fun s f =>
    if (Machine.rq s rq).isSome then complete s f stInUse 0 0
    else complete (setRq s rq (some { base := base, log2 := log2, lanes := lanes, cats := cats, vec := vecOpt vec, wm := wm, hold := hold }))
      f stOk 0 0))

/-- Spilled records and the pending tally count as unrouted. -/
def execRqDelete (c : Cmd) (rq : Nat) (s : State) : Res :=
  .next (accept s c 0x85 [(decide (rq < 16) && (Machine.rq s rq).isSome, 0x10)] (fun s f =>
    match Machine.rq s rq with
    | none => s
    | some r => complete (bedResumeAuto (setRq (bump s 0x50138 (r.spill.length + r.tally.records)) rq none)) f stOk 0 0))

/-! ### Doorbells (R274) -/

def badDoorbell (s : State) (off : Nat) : State := logUnsup (flag s 0x50120 5) 0 off true

def sqTail (s : State) (n idx : Nat) : State :=
  match sq s n with
  | none => badDoorbell s (0x700000 + 8 * n)
  | some r => if ringSize r.log2 ≤ idx then badDoorbell s (0x700000 + 8 * n) else setSq s n (some { r with tail := idx })

def execSqTailDoorbell (sq idx : Nat) (s : State) : Res :=
  .next (if powered s && decide (sq < 256) then sqTail s sq (idx % 65536) else s)

/-- Entries a head doorbell reads: of a full ring the head's own index means all of them (notes/assumptions). -/
def headMove (size rd written idx : Nat) : Nat :=
  let k := (idx + size - rd % size) % size
  if k = 0 ∧ written = size then size else k

/-- Replies that waited are posted while there is room (R281). -/
def postWaiting (n : Nat) : List Reply → State → State
  | [], s => s
  | p :: t, s =>
    match cq s n with
    | none => s
    | some r =>
      if p.write ∧ cqRoom r = false then s
      else
        let r' := { r with wait := t }
        postWaiting n t (doReply (setCq s n (some r')) n r' p)

def cqHead (s : State) (n idx : Nat) : State :=
  let off := 0x700000 + 8 * n + 4
  match cq s n with
  | none => badDoorbell s off
  | some r =>
    let k := headMove (ringSize r.log2) r.rd (r.wr - r.rd) idx
    if ringSize r.log2 ≤ idx ∨ r.wr - r.rd < k then badDoorbell s off
    else
      let s := postWaiting n r.wait (setCq s n (some { r with rd := r.rd + k }))
      finishDeletes s s.sal.flights

def execCqHeadDoorbell (cq idx : Nat) (s : State) : Res :=
  .next (if powered s && decide (cq < 256) then cqHead s cq (idx % 65536) else s)

def rqHead (s : State) (n idx : Nat) : State :=
  let off := 0x700800 + 4 * n
  match rq s n with
  | none => badDoorbell s off
  | some r =>
    let k := headMove (ringSize r.log2) (r.wr - r.unread.length) r.unread.length idx
    if ringSize r.log2 ≤ idx ∨ r.unread.length < k then badDoorbell s off
    else bedResumeAuto (drainRing (setRq s n (some { r with unread := r.unread.drop k, holdDone := if k = 0 then r.holdDone else false })) n)

def execRqHeadDoorbell (rq idx : Nat) (s : State) : Res :=
  .next (if powered s && decide (rq < 16) then rqHead s rq (idx % 65536) else s)

/-- The oldest unread record has waited HOLD_US (R291). -/
def execRqHoldTimer (rq : Nat) (s : State) : Res :=
  .next (match Machine.rq s rq with
    | none => s
    | some r =>
      match r.unread with
      | [] => s
      | t :: _ =>
        if powered s && decide (r.hold ≠ 0) && !r.holdDone && decide (t + r.hold * 1000 ≤ dt s) then
          raiseVec (setRq s rq (some { r with holdDone := true })) r.vec
        else s)

/-! ### Memory and diagnostics (R286) -/

/-- What the destination holds after a copy that failed is not stated. -/
def failedCopy (s : State) (dst len : Nat) : State := fillFree s dst len

/-- Errors among those listed that a read of `n` bytes at `a` meets. -/
def eccWithin (s : State) (a n : Nat) (l : List (Nat × Bool)) : List (Nat × Bool) :=
  l.filter (fun e => decide (poisonKey s a ≤ poisonKey s e.1) && decide (e.1 < a + n))

/-- The copy itself, charged to class 4 (R265, R269). -/
def runCopy (s : State) (f : Flight) (src dst len : Nat) (ecc : List (Nat × Bool)) : State :=
  let s' := chargeDram (eccErrors s (eccWithin s src len ecc)) 4 (dramOf s src len + dramOf s dst len)
  if hostFail f.c [src, dst] then complete (failedCopy s' dst len) f stHostErr 0 0
  else if readsPoison s' src len then complete (failedCopy s' dst len) f stPoisoned 0 0
  else complete (storeBytes s' dst (rdBytes s' src len)) f stOk 0 0

/-- Class 4 has reached its DRAM cap: its work waits for the next boundary (R265). -/
def dramOut (s : State) : Bool := decide (dramCap s 4 ≤ dramUsed s 4)

def dmaCopy (s : State) (f : Flight) (src dst len : Nat) (ecc : List (Nat × Bool)) : State :=
  if dramOf s src len + dramOf s dst len ≠ 0 ∧ dramOut s then defer s f (.copy src dst len ecc) [] else runCopy s f src dst len ecc

/-- `ecc` are the errors that the copy's reads meet (R318, R321). -/
def execDmaCopy (c : Cmd) (src dst len : Nat) (ecc : List (Nat × Bool)) (s : State) : Res :=
  .next (accept s c 0x88 [(rangeOk s src len, 0x10), (rangeOk s dst len, 0x18), (decide (len < 2 ^ 32), 0x20)]
    (fun s f => dmaCopy s f src dst len ecc))

/-- `n` bytes of the pattern from its byte 0 on. -/
def patternBytes (p n : Nat) : List Byte := (List.range n).map (fun i => BitVec.ofNat 8 (p / 256 ^ (i % 8)))

def runFill (s : State) (f : Flight) (dst pattern len : Nat) : State :=
  let s := chargeDram s 4 (dramOf s dst len)
  if hostFail f.c [dst] then complete (failedCopy s dst len) f stHostErr 0 0
  else complete (storeBytes s dst (patternBytes pattern len)) f stOk 0 0

def memFill (s : State) (f : Flight) (dst pattern len : Nat) : State :=
  if dramOf s dst len ≠ 0 ∧ dramOut s then defer s f (.fill dst pattern len) [] else runFill s f dst pattern len

def execMemFill (c : Cmd) (dst pattern len : Nat) (s : State) : Res :=
  .next (accept s c 0x89 [(rangeOk s dst len, 0x10), (decide (pattern < 2 ^ 64), 0x18), (decide (len < 2 ^ 32), 0x20)]
    (fun s f => memFill s f dst pattern len))

/-- Copies and fills that waited for class 4's budget run while it lasts (R265). -/
def runHeld : List Flight → State → State
  | [], s => s
  | f :: t, s =>
    if dramOut s then s
    else
      let s' : State := { s with sal := { s.sal with flights := s.sal.flights.erase f } }
      match f.await with
      | .copy src dst len ecc => runHeld t (runCopy s' f src dst len ecc)
      | .fill dst pattern len => runHeld t (runFill s' f dst pattern len)
      | _ => runHeld t s

def releaseHeldDram (s : State) : State := let s := runHeld s.sal.flights s; finishDeletes s s.sal.flights

/-- A period boundary; work that waited for a budget goes on (R108, R262, R265). -/
def execHoistPeriodBoundary (s : State) : Res :=
  .next (if powered s && boundaryDue s then releaseHeldDram (startPics (boundary s)) else s)

/-- A slot of the fault ring that has held no record since power-up is zero (R329). -/
def slotBytes (s : State) (i : Nat) : List Byte :=
  if i < s.flt.count then recordBytes (tget {} s.flt.ring i) else List.replicate 4096 0

def fltRead (s : State) (f : Flight) (dst idx : Nat) : State :=
  if hostFail f.c [dst] then complete (failedCopy s dst 4096) f stHostErr 0 0
  else complete (storeBytes s dst (slotBytes s idx)) f stOk 0 (if idx < s.flt.count then (tget {} s.flt.ring idx).dt else 0)

def execFltRead (c : Cmd) (dst idx : Nat) (s : State) : Res :=
  .next (accept s c 0xB0 [(rangeOk s dst 4096, 0x10), (decide (idx < 64), 0x18)] (fun s f => fltRead s f dst idx))

def execNop (c : Cmd) (s : State) : Res := .next (accept s c 0xBF [] (fun s f => complete s f stOk 0 0))

end Sys2Proof.Machine
end

