-- ==== Sys2Proof/Machine/Faults.lean ====
section
/-! DEFINITION. Detection, context resets, tier B, marker readback and the shared-structure errors (R71, R74, R201, R202,
R324 to R342). -/

namespace Sys2Proof.Machine

/-! ### Context faults (R324, R331 to R333) -/

/-- The causes a unit raises for the context it works for (R324). -/
def unitCauses : List Nat :=
  [0x0101, 0x0102, 0x0103, 0x0104, 0x0105, 0x0106, 0x0201, 0x0202, 0x0203, 0x0204, 0x0301, 0x0302, 0x0303, 0x0304, 0x0305]

/-- What the unit that detects a fault records about it beside the fault: the poison that a read has left, and its status flags
(R116, R167, R176, R189, R258, R318, R321). -/
def detected (s : State) (c cause a : Nat) : State :=
  if cause = 0x0201 then flag (uncorrected s a) (coreBase (ctx s c).core + 4) 5
  else if cause = 0x0202 ∨ cause = 0x0203 then uncorrected s a
  else if cause = 0x0204 then (poisonFlags (uncorrected s a) c a).1
  else if cause = 0x0303 then flag s (lpe s c + 4) 1
  else if cause = 0x0304 then flag (flag s (lpe s c + 4) 3) 0x80004 3
  else if cause = 0x0105 then flag s 0x50004 1
  else s

/-- A unit's fault of a context that is not FREE, OPEN or FAULTED already. -/
def execContextFault (ctx : Nat) (info : FaultInfo) (s : State) : Res :=
  .next (if powered s && unitCauses.contains info.cause then
      (let st := (Machine.ctx s ctx).st
       let s := if st = .free ∨ st = .opened then s else detected s ctx info.cause info.addr
       faultCtx s ctx { cause := info.cause, tier := 1, descTag := info.descTag.toNat, pc := info.pc, addr := info.addr })
    else s)

/-- The rotation positions of buffer b that a stripe context signals releases for (R162, R326). -/
def positionsOf (s : State) (b c : Nat) : List Nat :=
  (List.range (sbNc s b)).filter (fun p => (signallers s (sbRel s b + p)).contains c)

/-- Stripes of a rotation position that have begun and are not released (R332). -/
def openStripes (s : State) (b pos : Nat) (x : StripeBuf) : List Nat :=
  (List.range (ceilDiv x.head (max 1 (sbSh s b)))).filter (fun k => decide (k % sbNc s b = pos) && !stripeReleased s b x k)

/-- They become STALE, and the buffer signals M_REL for each of them (R332). -/
def staleStripe (b pos : Nat) (s : State) (k : Nat) : State :=
  match sb s b with
  | none => s
  | some x =>
    let s := if (x.stale.map (·.1)).contains k then s else makeStale b s k
    signalExt s (sbRel s b + pos) 1

def stalePosition (b : Nat) (s : State) (pos : Nat) : State :=
  match sb s b with
  | none => s
  | some x => (openStripes s b pos x).foldl (staleStripe b pos) s

def staleStripesOf (s : State) (c : Nat) : State :=
  if 0x1000 ≤ c then s
  else (s.fe.sbs.map (·.1)).foldl (fun s b => (positionsOf s b c).foldl (stalePosition b) (releaseAll s b)) s

/-- The next queued reset starts once fewer than 16 run (R333). -/
def startQueued (s : State) : State :=
  if 16 ≤ activeResets s then s
  else
    match s.flt.resets.find? (fun r => !r.active) with
    | none => s
    | some r =>
      let rs := s.flt.resets.map (fun x => if x.ctx = r.ctx then { x with active := true } else x)
      let s := resetSteps { s with flt := { s.flt with resets := rs } } r.ctx
      setCtx s r.ctx { ctx s r.ctx with wait := none }

/-- Step 9 of a reset and what follows it: the abort completes, lanes and device escalate (R331, R335, R336). -/
def resetDone (s : State) (r : ResetRun) : State :=
  let s := { s with flt := { s.flt with resets := s.flt.resets.filter (fun x => decide (x.ctx ≠ r.ctx)) } }
  let s := setCtx s r.ctx { ctx s r.ctx with st := .opened }
  let s := completeAwait (staleStripesOf s r.ctx) (.ctxAbort r.ctx) stOk 0 0
  startQueued (escalate s r.lanes r.dev)

def execContextResetComplete (ctx : Nat) (s : State) : Res :=
  .next (match s.flt.resets.find? (fun r => decide (r.ctx = ctx) && r.active) with
    | some r => if powered s then resetDone s r else s
    | none => s)

/-! ### The Halyard detector (R326, R327) -/

/-- The head descriptor of the unit the context's next descriptor waits for, where that unit's queue is full and its
head is itself blocked, at a group barrier. -/
def blockedBehind (s : State) (c : Nat) : Option Nat :=
  let x := ctx s c
  let k := core s x.core
  if x.st ≠ .ready ∧ x.st ≠ .running then none
  else
    match readDesc s (descAt s x.pc) with
    | none => none
    | some op =>
      let u := opUnit op
      if u = 5 ∨ places k u < 4 then none
      else
        match unitQ k u with
        | d :: _ => if d.barrier then some d.ctx else none
        | [] => none

/-- Contexts WAITING or blocked whose edges count: not HELD, not STOPPED, not on a halted core. -/
def waits (s : State) (c : Nat) : Bool :=
  let x := ctx s c
  !x.held && !(core s x.core).halted && (decide (x.st = .waiting) || (blockedBehind s c).isSome)

/-- Where a context's edges lead, through marks; none where an external feed breaks them. -/
def edges (s : State) (c : Nat) : List Nat :=
  match (ctx s c).wait with
  | some (.mark m _) => if tget false s.marks.extFed m then [] else signallers s m
  | some (.barrier g) =>
    (match group s g with
     | some r => r.ctxs.filter (fun d => (ringDesc s g d).isNone)
     | none => [])
  | none => (blockedBehind s c).toList

/-- Contexts reached in at most n edges. -/
def reach (s : State) : Nat → List Nat → List Nat
  | 0, l => l
  | n + 1, l => reach s n ((l ++ (l.map (edges s)).flatten).eraseDups)

/-- Since when the context waits. -/
def since (s : State) (c : Nat) : Nat := if (ctx s c).st = .waiting then (ctx s c).waitSince else tget (dt s) s.flt.blocked c

/-- The knot of context `c`: every context reached from it waits, has an edge, and leads back to it. -/
def knotOf (s : State) (ws : List Nat) (c : Nat) : Option (List Nat) :=
  let r := reach s ws.length (edges s c)
  if r.contains c && r.all (fun d => ws.contains d && !(edges s d).isEmpty && (reach s ws.length (edges s d)).contains c) then
    some (ws.filter (fun d => r.contains d))
  else none

def minWait (s : State) : Nat := rf s 0x30030 23 0 * 1000

/-- The knots of a scan whose members have all waited long enough. -/
def findKnots (s : State) (ws : List Nat) : List (List Nat) :=
  ((ws.filterMap (knotOf s ws)).eraseDups).filter (fun k => k.all (fun c => decide (since s c + minWait s ≤ dt s)))

/-- The member that entered its wait last, the lower ID on a tie. -/
def named (s : State) : List Nat → Option Nat
  | [] => none
  | c :: t => match named s t with
    | none => some c
    | some d => if since s c < since s d then some d else some c

/-- No member has changed state since the scan before. -/
def steady (s : State) (k : List Nat) : Bool := k.all (fun c => decide (since s c ≤ s.flt.scanAt))

/-- The unit whose full queue holds the context's next descriptor back. -/
def blockUnit (s : State) (c : Nat) : Nat :=
  if (ctx s c).st = .waiting then 0
  else match readDesc s (descAt s (ctx s c).pc) with
    | some op => opUnit op
    | none => 0

/-- The position and TAG of the descriptor in which a context of a knot waits (R330). -/
def waitDesc (s : State) (c : Nat) : Nat × Nat :=
  let x := ctx s c
  match x.wait with
  | some (.barrier g) => (match ringDesc s g c with | some d => (d.pc, d.tag) | none => (0, 0))
  | _ => (x.pc, rdLe s (x.pc + 4) 4)

def reportKnot (s : State) (k : List Nat) : State :=
  match named s k with
  | none => s
  | some c =>
    let d := waitDesc s c
    hangFault s c { cause := 0x0401, tier := 1, descTag := d.2, pc := d.1, mem := k.map (fun d => d + 65536 * blockUnit s d) }

def scan (s : State) : State :=
  let ids := s.ctxs.map (·.1)
  let b := ids.foldl (fun t c => if (blockedBehind s c).isSome then tset 0 t c (tget (dt s) s.flt.blocked c) else t) []
  let s := { s with flt := { s.flt with blocked := b } }
  let ks := findKnots s (ids.filter (waits s))
  let sure := ks.filter (fun k => s.flt.knots.contains k && steady s k)
  let s := { s with flt := { s.flt with knots := ks.filter (fun k => !sure.contains k), scanAt := dt s } }
  sure.foldl reportKnot s

/-- A scan falls at each 10 µs of device time while HALYARD_EN is set. -/
def execHalyardScan (s : State) : Res :=
  .next (if isReady s && bit (rg s 0x30000) 0 && decide (dt s % 10000 = 0) && decide (s.flt.scanAt ≠ dt s) then scan s else s)

/-! ### Progress watchdogs (R328) -/

def wdLimit (s : State) (x : Ctx) : Nat :=
  (if x.wdog = 0 then rf s (0x30200 + 4 * x.cls) 25 0 else x.wdog) * 1000

def execWatchdogExpiry (ctx : Nat) (s : State) : Res :=
  let x := Machine.ctx s ctx
  .next (if isReady s && (decide (x.st = .ready) || decide (x.st = .running) || decide (x.st = .waiting)) && decide (wdLimit s x ≤ x.wd) then
      hangFault s ctx { cause := 0x0402, tier := 1 }
    else s)

/-! ### The end of tier B (R339, R358) -/

/-- ENn_ and LPE_ registers of core n go back to their reset values; ENn_DVFS is kept. -/
def resetCoreRegs (s : State) (n : Nat) : State :=
  let a := 0x200000 + n * 0x20000
  let l := 0x300000 + n * 0x10000
  let offs := [a, a + 4, a + 8, a + 0x28, a + 0x34, a + 0x38, l, l + 4, l + 8, l + 0xC, l + 0x10, l + 0x14]
  let s := offs.foldl (fun s o => rset s o (tget 0 resetRegs o)) s
  { s with ctr := tset 0 (tset 0 s.ctr (a + 0x18) 0) (a + 0x20) 0 }

/-- The core's Tray is written with zero and valid check bits. -/
def zeroTray (s : State) (n : Nat) : State :=
  let keep (e : Nat) : Bool := decide (e < trayBase n) || decide (trayBase n + traySize ≤ e)
  { s with mem := s.mem.filter (fun e => keep e.1), poison := s.poison.filter (fun e => keep e.1) }

/-- Sequencer, scoreboard and queues start empty; a halt asked for meanwhile takes effect now (R358). -/
def resetCore (s : State) (n : Nat) : State :=
  let k := core s n
  zeroTray (resetCoreRegs (setCore s n
    { k with q := [], cur := none, halted := k.haltReq, haltReq := false, stepCtx := none, cyc := 0 }) n) n

def tierBDone (s : State) (r : TierBRun) : State :=
  let s := { s with boot := { s.boot with tierB := s.boot.tierB.filter (fun x => decide (x ≠ r)) } }
  let s := (bitList r.mask 8).foldl resetCore s
  escalate (completeAwait s (.tierB r.mask) stOk 0 0) r.lanes r.dev

/-! ### Marker outputs and the Shutter table (R71, R74) -/

/-- Lanes that use output n: those not STOPPED whose active copy names it. -/
def usersOf (s : State) (n : Nat) : List Nat :=
  (s.lanes.filter (fun e => decide (e.2.st ≠ .stopped) && names e.2.act n)).map (·.1)

def maskOf (l : List Nat) : Nat := l.foldl (fun m n => putBit m n true) 0

/-- The last commanded edge of output n: this instant if its command has changed since the last tick (R71). -/
def edgeAt (s : State) (n : Nat) : Nat := if cmdLevel s n = bit s.tmu.lvl n then tget 0 s.tmu.edge n else dt s

def setMis (s : State) (n : Nat) (m : Option (Nat × Bool)) : State := { s with tmu := { s.tmu with mis := tset none s.tmu.mis n m } }

/-- The receiver of output n reads the level `pad`. A mismatch that has lasted longer than 200 ns, and that began or still stands
after the 200 ns of the last commanded edge, is raised once (R71). -/
def readback (s : State) (n : Nat) (pad : Bool) : State :=
  let want := cmdLevel s n
  let m := (tget none s.tmu.mis n).getD (dt s, false)
  let late := decide (max m.1 (edgeAt s n) + 200 < dt s)
  let s := { s with pins := { s.pins with pads := putBit s.pins.pads n pad } }
  if pad = want ∨ outsHiZ s then setMis s n none
  else if m.2 || !late then setMis s n (some m)
  else
    let s := setMis s n (some (m.1, true))
    let ls := usersOf s n
    let s := flag (flag s 0x20004 5) 0x20048 n
    let s := report s 0x0302 none n 0 (leBytes 4 (maskOf ls) ++ leBytes 1 (b2n want) ++ leBytes 1 (b2n pad))
    eventFault s { cause := 0x0601, tier := 0, lane := ls.head? } ls true

def execMarkerReadback (output : Nat) (pad : Bool) (s : State) : Res :=
  .next (if s.pins.pwrok && decide (output < 16) then readback s output pad else s)

/-- The copies of the Shutter table disagree; `outs` are the outputs that only the other copy commands active, and each pin is
driven active when either copy commands it so (R74). -/
def execDupMismatch (outs : Nat) (s : State) : Res :=
  .next (if powered s then
      deviceOos (flag { s with tmu := { s.tmu with dupB := outs % 65536 } } 0x20004 6) { cause := 0x0701, tier := 6 }
    else s)

/-! ### Ring reconfiguration (R191, R201, R202) -/

/-- MODE_NOW of a group's event record. -/
def modeNow (s : State) (r : RGroup) : Nat := if ringFalls s r then 2 else if ringState s = 1 then 0 else 1

/-- An event record, and EVT_MARK (R201). -/
def groupEvent (s : State) (g code old : Nat) : State :=
  match group s g with
  | none => s
  | some r =>
    let a := r.evtAddr + r.evtSeq % 16 * 32
    let bs := leBytes 1 code ++ leBytes 1 old ++ leBytes 1 (ringState s) ++ leBytes 1 s.ring.up ++ leBytes 2 g ++
      leBytes 2 (modeNow s r) ++ leBytes 8 (dt s) ++ leBytes 8 (wt s) ++ leBytes 4 r.evtSeq ++ leBytes 4 0
    let s := setGroup (storeBytes s a bs) g (some { r with evtSeq := (r.evtSeq + 1) % 2 ^ 32 })
    signalExt (rset s 0x70010 (rget s 0x70010 + 1)) r.evtMark 1

def openGroups (s : State) : List Nat := (s.ring.groups.filter (fun e => e.2.isSome)).map (·.1)

/-- A member whose ATTN is past the barrier and in flight restarts its scoring; where the group has come to run as COARSE it reads the
pages of its own selection (R198, R201). -/
def restartMember (g : Nat) (r : RGroup) (was : Bool) (s : State) (c : Nat) : State :=
  match ringDesc s g c with
  | none => s
  | some d =>
    match d.view with
    | none => s
    | some q =>
      if d.barrier || d.force || was || !arcFalls s r then s
      else
        let a := attnOf d.bs
        let rd := coarseReads s (ctx s c) q a r.topP r.winW
        match pagePoison s q a.layer rd with
        | some p => ringPoison s g c p
        | none => d.pins.foldl unpinFrame (memberTake g q d.nb true 0 s (c, a) rd)

/-- Members whose ATTN is past the barrier and in flight. -/
def ringFlying (s : State) (g : Nat) (r : RGroup) : List Nat :=
  r.ctxs.filter (fun c => match ringDesc s g c with | some d => !d.barrier | none => false)

/-- A group ATTN in flight restarts (R201); `was` lists the groups that ran as COARSE before. -/
def restartGroup (was : List Nat) (s : State) (g : Nat) : State :=
  match group s g with
  | none => s
  | some r =>
    let ms := ringFlying s g r
    if ms.isEmpty then s else ms.foldl (restartMember g r (was.contains g)) (flag s 0x70004 1)

def falling (s : State) (p : State → RGroup → Bool) : List Nat :=
  (openGroups s).filter (fun g => match group s g with | some r => p s r | none => false)

/-- Links `ks` go DOWN: one reconfiguration (R191, R201). -/
def linksFail (s : State) (ks : List Nat) : State :=
  let old := ringState s
  let was := falling s ringFalls
  let wasArc := falling s arcFalls
  let s := { s with ring := { s.ring with up := ks.foldl (fun u k => putBit u k false) s.ring.up } }
  let s := report (flag s 0x70004 0) 0x0602 none 0 0 (leBytes 1 old ++ leBytes 1 (ringState s) ++ leBytes 1 s.ring.up)
  let s := (openGroups s).foldl (fun s g =>
    let falls := match group s g with | some r => ringFalls s r | none => false
    groupEvent s g (if falls && !was.contains g then 2 else 1) old) s
  (openGroups s).foldl (restartGroup wasArc) s

/-- Retries of link transfers count, whether or not the link goes DOWN (R192). -/
def countRetries (s : State) (retries : List Nat) : State :=
  { s with ring := { s.ring with
    retry := (List.range 8).foldl (fun t k => tset 0 t k (satAdd 0xFFFFFF (tget 0 t k) (retries.getD k 0))) s.ring.retry } }

/-- Within one window of 20 µs links retry, and those of the mask `links` that are UP go DOWN together (R192, R201). -/
def execRingLinkDown (links : Nat) (retries : List Nat) (s : State) : Res :=
  .next (if powered s && s.ring.trained then
      (let ks := (List.range 8).filter (fun k => links.testBit k && linkUp s k)
       let s := countRetries s retries
       if ks.isEmpty then s else linksFail s ks)
    else s)

def forceCoarse (s : State) (on : Bool) : State :=
  if bit (rg s 0x70000) 0 = on then s
  else
    let s := rsetN s 0x70000 (b2n on)
    (openGroups s).foldl (fun s g =>
      if on then groupEvent s g 2 (ringState s)
      else
        match group s g with
        | some r => if ringFalls s r then s else groupEvent s g 3 (ringState s)
        | none => s) s

def execForceCoarseWrite (on : Bool) (s : State) : Res := .next (if powered s then forceCoarse s on else s)

/-! ### Tier C marker holds (R342) -/

def execFltMkHoldClear (v : Word) (s : State) : Res :=
  .next (if powered s then
      { s with flt := { s.flt with hold := (List.range 16).foldl (fun h n => putBit h n (h.testBit n && !bit v.toNat n)) s.flt.hold } }
    else s)

end Sys2Proof.Machine
end

