-- ==== Sys2Proof/Machine/Power.lean ====
section
/-! DEFINITION. Core clocks, core voltage, temperature and throttling (R126, R368 to R371). -/

namespace Sys2Proof.Machine

/-! ### Frequencies and voltage (R126, R368) -/

/-- V(f) of the part: no entry lies below 600 mV or above 750 mV (R375). -/
def voltAt (f : Nat) : Nat := max 600 (min 750 (Config.voltage f))

def avs (s : State) : Nat := rg s 0x2C
def targetMv (s : State) : Nat := bits (avs s) 9 0
/-- Adaptive voltage is in force: EN, and no PMBus failure has stopped it (R368, R369). -/
def avsOn (s : State) : Bool := bit (avs s) 31 && !s.pwr.avsStop

/-- Command VDD_CORE; a lower target is reached from the level already known (R368). -/
def setTarget (s : State) (mv : Nat) : State :=
  let s := rsetN s 0x2C (avs s / 1024 * 1024 + mv % 1024)
  { s with pwr := { s.pwr with reached := min s.pwr.reached mv } }

/-- The frequency a core runs at once its change has ended. -/
def goalOf (s : State) (n : Nat) : Nat := min (core s n).freq (core s n).cap

/-- The highest EFF of any core, with core `n` at `f`. -/
def highest (s : State) (n f : Nat) : Nat :=
  (List.range 8).foldl (fun m k => max m (if k = n then f else (core s k).eff)) 0

/-- Stop the core's clock for 2 µs to run at `f` (R126). -/
def startStop (s : State) (n f : Nat) : State :=
  let k := core s n
  setCore s n { k with pend := true, stop := true, again := false, stopTo := f, stopAt := dt s }

/-- Begin the change of core `n` to its goal: first the rail, if it is too low, then the stop (R126, R368). -/
def beginChange (s : State) (n : Nat) : State :=
  let f := goalOf s n
  let need := voltAt (highest s n f)
  if need ≤ s.pwr.reached then startStop s n f
  else
    let k := core s n
    let s := setCore s n { k with pend := true, again := false, stopTo := f, waitAt := if k.pend then k.waitAt else dt s }
    if avsOn s && decide (targetMv s < need) then setTarget s need else s

/-- FREQ or CAP has changed: a pending change takes the new target, a stop is followed by one more (R126). -/
def retarget (s : State) (n : Nat) : State :=
  let k := core s n
  if k.stop then setCore s n { k with again := true }
  else if goalOf s n = k.eff then setCore s n { k with pend := false }
  else beginChange s n

/-- With no change pending the rail may follow the highest EFF down (R368). -/
def settleVolt (s : State) : State :=
  let f := highest s 8 0
  if avsOn s && (List.range 8).all (fun n => !(core s n).pend) && decide (voltAt f < targetMv s) then setTarget s (voltAt f) else s

/-- A write of ENn_DVFS (R126). -/
def dvfsWrite (s : State) (n v : Nat) : State :=
  let f := bits v 7 0
  if f < 16 ∨ gradeMax s < f then logUnsup s 0 (0x200010 + n * 0x20000) true
  else
    let k := core s n
    let s := setCore s n { k with freq := f }
    if k.stop || decide (k.freq ≠ f) || (!k.pend && decide (goalOf s n ≠ k.eff)) then settleVolt (retarget s n) else s

def execEnnDvfsWrite (core : Nat) (v : Word) (s : State) : Res :=
  .next (if powered s && decide (core < 8) then dvfsWrite s core v.toNat else s)

/-- The 2 µs stop ends: EFF, DVFS_DONE, and the one further stop of a write that arrived meanwhile (R126). -/
def stopEnd (s : State) (n : Nat) : State :=
  let k := core s n
  let s := flag (setCore s n { k with eff := k.stopTo, stop := false, pend := false, again := false }) (0x200004 + n * 0x20000) 0
  settleVolt (if k.again then beginChange s n else s)

def execDvfsStopEnd (core : Nat) (s : State) : Res :=
  let k := Machine.core s core
  .next (if powered s && k.stop && decide (k.stopAt + 2000 ≤ dt s) then stopEnd s core else s)

/-! ### PMBus (R368, R369) -/

/-- A core waits for the rail. -/
def waitsRail (k : Core) : Bool := k.pend && !k.stop

/-- The rail is at its target: every change that waited for it starts its stop, if the level is enough (R368). -/
def railReady (s : State) : State :=
  (List.range 8).foldl (fun s n =>
    if waitsRail (core s n) && decide (voltAt (highest s n (goalOf s n)) ≤ s.pwr.reached) then startStop s n (goalOf s n) else s) s

/-- READ_VOUT: READ_MV, and the target once it is within 10 mV. -/
def readVout (s : State) (mv : Nat) : State :=
  let a := avs s
  let s := rsetN s 0x2C (a / 2 ^ 26 * 2 ^ 26 + mv % 1024 * 65536 + a % 65536)
  if mv ≤ targetMv s + 10 ∧ targetMv s ≤ mv + 10 then railReady { s with pwr := { s.pwr with reached := targetMv s } } else s

/-- MGT_PWR from READ_VOUT x READ_IOUT in 0.1 W (19 Registers). -/
def noteIout (s : State) (mv : Nat) : Option Nat → State
  | none => s
  | some ma => rsetN s 0x38 (mv * ma / 100000 % 65536)

/-- A transfer not acknowledged, or a fault in STATUS_WORD, ends adaptive voltage (R369). -/
def pmbusFail (s : State) : State :=
  let s := flag s 0x30 2
  setTarget { s with pwr := { s.pwr with avsStop := true } } 750

def execPmbusTransfer (ack : Bool) (mv : Nat) (iout : Option Nat) (s : State) : Res :=
  .next (if powered s then (if ack then noteIout (readVout s mv) mv iout else pmbusFail s) else s)

/-- A raise not reached within 1 ms is abandoned (R369). -/
def overdue (s : State) (k : Core) : Bool := waitsRail k && decide (k.waitAt + 1000000 ≤ dt s)

def abandon (s : State) : State :=
  let s := flag s 0x30 2
  settleVolt ((List.range 8).foldl (fun s n => if overdue s (core s n) then setCore s n { core s n with pend := false } else s) s)

def execAvsTimeout (s : State) : Res :=
  .next (if powered s && (List.range 8).any (fun n => overdue s (core s n)) then abandon s else s)

/-- EN = 0 raises VDD_CORE to 0.75 V; EN = 1 resumes at the next frequency change (R368). -/
def avsWrite (s : State) (on : Bool) : State :=
  let s := rsetN s 0x2C (putBit (avs s) 31 on)
  if on then s else setTarget s 750

def execMgtAvsWrite (on : Bool) (s : State) : Res := .next (if powered s then avsWrite s on else s)

/-! ### Temperature (R370, R371) -/

/-- A reading, signed 8.8 in °C. -/
def tempOf (s : State) (k : Nat) : Int := ofTwos 16 (rg s (0x80 + 4 * k))

def sample (s : State) (k code : Nat) : State :=
  let s := rsetN s (0x80 + 4 * k) (code % 65536)
  if (rf s 0x28 7 0 : Int) * 256 ≤ tempOf s k then flag s 0x30 0 else s

/-- The sensors' clock runs on while THERMTRIP_N is asserted (R371). -/
def execTempSensorSample (sensor code : Nat) (s : State) : Res :=
  .next (if s.pins.pwrok && !s.pins.perst && decide (sensor < 12) then sample s sensor code else s)

def coreSensors (n : Nat) : List Nat := [n, 8, 9, 10, 11]
def hot (s : State) (n : Nat) : Bool := (coreSensors n).any (fun k => decide (100 * 256 ≤ tempOf s k))
def cool (s : State) (n : Nat) : Bool := (coreSensors n).all (fun k => decide (tempOf s k ≤ 97 * 256))

/-- One core's cap at the 1 ms update (R370). -/
def capStep (s : State) (n : Nat) : State :=
  let k := core s n
  if hot s n then
    (if 16 < k.cap then
      let s := flag (setCore s n { k with cap := k.cap - 1 }) 0x30 1
      if min k.freq k.cap = min k.freq (k.cap - 1) then s else retarget s n
     else s)
  else if cool s n then
    (if k.cap < gradeMax s then
      let s := setCore s n { k with cap := k.cap + 1 }
      if min k.freq k.cap = min k.freq (k.cap + 1) then s else retarget s n
     else s)
  else s

def capUpdate (s : State) : State :=
  settleVolt ((List.range 8).foldl capStep { s with pwr := { s.pwr with capAt := dt s } })

def execThermalCapUpdate (s : State) : Res :=
  .next (if isReady s && decide (dt s % 1000000 = 0) && decide (s.pwr.capAt ≠ dt s) then capUpdate s else s)

/-- A sensor reaches 115 °C: clocks stop, outputs are released (R371, R385). -/
def trip (s : State) : State :=
  { s with pins := { s.pins with thermtrip := true, dirOut := false, enOut := false, lsync := 0 } }

def execThermtrip (s : State) : Res := .next (if s.pins.pwrok then trip s else s)

end Sys2Proof.Machine
end

