-- ==== Sys2Proof/Machine/Startup.lean ====
section
/-! DEFINITION. Images and boot banks, the resets PWROK, PERST_N and tier C, and the start-up sequence (R298, R299, R301,
R341, R342, R348, R349, R362 to R365). -/

namespace Sys2Proof.Machine

/-! ### Images (R348) -/

/-- The header meets its table: MAGIC, HDR_VER, the part lengths, and both parts are there. -/
def imgHeaderOk (bs : List Byte) : Bool :=
  let i := le bs 0x10 4
  let d := le bs 0x14 4
  decide (le bs 0 4 = 0x4D494C53) && decide (le bs 4 2 = 1) && decide (4 ≤ i) && decide (i ≤ 524288) && decide (i % 4 = 0) &&
    decide (d ≤ 524288) && decide (512 + i + d ≤ bs.length)

/-- The bank that an image makes. -/
def bankOf (bs : List Byte) (valid : Bool) : Bank :=
  { valid := valid, svn := le bs 0xC 1, fwVer := le bs 8 4, handover := le bs 6 2, bytes := bs }

/-- R348 for an image whose key and signature verify or not. -/
def imageOk (s : State) (bs : List Byte) (sigOk : Bool) : Bool := imgHeaderOk bs && sigOk && decide (s.fuse.svnMin ≤ le bs 0xC 1)

def bankAt (s : State) (b : Nat) : Bank := if b = 0 then s.flash.bankA else s.flash.bankB
def setBank (s : State) (b : Nat) (k : Bank) : State :=
  { s with flash := if b = 0 then { s.flash with bankA := k } else { s.flash with bankB := k } }

/-- A bank that R348 accepts now. -/
def bankOk (s : State) (b : Nat) : Bool := (bankAt s b).valid && decide (s.fuse.svnMin ≤ (bankAt s b).svn)

/-- The boot bank: the first selector copy whose CRC is correct, else bank 0 (R349). -/
def bootBank (s : State) : Nat := if s.flash.sel0 < 2 then s.flash.sel0 else if s.flash.sel1 < 2 then s.flash.sel1 else 0

/-! ### Reset states -/

/-- All state at its reset value, but the queue, free values, pins, fuses, flash, host memory and the host's last read. -/
def freshState (s : State) : State :=
  { pending := s.pending, free := s.free, busData := s.busData, busPoison := s.busPoison,
    mem := s.mem.filter (fun e => decide (hostBit ≤ e.1)), fuse := s.fuse, flash := s.flash,
    pins := { s.pins with stepOut := 0, dirOut := false, enOut := false, lsync := 0 },
    cores := if s.fuse.speed = 2 then (List.range 8).map (fun n => (n, { freq := 26, cap := 26, eff := 26 })) else [] }

/-- What PERST keeps of the fault unit: the ring and the registers marked for it (R363). -/
def perstFaults (f : Faults) : Faults :=
  { ring := f.ring, head := f.head, count := f.count, epoch := f.epoch, laneN := f.laneN, laneS := f.laneS, devN := f.devN,
    devS := f.devS, clock := f.clock, laneEv := f.laneEv, devEv := f.devEv, unsupAddr := f.unsupAddr,
    unsupInfo := f.unsupInfo, unsupCnt := f.unsupCnt, tierM := f.tierM, tierB := f.tierB }

/-- Power-up (R362). -/
def powerUp (s : State) : State := freshState { s with pins := { s.pins with pwrok := true, thermtrip := false } }

def execPwrokRise (s : State) : Res := .next (if s.pins.pwrok then s else powerUp s)

/-- Outputs inactive, THERMTRIP_N released (R362, R371). -/
def powerDown (s : State) : State :=
  { s with pins := { s.pins with pwrok := false, thermtrip := false, stepOut := 0, dirOut := false, enOut := false, lsync := 0 } }

def execPwrokFall (s : State) : Res := .next (powerDown s)

/-- The PERST reset; the debug lock's DENY and the count of failed unlocks end only with power-up or tier C (R355, R363). -/
def perst (s : State) : State :=
  { freshState { s with pins := { s.pins with perst := true } } with
    flt := perstFaults s.flt
    dbg := { deny := s.dbg.deny, fails := s.dbg.fails, blockUntil := s.dbg.blockUntil } }

def execPerstAssert (s : State) : Res := .next (if s.pins.pwrok && !s.pins.perst then perst s else { s with pins := { s.pins with perst := true } })

/-- Device time starts at 0 (R55, R363). -/
def release (s : State) : State :=
  { s with pins := { s.pins with perst := false }, tmu := { s.tmu with dt := 0 }, boot := { s.boot with stage := 1 } }

def execPerstRelease (s : State) : Res :=
  .next (if !s.pins.perst then s else if s.pins.pwrok && !s.pins.thermtrip then release s else { s with pins := { s.pins with perst := false } })

/-! ### Tier C (R341, R342) -/

/-- The lane's fail-safe action is on output n, and counts under R342. -/
def holdLane (s : State) (n : Nat) (l : Lane) : Bool :=
  laneHolds s l n || (isActive l.st && decide (failOut (laneImg s l.act) l.act = n))

def holdBits (s : State) : Nat := maskOf ((List.range 16).filter (fun n => s.lanes.any (fun e => holdLane s n e.2)))

/-- TMU_MKn_CFG are kept. -/
def keptRegs (s : State) : Tab Word :=
  (List.range 16).foldl (fun t n => tset 0 t (0x20100 + 4 * n) (rget s (0x20100 + 4 * n))) resetRegs

/-- Steps 2 to 4, and every other state at its reset value. -/
def tierC (s : State) : State :=
  { freshState s with
    regs := keptRegs s
    flt := { perstFaults s.flt with hold := s.flt.hold ||| holdBits s, epoch := s.flt.epoch + 1 }
    board := s.board
    boot := { stage := 1, everReady := s.boot.everReady, tierC := true }
    sal := { irqs := s.sal.irqs }
    dbg := { s.dbg with lock := 0, deny := false, nonce := none, sram := [] } }

/-! ### Start-up (R299, R301, R349, R364, R365) -/

/-- Channel capacity in GiB of a population. -/
def popGib (b : Board) : Nat := 8 * (if b.dens16 then 2 else 1) * b.ranks * (if b.x4 then 2 else 1)

def boardOk (b : Board) : Bool :=
  b.crcOk && (decide (b.ranks = 1) || decide (b.ranks = 2)) && decide (popGib b ≤ 32) && decide (b.chanGib = popGib b)

/-- A bank at its check by the boot ROM: `sigOk` says that its key and signature verify, and the report brings the header of an image
the model has not seen written (R348). -/
def checked (s : State) (r : BootReport) (sigOk : Bool) (b : Bank) : Bank :=
  if b.bytes.isEmpty then
    (if sigOk && decide (s.fuse.svnMin ≤ r.svn) then { b with valid := true, svn := r.svn, fwVer := r.fwVer, handover := r.handover }
     else { b with valid := false })
  else { b with valid := imageOk s b.bytes sigOk }

/-- Safelight starts from bank b. -/
def startSl (s : State) (b : Nat) : State :=
  let k := bankAt s b
  { s with sl := { running := true, bank := b, fwVer := k.fwVer, svn := k.svn, handover := k.handover, lastKick := s.flt.clock } }

/-- The boot ROM (R349). -/
def bootRom (s : State) (r : BootReport) : State :=
  let s := { s with flash := { s.flash with bankA := checked s r r.bank0 s.flash.bankA, bankB := checked s r r.bank1 s.flash.bankB } }
  let b := bootBank s
  if (bankAt s b).valid then startSl s b
  else if (bankAt s (1 - b)).valid then startSl (flag s 0x4 2) (1 - b)
  else { s with boot := { s.boot with failCode := 1 } }

/-- VDD_CORE at its adaptive level, if the regulator answers (R365, R368). -/
def startRail (s : State) (r : BootReport) : State :=
  if !r.pmbus || !s.board.pmbus then { flag s 0x30 2 with pwr := { s.pwr with avsStop := true } }
  else
    let s := if avsOn s then setTarget s (voltAt (highest s 8 0)) else s
    rsetN s 0x2C (avs s / 2 ^ 26 * 2 ^ 26 + r.vcoreMv % 1024 * 65536 + avs s % 65536)

/-- The words of MCn_EYEk; entries 9 to 17 of x8 components read zero (16 Registers). -/
def eyeTab (b : Board) (l : List Nat) : Tab Nat :=
  (l.take 108).mapIdx (fun i v => (i, v)) |>.filter (fun e => decide (e.2 ≠ 0) && (b.x4 || decide (e.1 % 18 < 9)))

/-- A byte lane or nibble of channel n whose read or write window is reported narrower than 10 steps (R301). -/
def eyeNarrow (b : Board) (r : BootReport) (n : Nat) : Bool :=
  ((r.eyes.drop (18 * n)).take (if b.x4 then 18 else 9)).any (fun v => decide (bits v 31 24 < 10) || decide (bits v 23 16 < 10))

/-- The channels that fail training: by a verification error, or by a narrow window (R301). -/
def trainBad (b : Board) (r : BootReport) : Nat := r.dramFail % 64 ||| maskOf ((List.range 6).filter (eyeNarrow b r))

/-- TRAIN_FAIL of the channels that failed. -/
def trainFail (s : State) (m : Nat) : State := (bitList m 6).foldl (fun s n => flag s (0x180004 + n * 0x10000) 7) s

def fail (s : State) (code : Nat) : State := { s with boot := { s.boot with stage := 7, failCode := code, tierC := false } }

/-- Ports that did not lock, those that the board does not populate among them (R365, R373). -/
def portsDown (b : Board) (r : BootReport) : Nat := r.stripFail % 256 ||| (255 - b.ports % 256)

/-- The stages from ROM onward. -/
def startUp (s : State) (r : BootReport) : State :=
  let s := bootRom s r
  if s.boot.failCode = 1 then s
  else
    let s := { s with board := s.flash.board }
    let s := { s with boot := { s.boot with eyes := eyeTab s.board r.eyes, dramFail := trainBad s.board r, stripFail := portsDown s.board r } }
    if !boardOk s.board then fail { s with boot := { s.boot with dramFail := 0, stripFail := 0, eyes := [] } } 2
    else if trainBad s.board r ≠ 0 then fail (trainFail { s with boot := { s.boot with stripFail := 0 } } (trainBad s.board r)) 3
    else
      startRail { s with boot := { s.boot with stage := 6, everReady := true, tierC := false },
                         ring := { s.ring with trained := true, up := 255 - r.ringFail % 256 },
                         mc := { s.mc with t0 := dt s } } r

/-- The sequence is in progress, and not stopped for want of an image. -/
def starting (s : State) : Bool := powered s && decide (s.boot.stage = 1) && decide (s.boot.failCode = 0)

end Sys2Proof.Machine
end

