-- ==== Sys2Proof/Machine/Mgmt.lean ====
section
/-! DEFINITION. Safelight: the management queue and its commands, firmware swap, heartbeat, watchdog and tier M, chart
calibration, tier B and tier C (R230, R231, R280, R283, R286, R334, R337 to R341, R345 to R352, R386). -/

namespace Sys2Proof.Machine

/-! ### The bodies of the commands -/

/-- MGT_ID (R5). -/
def mgtId (s : State) : Nat := 0x81600011 + s.fuse.speed % 16 * 4096 + s.fuse.temp % 16 * 256

def devInfo (s : State) (f : Flight) : State :=
  complete s f stOk (mgtId s) (3 + s.sl.bank * 256 + s.sl.fwVer % 2 ^ 32 * 65536)

/-- A transfer of a management command is charged to class 5 where it reads or writes DRAM (R269). -/
def chargeMgmt (s : State) (a n : Nat) : State := chargeDram s 5 (dramOf s a n)

/-- The bank is written and read back (R350). -/
def fwStage (s : State) (f : Flight) (src len bank : Nat) (sigOk : Bool) : State :=
  if bank = s.sl.bank then complete s f stBadState 0 0
  else if hostFail f.c [src] then complete s f stHostErr 0 0
  else if readsPoison s src len then complete s f stPoisoned 0 0
  else
    let bs := rdBytes s src len ++ (bankAt s bank).bytes.drop len
    let s := chargeMgmt s src len
    let ok := imageOk s bs sigOk
    complete (setBank s bank (bankOf bs ok)) f (if ok then stOk else stBadImage) 0 0

/-- Both selector copies, copy 1 first (R350). -/
def writeSelector (s : State) (f : Flight) (bank : Nat) : State :=
  if bankOk s bank then complete { s with flash := { s.flash with sel1 := bank, sel0 := bank } } f stOk 0 0
  else complete s f stBadImage 0 0

def boardCfg (s : State) (f : Flight) (src len : Nat) (cfg : Board) : State :=
  if hostFail f.c [src] then complete s f stHostErr 0 0
  else if readsPoison s src len then complete s f stPoisoned 0 0
  else complete { chargeMgmt s src len with flash := { s.flash with board := cfg } } f stOk 0 0

/-- Every incomplete command ends, the OK reply is written, then the record and the recovery (R341). -/
def recoverC (s : State) (f : Flight) : State :=
  let s := completeWhere s (fun _ => true) stAborted 0 0
  let s := complete s f stOk 0 0
  tierC (writeRecord s { cause := 0x0A02, tier := 4 })

def devRecover (s : State) (f : Flight) (tier cores : Nat) : State :=
  if tier = 2 then recoverC s f
  else askTierB (defer s f (.tierB cores) []) { mask := cores }

def laneReturn (s : State) (f : Flight) (n : Nat) : State :=
  let l := lane s n
  if s.flt.oos ∨ l.st ≠ .outOfService ∨ inflight l ≠ 0 then complete s f stBadState 0 0
  else complete (laneRestore s n) f stOk 0 0

def escCfg (s : State) (f : Flight) (laneN laneS devN devS : Nat) : State :=
  complete { s with flt := { s.flt with laneN := laneN, laneS := laneS, devN := devN, devS := devS } } f stOk 0 0

/-! ### Chart calibration (R230, R231) -/

/-- The window of a chart patch. -/
def chartWin (s : State) (origin pixStart key : Nat) (x : Chart) (i : Nat) (p : ChartPatch) : PatchWin :=
  placeWin s { pL := x.pL, pX := x.pX } {} origin pixStart 0 p.rect { lane := none, key := key, field := i, x0 := 0, x1 := 0, top := 0, bottom := 0 }

/-- Why a COLOUR_CAL is refused at acceptance (R230, R286). -/
def colourBad (s : State) (c : Cmd) (chart pixStart pixEnd : Nat) (x : Chart) : Option Nat :=
  if hostFail c [chart] then some stHostErr
  else if readsPoison s chart 1 then some stPoisoned
  else if overlapsActive s 32 pixStart pixEnd then some stLaneOverlap
  else if 1024 < s.fe.wins.length + x.patches.length then some stNoResource
  else none

/-- On acceptance the windows are reserved, from which they take rows. -/
def reserveChart (s : State) (origin out pixStart : Nat) (x : Chart) : State :=
  let k := s.fe.chartKey
  setFe s { s.fe with wins := s.fe.wins ++ x.patches.mapIdx (chartWin s origin pixStart k x), chartKey := k + 1,
                      charts := s.fe.charts ++ [{ key := k, out := out, patches := x.patches }] }

/-- The chart that Safelight has in hand. -/
def chartNow (s : State) : Option ChartRun := s.fe.charts.find? (·.begun)

/-- Safelight takes the oldest reserved chart in hand. -/
def beginChart : List ChartRun → List ChartRun
  | [] => []
  | r :: t => if r.begun then r :: beginChart t else { r with begun := true } :: t

def colourCal (s : State) (f : Flight) : State := defer (setFe s { s.fe with charts := beginChart s.fe.charts }) f .colourCal []

/-- A window that gives a value: not STALE, and with at least one pixel. -/
def winGood (w : PatchWin) : Bool := !w.stale && !w.limit && decide (0 < (w.lab.getD 0 {}).n)

/-- The linearised means of the four selected bands, each of the mean that R91 reports. -/
def winBands (s : State) (w : PatchWin) : List Nat :=
  (List.range 4).map (fun i => linearise (lutWord s i) (toInt 0 65535 (w.bands.getD (cieBand s i) {}).mean).1.toNat)

def chartWins (s : State) (r : ChartRun) : List PatchWin := s.fe.wins.filter (fun w => w.lane.isNone && decide (w.key = r.key))

/-- The patches that count, with their bands and references. -/
def chartData (s : State) (r : ChartRun) : List (Nat × List Nat × Int × Int × Int) :=
  (chartWins s r).filterMap (fun w =>
    if winGood w then
      match r.patches[w.field]? with
      | some p => some (w.field, winBands s w, p.l, p.a, p.b)
      | none => none
    else none)

/-- Delta E00 of a patch under the rounded coefficients, in 0.01. -/
def patchError (m : List Int) (e : Nat × List Nat × Int × Int × Int) : Nat :=
  let c := labOf m e.2.1
  hundredths (de00 (labCodes e.2.2.1 e.2.2.2.1 e.2.2.2.2) (labCodes c.1 c.2.1 c.2.2) 10 10 10)

/-- The result buffer: 12 coefficients, mean and maximum Delta E00, then one value for each patch, all ones where the
patch does not count (its packing is the model's: notes/assumptions). -/
def fitBytes (m : List Int) (r : ChartRun) (es : List (Nat × Nat)) : List Byte :=
  let n := es.length
  (m.map (fun x => leBytes 2 (twos 16 x))).flatten ++
  leBytes 4 (rhe (es.foldl (fun a e => a + (e.2 : Int)) 0) (max 1 n)).toNat ++ leBytes 4 (es.foldl (fun a e => max a e.2) 0) ++
  ((List.range r.patches.length).map (fun i => leBytes 4 (match es.find? (fun e => decide (e.1 = i)) with | some e => e.2 | none => sat32))).flatten

/-- A chart's windows and its run go. -/
def endChart (s : State) (r : ChartRun) : State :=
  setFe s { s.fe with wins := s.fe.wins.filter (fun w => w.lane.isSome || decide (w.key ≠ r.key)),
                      charts := s.fe.charts.filter (fun q => decide (q.key ≠ r.key)) }

def fitChart (s : State) (r : ChartRun) : State :=
  let ds := chartData s r
  match (if ds.length < 12 then none else fitMatrix (ds.map (fun e => e.2.1)) (ds.map (fun e => e.2.2))) with
  | none => completeAwait (flag (endChart s r) 0xA0004 3) .colourCal stCalFail ds.length 0
  | some m =>
    let bs := fitBytes m r (ds.map (fun e => (e.1, patchError m e)))
    let bad := s.sal.flights.any (fun f => decide (f.await = .colourCal) && hostFail f.c [r.out])
    if bad then completeAwait (endChart s r) .colourCal stHostErr ds.length 0
    else completeAwait (storeBytes (chargeMgmt (endChart s r) r.out bs.length) r.out bs) .colourCal stOk ds.length 0

/-! ### The management queue (R280) -/

/-- Safelight may take a command now: it runs, has no swap in hand and, for a chart, no chart. -/
def slTakes (s : State) (i : Instr) : Bool :=
  slAvail s && s.sl.swap.isNone &&
    (match i with | .colourCal _ _ _ _ _ _ _ => (chartNow s).isNone | _ => true)

/-- Nothing that a swap must wait for is in hand (R351). -/
def quiesced (s : State) : Bool := s.boot.tierB.isEmpty && !s.boot.tierC && (chartNow s).isNone

/-- The handover begins at the quiesce point. -/
def tryHandover (s : State) : State :=
  if s.sl.swap.isSome && s.sl.swapAt.isNone && slAvail s && quiesced s then { s with sl := { s.sl with swapAt := some s.flt.clock } } else s

def fwActivate (s : State) (f : Flight) (bank : Nat) : State :=
  if bankOk s bank && decide ((bankAt s bank).handover = s.sl.handover) then
    tryHandover (defer { s with sl := { s.sl with swap := some bank } } f .fwActivate [])
  else complete s f stBadImage 0 0

/-- The effect of a management command on Safelight. -/
def mgmtBody (i : Instr) (s : State) (f : Flight) : State :=
  match i with
  | .devInfo _ => devInfo s f
  | .fwStage _ src len bank sigOk => fwStage s f src len bank sigOk
  | .fwActivate _ bank => fwActivate s f bank
  | .bootBank _ bank => writeSelector s f bank
  | .boardCfg _ src len cfg => boardCfg s f src len cfg
  | .devRecover _ tier cores => devRecover s f tier cores
  | .laneRestore _ n => laneReturn s f n
  | .escCfg _ laneN laneS devN devS => escCfg s f laneN laneS devN devS
  | .colourCal _ _ _ _ _ _ _ => colourCal s f
  | _ => s

/-- The checks made at acceptance, though the command may wait in the queue (R286). -/
def mgmtBad (i : Instr) (s : State) : Option Nat :=
  match i with
  | .fwStage _ _ _ bank _ => if bank = s.sl.bank then some stBadState else none
  | .laneRestore _ n => if s.flt.oos ∨ (lane s n).st ≠ .outOfService ∨ inflight (lane s n) ≠ 0 then some stBadState else none
  | .colourCal c _ chart _ pixStart pixEnd x => colourBad s c chart pixStart pixEnd x
  | _ => none

/-- What acceptance reserves. -/
def mgmtReserve (i : Instr) (s : State) : State :=
  match i with
  | .colourCal _ origin _ out pixStart _ x => reserveChart s origin out pixStart x
  | _ => s

/-- DETAIL of BUSY: the firmware's estimate, at least 10 µs. -/
def busyMgmt (s : State) (f : Flight) : State := complete (useFresh s) f stBusy (max 10 (freshVal s % 2 ^ 32)) 0

/-- Accept a management command (R280, R338, R346). -/
def acceptMgmt (i : Instr) (s : State) (f : Flight) : State :=
  if s.boot.tierM then busyMgmt s f
  else
    match mgmtBad i s with
    | some st => complete s f st 0 0
    | none =>
      if slTakes s i && s.sl.mgq.isEmpty then mgmtBody i (mgmtReserve i s) f
      else if s.sl.mgq.length < 64 then
        { defer (mgmtReserve i s) f .mgmt [] with sl := { s.sl with mgq := s.sl.mgq ++ [(f, i)] } }
      else busyMgmt (flag s 0x50120 3) f

/-- Take the head of the queue. -/
def takeMgmt (s : State) (e : Flight × Instr) : State :=
  let s := { s with sl := { s.sl with mgq := s.sl.mgq.drop 1 },
                    sal := { s.sal with flights := s.sal.flights.erase { e.1 with await := .mgmt, ctxs := [] } } }
  let s := mgmtBody e.2 s e.1
  finishDeletes s s.sal.flights

/-- Commands that waited run in order while Safelight takes them. -/
def drainMgmt : List (Flight × Instr) → State → State
  | [], s => s
  | e :: t, s => if decide (s.sl.mgq.head? = some e) && slTakes s e.2 then drainMgmt t (takeMgmt s e) else s

def drain (s : State) : State := drainMgmt s.sl.mgq s

/-- Safelight runs firmware again: a halt asked for meanwhile takes effect, else what waited begins (R359). -/
def resumeSl (s : State) : State :=
  if s.sl.haltReq then { s with sl := { s.sl with halted := true, haltReq := false, haltAt := s.flt.clock } }
  else if slAvail s then drain (runWaiting s) else s

/-! ### The commands -/

def bankChk (bank : Nat) (off : Nat) : Bool × Nat := (decide (bank < 2), off)

def execDevInfo (c : Cmd) (s : State) : Res := .next (accept s c 0x00 [] (acceptMgmt (.devInfo c)))

def execFwStage (c : Cmd) (src len bank : Nat) (sigOk : Bool) (s : State) : Res :=
  .next (accept s c 0x01 [(rangeOk s src len, 0x10), (decide (len ≤ 2097152), 0x18), bankChk bank 0x1C] (acceptMgmt (.fwStage c src len bank sigOk)))

def execFwActivate (c : Cmd) (bank : Nat) (s : State) : Res := .next (accept s c 0x02 [bankChk bank 0x10] (acceptMgmt (.fwActivate c bank)))

def execBootBank (c : Cmd) (bank : Nat) (s : State) : Res := .next (accept s c 0x03 [bankChk bank 0x10] (acceptMgmt (.bootBank c bank)))

def execBoardCfg (c : Cmd) (src len : Nat) (cfg : Board) (s : State) : Res :=
  .next (accept s c 0x04 [(rangeOk s src len, 0x10), (decide (len ≤ 57344), 0x18)] (acceptMgmt (.boardCfg c src len cfg)))

def execDevRecover (c : Cmd) (tier cores : Nat) (s : State) : Res :=
  .next (accept s c 0x08 [(decide (tier = 1 ∨ tier = 2), 0x10), (decide (tier = 2) || (decide (0 < cores) && decide (cores < 256)), 0x11)]
    (acceptMgmt (.devRecover c tier cores)))

def execLaneRestore (c : Cmd) (lane : Nat) (s : State) : Res :=
  .next (accept s c 0x09 [(decide (lane < 32), 0x10)] (acceptMgmt (.laneRestore c lane)))

def execEscCfg (c : Cmd) (laneN laneS devN devS : Nat) (s : State) : Res :=
  .next (accept s c 0x0A [(decide (1 ≤ laneN ∧ laneN ≤ 64), 0x10), (decide (1 ≤ laneS ∧ laneS ≤ 600), 0x12),
      (decide (1 ≤ devN ∧ devN ≤ 256), 0x14), (decide (1 ≤ devS ∧ devS ≤ 3600), 0x16)] (acceptMgmt (.escCfg c laneN laneS devN devS)))

def execColourCal (c : Cmd) (origin chart out pixStart pixEnd : Nat) (content : Chart) (s : State) : Res :=
  .next (accept s c 0x10 [(rangeOk s chart 1, 0x18), (rangeOk s out (32 + 4 * content.patches.length), 0x20),
      (decide (pixStart ≤ pixEnd ∧ pixEnd < 65536), 0x28)] (acceptMgmt (.colourCal c origin chart out pixStart pixEnd content)))

/-- The fit runs once every window of the chart has closed. -/
def execColourCalFit (s : State) : Res :=
  .next (match chartNow s with
    | none => s
    | some r => if slAvail s && (chartWins s r).all (·.done) then drain (tryHandover (fitChart s r)) else s)

/-! ### Tier M (R283, R338, R345, R346) -/

/-- Management commands: those that Safelight holds or executes. -/
def isMgmt (f : Flight) : Bool :=
  match f.await with
  | .mgmt => true
  | .colourCal => true
  | .fwActivate => true
  | .tierB _ => true
  | _ => false

/-- Tier Bs in hand are lost; lanes and device that their events brought to a threshold escalate. -/
def loseTierB (s : State) : State :=
  let rs := s.boot.tierB.filter (·.started)
  rs.foldl (fun s r => escalate s r.lanes r.dev) { s with boot := { s.boot with tierB := s.boot.tierB.filter (fun r => !r.started) } }

/-- Safelight is reset; `keep` selects commands of the queue that stay. -/
def startTierM (s : State) (cause : Nat) (keep : Instr → Bool) : State :=
  let s := flag (writeRecord s { cause := cause, tier := 2 }) 0x30004 6
  let q := s.sl.mgq.filter (fun e => keep e.2)
  let kept (f : Flight) : Bool := q.any (fun e => decide (f = { e.1 with await := .mgmt, ctxs := [] }))
  let s := { s with boot := { s.boot with tierM := true }, flt := { s.flt with tierM := satAdd sat32 s.flt.tierM 1 },
                    sl := { s.sl with mgq := q, swap := none, swapAt := none }, dbg := { s.dbg with sram := [] } }
  let s := (loseTierB s).fe.charts.foldl endChart (loseTierB s)
  completeWhere s (fun f => isMgmt f && !kept f) stAborted 0 0

/-- Safelight is running firmware whose watchdog is not suspended. -/
def wdogRuns (s : State) : Bool := slAvail s

def execSafelightWdog (s : State) : Res :=
  .next (if wdogRuns s && decide (s.sl.lastKick + s.sl.limit * 1000000 ≤ s.flt.clock) then startTierM (flag s 0x4 0) 0x0901 (fun _ => false) else s)

def execSafelightLockstep (s : State) : Res :=
  .next (if powered s && s.sl.running && !s.boot.tierM then startTierM (flag s 0x4 1) 0x0902 (fun _ => false) else s)

/-- The active bank has been reloaded. -/
def execTierMComplete (s : State) : Res :=
  .next (if powered s && s.boot.tierM then
      resumeSl { s with boot := { s.boot with tierM := false }, sl := { s.sl with lastKick := s.flt.clock } }
    else s)

/-- The firmware's main loop (R346). -/
def execFirmwareHeartbeat (s : State) : Res :=
  .next (if slAvail s then
      (let s := rset s 0x10 (rget s 0x10 + 1)
       { s with sl := { s.sl with lastKick := s.flt.clock, limit := rf s 0x1C 9 0 } })
    else s)

/-! ### Swapping firmware (R351, R352) -/

/-- DEV_RECOVER commands that arrived during a swap outlive its failure. -/
def isRecover : Instr → Bool
  | .devRecover _ _ _ => true
  | _ => false

def swapFails (s : State) : State :=
  let s := completeAwait (flag s 0x4 3) .fwActivate stBadImage 0 0
  startTierM s 0x0901 isRecover

def swapDone (s : State) (b : Nat) : State :=
  let k := bankAt s b
  let s := rset s 0x10 (rget s 0x10 + 1)
  let s := { s with sl := { s.sl with bank := b, fwVer := k.fwVer, svn := k.svn, handover := k.handover, swap := none, swapAt := none, lastKick := s.flt.clock } }
  resumeSl (completeAwait s .fwActivate stOk 0 0)

/-- `ok` says that the bank's key and signature still verify and that its firmware advanced the heartbeat. -/
def execFwSwapComplete (ok : Bool) (s : State) : Res :=
  .next (match s.sl.swap, s.sl.swapAt with
    | some b, some _ => if powered s then (if ok && bankOk s b then swapDone s b else swapFails s) else s
    | _, _ => s)

def execFwSwapTimeout (s : State) : Res :=
  .next (match s.sl.swapAt with
    | some t => if powered s && decide (t + 160000000 ≤ s.flt.clock) then swapFails s else s
    | none => s)

/-! ### Tier B and the ends of recovery and start-up -/

/-- The resets of its contexts have completed. -/
def tierBDue (s : State) (r : TierBRun) : Bool :=
  r.started && s.flt.resets.all (fun x => !r.mask.testBit (ctx s x.ctx).core)

def execTierBComplete (s : State) : Res :=
  .next (match s.boot.tierB.find? (tierBDue s) with
    | some r => if slAvail s then drain (tryHandover (tierBDone s r)) else s
    | none => s)

/-- A device that is ready or FAILED serves management commands from here on (R365). -/
def finishStart (s : State) (r : BootReport) : State :=
  let s := startUp s r
  if s.sl.running then resumeSl s else s

def execTierCComplete (r : BootReport) (s : State) : Res := .next (if starting s && s.boot.tierC then finishStart s r else s)

def execDeviceReady (r : BootReport) (s : State) : Res := .next (if starting s && !s.boot.tierC then finishStart s r else s)

end Sys2Proof.Machine
end

