-- ==== Sys2Proof/Machine/Live.lean ====
section
/-! DEFINITION. Reading BAR0: registers computed from other state, 64-bit pairs and their latches, the array windows
(R7 to R12 and the register tables of every chapter). -/

namespace Sys2Proof.Machine

/-! ### 64-bit pairs (R12) -/

/-- `off` is `base + k x stride` for a k below n. -/
def inRow (base stride n off : Nat) : Bool :=
  decide (base ≤ off) && decide ((off - base) % stride = 0) && decide ((off - base) / stride < n)
def rowIx (base stride off : Nat) : Nat := (off - base) / stride

/-- Core clocks run: the core's counter adds EFF, in 50 MHz, each ns. -/
def coreCyc (s : State) (n : Nat) : Nat := (core s n).cyc / 20

/-- The pair whose _LO register lies at `off`. -/
def pair (s : State) (off : Nat) : Option Nat :=
  if off = 0x20020 then some (wt s)
  else if off = 0x20030 then some (dt s)
  else if off = 0x30040 then some s.flt.unsupAddr
  else if off = 0x60018 ∨ off = 0x90030 ∨ off = 0x90038 ∨ off = 0xA0010 ∨ off = 0xB0018 then some (cget s off)
  else if inRow 0xD1014 0x40 4 off then some (match sb s (rowIx 0xD1014 0x40 off) with | some b => b.v0 | none => 0)
  else if inRow 0x180038 0x10000 6 off then some (chan s (rowIx 0x180038 0x10000 off)).ueAddr
  else if inRow 0x200018 0x20000 8 off then some (coreCyc s (rowIx 0x200018 0x20000 off))
  else if inRow 0x200020 0x20000 8 off then some (cget s off)
  else if inRow 0x600000 8 65536 off then some (mark s (rowIx 0x600000 8 off))
  else none

/-! ### Computed registers by block -/

/-- The hottest sensor, the lowest of equals, and its reading. -/
def hottest (s : State) : Nat := (List.range 12).foldl (fun m k => if tempOf s m < tempOf s k then k else m) 0

/-- The pads of the GPIO pins: driven where OE is set (R391). -/
def gpioIn (s : State) : Nat :=
  let c := rg s 0x40
  (List.range 8).foldl (fun v n => putBit v n (if bit c (8 + n) then bit c n else bit s.pins.gpio n)) 0

/-- STAGE while the sequence runs is one of ROM to FIRMWARE (R364). -/
def stageNow (s : State) : Nat := if s.boot.stage = 1 ∧ s.boot.failCode = 0 then freshVal s % 5 + 1 else s.boot.stage

def liveMgt (s : State) (off : Nat) : Option Nat :=
  if off = 0 then some (mgtId s)
  else if off = 0x14 then some s.sl.fwVer
  else if off = 0x18 then
    some (s.sl.svn % 256 * 2 ^ 24 + s.fuse.svnMin % 256 * 65536 + b2n s.flash.bankB.valid * 8 + b2n s.flash.bankA.valid * 4 + bootBank s * 2 + s.sl.bank)
  else if off = 0x20 then
    some (stageNow s * 2 ^ 29 + s.boot.failCode * 65536 + s.boot.dramFail * 256 + s.boot.stripFail)
  else if off = 0x24 then some (hottest s * 2 ^ 24 + rf s (0x80 + 4 * hottest s) 15 0)
  else if off = 0x44 then some (gpioIn s)
  else none

def liveTmu (s : State) (off : Nat) : Option Nat :=
  if off = 0x20004 then some (putBit (rg s off) 3 (decide (s.tmu.debt ≠ 0)))
  else if off = 0x20038 then some s.tmu.debt
  else if off = 0x2003C then some (rate s)
  else if off = 0x20044 then some (shFree s)
  else if off = 0x20140 then some (s.pins.pads % 65536 * 65536 + levelWord s)
  else none

def liveFlt (s : State) (off : Nat) : Option Nat :=
  if off = 0x3000C then some s.flt.head
  else if off = 0x30010 then some s.flt.count
  else if off = 0x30014 then some s.flt.epoch
  else if off = 0x30018 then some (b2n s.flt.oos * 2 ^ 31 + s.flt.oosCause)
  else if off = 0x30020 then some (s.flt.laneS * 65536 + s.flt.laneN)
  else if off = 0x30024 then some (s.flt.devS * 65536 + s.flt.devN)
  else if off = 0x30028 then some (min 511 (devCount s))
  else if off = 0x30048 then some s.flt.unsupInfo
  else if off = 0x3004C then some s.flt.unsupCnt
  else if off = 0x30054 then some s.flt.tierM
  else if off = 0x30058 then some s.flt.tierB
  else if off = 0x30060 then some s.flt.hold
  else if inRow 0x30100 4 32 off then some (min 127 (laneCount s (rowIx 0x30100 4 off)))
  else none

/-- DBG_STATE. -/
def dbgState (s : State) : Nat :=
  let bitsOf (f : Core → Bool) : Nat := maskOf ((List.range 8).filter (fun n => f (core s n)))
  s.dbg.lock * 2 ^ 30 + b2n s.dbg.deny * 2 ^ 29 + b2n s.sl.halted * 2 ^ 28 + bitsOf (·.halted) * 256 + bitsOf (·.haltReq)

def liveDbg (s : State) (off : Nat) : Option Nat :=
  if off = 0x40000 then some (dbgState s) else if off = 0x4000C then some (b2n s.dbg.deny * 2) else none

def selCtx (s : State) : Ctx := ctx s (rf s 0x50010 13 0)

def rqWord (r : Option RepRing) : Nat :=
  match r with
  | none => 0
  | some r => 2 ^ 31 + (match r.mode with | .normal => 0 | .spilling => 1 | .dropping => 2) * 2 ^ 29 + r.spill.length

def liveSch (s : State) (off : Nat) : Option Nat :=
  let x := selCtx s
  let open' := s.ctxs.filter (fun e => decide (e.2.st ≠ .free))
  if off = 0x50014 then
    some (ctxCode x.st * 2 ^ 29 + b2n x.stopReq * 2 ^ 28 + b2n x.held * 2 ^ 27 + b2n x.deg * 2 ^ 26 + x.cls * 2 ^ 22 + x.core * 2 ^ 19 + x.cause)
  else if off = 0x50018 then some (match x.wait with | some (.mark m _) => if x.st = .faulted then 0 else 2 ^ 31 + m | _ => 0)
  else if inRow 0x50020 4 8 off then
    let here := open'.filter (fun e => decide (e.2.core = rowIx 0x50020 4 off))
    some (here.length * 65536 + (here.filter (fun e => decide (e.2.st = .ready))).length)
  else if off = 0x50040 then some open'.length
  else if off = 0x50128 then some s.sl.mgq.length
  else if off = 0x50130 then some (spillUsed s)
  else if inRow 0x50140 4 16 off then some (rqWord (rq s (rowIx 0x50140 4 off)))
  else none

/-- A class is exhausted on a unit of core n. -/
def exhAt (s : State) (c n u : Nat) : Bool := decide (unitCap s c n u ≤ unitUsed s c n u)
def exhMask (s : State) (c : Nat) (us : List Nat) : Nat := maskOf ((List.range 8).filter (fun n => us.any (exhAt s c n)))

def liveHst (s : State) (off : Nat) : Option Nat :=
  if off = 0x60000 then some (b2n s.hst.pend * 2 ^ 31)
  else if inRow 0x60110 0x20 16 off then
    let c := rowIx 0x60110 0x20 off
    some (b2n (decide (dramCap s c ≤ dramUsed s c)) * 2 ^ 31 + exhMask s c [3] * 65536 + exhMask s c [1, 2] * 256 + exhMask s c [0])
  else if inRow 0x60114 0x20 16 off then some (dramUsed s (rowIx 0x60114 0x20 off) / 1024)
  else none

/-- The first core of the arc of core n: link k joins core k and the next (R193). -/
def arcBack (s : State) : Nat → Nat → Nat
  | 0, n => n
  | f + 1, n => if linkUp s (n + 7) then arcBack s f ((n + 7) % 8) else n
def arcStart (s : State) (n : Nat) : Nat := if linksDown s = 0 then 0 else arcBack s 7 n
def arcLen (s : State) (a : Nat) : Nat := ((List.range 8).filter (fun n => decide (arcStart s n = a))).length
/-- Arcs of two or more cores, in the order of their first cores. -/
def arcs (s : State) : List Nat := (List.range 8).filter (fun a => decide (arcStart s a = a) && decide (2 ≤ arcLen s a))

/-- RING_ROUTEn; 0xF where there is none. -/
def routeWord (s : State) (n : Nat) : Nat :=
  let a := arcStart s n
  match (arcs s).findIdx? (fun x => decide (x = a)) with
  | none => 0xFFFF
  | some i =>
    i * 4096 + (n + 8 - a) % 8 * 256 + (if linkUp s n then (n + 1) % 8 else 15) * 16 + (if linkUp s (n + 7) then (n + 7) % 8 else 15)

def liveRing (s : State) (off : Nat) : Option Nat :=
  if off = 0x70008 then
    some (maskOf ((List.range 8).filter (linkUp s)) * 256 + (if s.ring.trained then (arcs s).length else 0) * 16 + ringState s)
  else if inRow 0x70020 4 8 off then
    let k := rowIx 0x70020 4 off
    some (b2n (linkUp s k) * 2 ^ 31 + tget 0 s.ring.retry k)
  else if inRow 0x70040 4 8 off then some (routeWord s (rowIx 0x70040 4 off))
  else none

def liveKvm (s : State) (off : Nat) : Option Nat :=
  if off = 0x80020 then some (ptFree s)
  else if inRow 0x80200 4 4 off then some (poolFree s (rowIx 0x80200 4 off))
  else none

/-- Bytes free from `a` to the next extent or the area's end. -/
def gapFrom (s : State) (a : Nat) : Nat :=
  if (extents s).any (fun e => decide (e.1 ≤ a) && decide (a < e.2)) then 0
  else (((extents s).map (·.1)).filter (fun b => decide (a ≤ b))).foldl min (capEnd s) - a
def largestFree (s : State) : Nat := ((capBase s :: (extents s).map (·.2)).map (gapFrom s)).foldl max 0 / 4096

def liveCap (s : State) (off : Nat) : Option Nat :=
  if off = 0x9001C then some (largestFree s)
  else if inRow 0x90100 4 16 off then
    let v := rowIx 0x90100 4 off
    some (match vocab s v with | some x => 2 * 2 ^ 30 + min 8191 (vocabRefs s v) * 2 ^ 17 + x.nTok | none => 0)
  else if inRow 0x90140 4 16 off then some (match vocab s (rowIx 0x90140 4 off) with | some x => x.nMerge | none => 0)
  else none

/-- CODE_AIVER names a release that the spec does not give. -/
def liveCode (s : State) (off : Nat) : Option Nat :=
  if off = 0xA000C then some s.code.queue.length
  else if off = 0xA001C then some (Config.aiEntry 0 % 65536)
  else none

def streamWord (s : State) (x : Stream) : Nat :=
  (match x.st with | .free => 0 | .opened => 1 | .skip => 2 | .closing => 3) * 2 ^ 30 +
  (match x.cur with
   | some (_, p) => p % 2 * 2 ^ 29 + 2 ^ 28 + b2n (heldPic s x) * 2 ^ 27
   | none => 0) + x.queue.length * 65536 + min 65535 x.input.length

def liveDev (s : State) (off : Nat) : Option Nat :=
  if inRow 0xB0100 0x10 32 off then some (streamWord s (stream s (rowIx 0xB0100 0x10 off)))
  else if inRow 0xB0104 0x10 32 off then some (stream s (rowIx 0xB0104 0x10 off)).late
  else if inRow 0xB0108 0x10 32 off then some (stream s (rowIx 0xB0108 0x10 off)).skipped
  else none

def liveFe (s : State) (off : Nat) : Option Nat :=
  if off = 0xC007C then
    some (b2n (decide (s.fe.bed.st ≠ .idle) && decide (s.fe.bed.st ≠ .paused)) * 2 ^ 31 + s.fe.bed.pos % 2 ^ 24)
  else none

/-- The oldest stripe not yet released. -/
def oldestStripe (s : State) (b : Nat) (x : StripeBuf) : Nat :=
  ((List.range (sbNc s b)).map (fun p => p + sbNc s b * tget 0 x.rel p)).foldl min (sbNc s b * (x.head + 1))

def liveDrk (s : State) (off : Nat) : Option Nat :=
  if inRow 0xD101C 0x40 4 off then some (match sb s (rowIx 0xD101C 0x40 off) with | some x => x.head | none => 0)
  else if inRow 0xD102C 0x40 4 off then
    let b := rowIx 0xD102C 0x40 off
    some (match sb s b with | some x => oldestStripe s b x | none => 0)
  else none

def liveSp (s : State) (off : Nat) : Option Nat :=
  if inRow 0x10001C 0x10000 8 off then some (lockMask s (rowIx 0x10001C 0x10000 off))
  else if inRow 0x100020 0x10000 8 off then some s.board.laneMbps
  else none

/-- STATE of a channel; during training it is one of UNTRAINED to READY (R301). -/
def chanState (s : State) (n : Nat) : Nat :=
  if s.boot.stage = 6 then 3
  else if s.boot.stage = 7 ∧ s.boot.failCode = 3 then (if s.boot.dramFail.testBit n then 4 else 3)
  else if s.boot.stage = 1 ∧ s.boot.failCode = 0 then freshVal s % 4
  else 0

def mcCfg (s : State) (n : Nat) : Nat :=
  s.board.chanGib * 65536 + b2n s.board.dens16 * 1024 + b2n s.board.x4 * 512 + (s.board.ranks - 1) * 256 + chanState s n

def liveMc (s : State) (off : Nat) : Option Nat :=
  let n := off / 0x10000 - 0x18
  let r := off % 0x10000
  if off < 0x180000 ∨ 0x1E0000 ≤ off then none
  else if r = 0 then some (mcCfg s n)
  else if r = 0x10 then some (putBit (rg s off) 30 s.mc.hot)
  else if inRow 0x20 4 4 r then some (s.board.bxor.getD (rowIx 0x20 4 r) 0)
  else if r = 0x54 then some (chan s n).scrub
  else if inRow 0x80 4 18 r then some (tget 0 s.boot.eyes (n * 18 + rowIx 0x80 4 r))
  else none

def liveEn (s : State) (off : Nat) : Option Nat :=
  let n := off / 0x20000 - 0x10
  let r := off % 0x20000
  let k := core s n
  if off < 0x200000 ∨ 0x300000 ≤ off then none
  else if r = 0x10 then some (b2n k.pend * 256 + k.freq)
  else if r = 0x14 then some (k.cap * 65536 + k.eff)
  else if r = 0x2C then some (match k.cur with | some c => 32768 + c | none => 0)
  else if r = 0x30 then some (sbFill k)
  else none

/-- A computed register of BAR0, by its block. -/
def liveReg (s : State) (off : Nat) : Option Nat :=
  match off / 0x10000 with
  | 0 => liveMgt s off
  | 2 => liveTmu s off
  | 3 => liveFlt s off
  | 4 => liveDbg s off
  | 5 => liveSch s off
  | 6 => liveHst s off
  | 7 => liveRing s off
  | 8 => liveKvm s off
  | 9 => liveCap s off
  | 10 => liveCode s off
  | 11 => liveDev s off
  | 12 => liveFe s off
  | 13 => liveDrk s off
  | _ => ((liveSp s off).orElse (fun _ => liveMc s off)).orElse (fun _ => liveEn s off)

/-! ### Array windows -/

def entWord (e : Entry) : Nat → Word
  | 0 => e.w0
  | 1 => e.w1
  | 2 => e.w2
  | _ => e.w3

/-- Lane word 0 (R32). -/
def laneStatus (l : Lane) : Nat :=
  b2n l.startPend * 2 ^ 24 + min 255 l.missRun * 65536 + inflight l % 4096 * 16 + b2n l.stopPend * 8 + laneCode l.st

def cfgWord (c : LaneCfg) : Nat → Word
  | 1 => c.span
  | 2 => c.job
  | 3 => c.markers
  | 4 => c.slots
  | _ => 0

/-- A word of the Shutter window, the lane windows or the doorbells (R32, R62, R274). -/
def windowRead (s : State) (off : Nat) : Option Nat :=
  if inRow 0x400000 4 16384 off then some (entWord (ent s ((off - 0x400000) / 16)) (off / 4 % 4)).toNat
  else if inRow 0x480000 4 1024 off then
    let l := lane s ((off - 0x480000) / 64 % 32)
    let w := off / 4 % 16
    some (if w = 0 then laneStatus l else (cfgWord (if off < 0x480800 then l.pend else l.act) w).toNat)
  else if inRow 0x700000 4 512 off ∨ inRow 0x700800 4 16 off then some 0
  else none

/-! ### A host read of BAR0 (R7, R8, R12) -/

/-- The half of a pair at `off`: the low half takes the latch, the high half releases it. -/
def pairRead (s : State) (off : Nat) : Option (State × Nat) :=
  match pair s off with
  | some v => some ({ s with latch := tset none s.latch (off + 4) (some (BitVec.ofNat 32 (v / 2 ^ 32))) }, v)
  | none =>
    if off < 4 then none
    else
      match pair s (off - 4) with
      | some v =>
        (match tget none s.latch off with
         | some h => some ({ s with latch := tset none s.latch off none }, h.toNat)
         | none => some (s, v / 2 ^ 32))
      | none => none

/-- The state after the read, and its 32 bits. -/
def hostRead (s : State) (off : Nat) : State × Nat :=
  if off % 4 ≠ 0 ∨ 0x2000000 ≤ off then (logUnsup s 0 off false, 0)
  else
    match pairRead s off with
    | some r => (r.1, r.2 % 2 ^ 32)
    | none =>
      match windowRead s off with
      | some v => (s, v % 2 ^ 32)
      | none =>
        match liveReg s off with
        | some v => (useFresh s, v % 2 ^ 32)
        | none => match findReg off with
          | some _ => (s, rg s off)
          | none => (logUnsup s 0 off false, 0)

/-- `len` bytes from byte `off` lie within one aligned word (R7). -/
def inWord (off len : Nat) : Bool := decide (off % 4 + len ≤ 4)

/-- A read of `len` bytes from byte `off`: the addressed bytes of the full register, or, where they do not lie in one
word, an unsupported access (R7, R8). -/
def busRead (s : State) (off len : Nat) : State :=
  if inWord off len then
    let r := hostRead s (off / 4 * 4)
    { r.1 with busData := r.2 / 2 ^ (8 * (off % 4)) % 2 ^ (8 * len), busPoison := false }
  else { logUnsup s 0 off false with busData := 0, busPoison := false }

def execRegReadLoLatch (off len : Nat) (s : State) : Res := .next (if powered s then busRead s off len else s)

end Sys2Proof.Machine
end

