-- ==== Sys2Proof/Machine/Regs.lean ====
section
/-! DEFINITION. Writing BAR0, and the accesses through BAR2 and BAR4 (R8 to R10, R19, R20, R33, R56, R64, R65, R69, R78,
R79, R82, R86, R89, R93, R102, R160, R174, R190, R205, R259, R270, R273, R274, R297, R320, R322, R344, R355, R402). -/

namespace Sys2Proof.Machine

/-! ### Conditions -/

def noLaneRuns (s : State) : Bool := !s.lanes.any (fun e => isActive e.2.st)

/-- The conditions of R56: no lane runs, no web-time entry is armed, no line trigger is. -/
def wtSettable (s : State) : Bool :=
  noLaneRuns s && !s.sht.any (fun e => e.2.armed && !e.2.dev) && decide (trigMask s = 0)

def between (lo hi v : Nat) : Bool := decide (lo ≤ v) && decide (v ≤ hi)

/-- A discarded write (R8). -/
def discard (s : State) (off : Nat) : State := logUnsup s 0 off true

/-- A write by access type (R10). -/
def plainWrite (s : State) (r : RegRow) (off : Nat) (v : Word) : State :=
  let m := BitVec.ofNat 32 r.rw
  rset s off (((rget s off &&& ~~~m) ||| (v &&& m)) &&& ~~~(v &&& BitVec.ofNat 32 r.w1c))

/-! ### Timing unit (R55, R56, R64, R69) -/

/-- The remainder of a fraction F (in 1/65,536) under a denominator. -/
def remOf (f d : Nat) : Nat := f * d / 65536

/-- A load of the 64-bit origin: the debt and its saturation end (R56, R57). -/
def setWt (s : State) (v : Nat) : State :=
  { s with tmu := { s.tmu with line := v / 65536, frac := v % 65536, rem := remOf (v % 65536) (max 1 (den s)), debt := 0, sat := false } }

def wtSetHi (s : State) (v : Word) : State :=
  if wtSettable s then setWt (rset s 0x2002C v) (rg s 0x20028 + v.toNat * 2 ^ 32) else discard s 0x2002C

def execTmuWtSetHiWrite (v : Word) (s : State) : Res := .next (if powered s then wtSetHi s v else s)

/-- DEN is 1 to 65,535, NUM at most 16 x DEN (R57). -/
def divOk (v : Word) : Bool := decide (bits v.toNat 15 0 ≠ 0) && decide (bits v.toNat 31 16 ≤ 16 * bits v.toNat 15 0)

/-- The published web time and the reverse debt are kept; the remainder follows the published fraction (R56). -/
def divWrite (s : State) (v : Word) : State :=
  if wtSettable s && divOk v then { rset s 0x20014 v with tmu := { s.tmu with rem := remOf s.tmu.frac (bits v.toNat 15 0) } }
  else discard s 0x20014

def execTmuDivWrite (v : Word) (s : State) : Res := .next (if powered s then divWrite s v else s)

/-- TMU_SH_PART may change: no host entry is armed, and the new ones are free. -/
def partOk (s : State) (n : Nat) : Bool :=
  decide (n ≤ 1024) &&
  s.sht.all (fun e => if e.1 < hostN s then !e.2.armed else !(decide (e.1 < n) && decide (e.2.owner ≠ .free)))

def shPart (s : State) (v : Word) : State :=
  let n := bits v.toNat 10 0
  if partOk s n then rsetN s 0x20040 n else discard s 0x20040

def execTmuShPartWrite (v : Word) (s : State) : Res := .next (if powered s then shPart s v else s)

/-- TMU_MKn_CFG may change (R69). -/
def mkOk (s : State) (n : Nat) : Bool :=
  !s.lanes.any (fun e => isActive e.2.st && names e.2.act n) &&
  !s.sht.any (fun e => e.2.armed && decide (e.2.owner = .host) && decide (e.2.typ = 0) && decide (e.2.out = n))

/-! ### PCI Express aperture (R20) -/

def aptWrite (s : State) (v : Word) : State :=
  let b := bits v.toNat 7 0
  if b + 4 ≤ s.board.chanGib * 6 then rsetN s 0x10100 b else discard s 0x10100

def execPcieAptBaseWrite (v : Word) (s : State) : Res := .next (if powered s then aptWrite s v else s)

/-! ### Strip ports (R76, R78, R79) -/

/-- The mapped range of port p meets that of another enabled port. -/
def portClash (s : State) (p q : Nat) : Bool :=
  decide (p ≠ q) && spEn s q && meets (pixBase s p) (pixBase s p + mapped s p) (pixBase s q) (pixBase s q + mapped s q)

/-- The parameter values of R76. -/
def jesdOk (w rate : Nat) : Bool :=
  let f := mOf w * sOf w * npOf w
  decide (bits w 29 28 ≤ 2) && decide (bits w 27 25 ≤ 3) && decide (bits w 24 22 ≤ 3) && decide (bits w 13 12 ≤ 2) &&
  (decide (npOf w = 16) || decide (bits w 11 10 = 0)) && decide (f = fOf w * (8 * lOf w)) && decide (256 * eOf w % fOf w = 0) &&
  between 6000 16500 rate

/-- The payload check of R79, in kbit/s. -/
def payloadOk (s : State) (p : Nat) : Bool :=
  let w := rg s (spBase p)
  let rmax := rf s (spBase p + 0xC) 23 16
  between 1 150 rmax &&
    decide (pixCount s p * bandsOf w * rmax * 12 * 66 * npOf w ≤ lOf w * s.board.laneMbps * 1000 * 64 * 12)

/-- The checks at EN = 1; a port that did not lock refuses (R365). -/
def portOk (s : State) (p : Nat) : Bool :=
  let w := rg s (spBase p)
  jesdOk w s.board.laneMbps && between 4 8192 (pixCount s p) && decide (pixCount s p * bandsOf w % (mOf w * sOf w) = 0) &&
  decide (cropLo s p + cropHi s p ≤ pixCount s p) && decide (pixBase s p % 4 = 0) && decide (mapped s p % 4 = 0) &&
  decide (pixBase s p + mapped s p ≤ 65536) && !(List.range 8).any (portClash s p) && payloadOk s p &&
  s.board.ports.testBit p && !s.boot.stripFail.testBit p

/-- A write of SPn_CFG: while EN = 0 it configures and may enable; while EN = 1 it may only clear EN (R78). -/
def spnWrite (s : State) (p : Nat) (v : Word) : State :=
  let off := spBase p
  if spEn s p then
    if bit v.toNat 31 then discard s off
    else if lanesMeet s (pixBase s p) (pixBase s p + mapped s p) then discard s off
    else portOff (rsetN s off (putBit (rg s off) 31 false)) p
  else
    let s := rset s off (v &&& 0x7FFFFF87)
    if !bit v.toNat 31 then s
    else if portOk s p then rsetN s off (putBit (rg s off) 31 true)
    else flag s (off + 0x10) 5

def execSpnCfgEnable (port : Nat) (v : Word) (s : State) : Res := .next (if powered s && decide (port < 8) then spnWrite s port v else s)

/-! ### KV pools (R174, R190) -/

def poolDram (s : State) (p : Nat) : Nat × Nat :=
  let a := poolReg s p 4 * 4096
  (a, a + poolReg s p 12 * frameBytes s p)

def poolClash (s : State) (p q : Nat) : Bool :=
  decide (p ≠ q) && poolEn s q &&
  (meets (poolReg s p 8) (poolReg s p 8 + poolReg s p 12) (poolReg s q 8) (poolReg s q 8 + poolReg s q 12) ||
   meets (poolDram s p).1 (poolDram s p).2 (poolDram s q).1 (poolDram s q).2)

def framePoolOk (s : State) (p : Nat) : Bool :=
  between 1 65536 (poolPsize s p) && decide (poolReg s p 8 + poolReg s p 12 ≤ 1048576) &&
  decide ((poolDram s p).2 ≤ dramSize s) && !(List.range 4).any (poolClash s p)

/-- A write of KVM_POOLp_CFG, with the checks at EN = 1. -/
def poolWrite (s : State) (p : Nat) (v : Word) : State :=
  let off := 0x80100 + 16 * p
  if poolUsed s p ≠ 0 then discard s off
  else
    let t := rset s off ((v &&& 0x3F01FFFF) ||| (rget s off &&& 0x40000000))
    if !bit v.toNat 31 then t
    else if framePoolOk t p then rset t off ((v &&& 0x3F01FFFF) ||| 0x80000000)
    else rset t off ((v &&& 0x3F01FFFF) ||| 0x40000000)

def execKvmPoolEnable (pool : Nat) (v : Word) (s : State) : Res := .next (if powered s && decide (pool < 4) then poolWrite s pool v else s)

/-- An open paged sequence lies in pool p. -/
def poolOpen (s : State) (p : Nat) : Bool := s.kv.seqs.any (fun e => match e.2 with | some q => q.paged && decide (q.pool = p) | none => false)

def hotOk (s : State) (v : Nat) : Bool :=
  !poolOpen s (rf s 0x80010 31 30) && !poolOpen s (bits v 31 30) && decide (bits v 8 0 ≤ 256)

/-! ### Salhan admin rings and spill area (R273, R297) -/

def adm64 (s : State) (lo : Nat) : Nat := rg s lo + rg s (lo + 4) * 2 ^ 32

/-- SQ0 at priority 3, bound to CQ0. -/
def makeAdmin (s : State) : State :=
  let v := rf s 0x50100 11 0
  setSq (setCq s 0 (some { base := adm64 s 0x5010C, log2 := rf s 0x50100 19 16, vec := if v = 0xFFF then none else some v })) 0
    (some { base := adm64 s 0x50104, log2 := rf s 0x50100 23 20, cq := 0, prio := 3 })

/-- SQ0 holds a command not yet accepted or not yet completed. -/
def sq0Busy (s : State) : Bool :=
  incomplete s 0 || (match sq s 0 with | some r => decide (r.head ≠ r.tail) | none => false)

def admWrite (s : State) (v : Word) : State :=
  let on := bit v.toNat 31
  if bit (rg s 0x50100) 31 then
    if on || sq0Busy s then discard s 0x50100
    else setCq (setSq (rsetN s 0x50100 (putBit (rg s 0x50100) 31 false)) 0 none) 0 none
  else if between 4 12 (bits v.toNat 23 20) && between 4 12 (bits v.toNat 19 16) then
    let s := rset s 0x50100 (v &&& 0x80FF0FFF)
    if on then makeAdmin s else s
  else discard s 0x50100

def spillOk (s : State) (v : Nat) : Bool :=
  decide (spillUsed s = 0) && between 16 512 (bits v 9 0) && decide ((bits v 25 16 + bits v 9 0) * 65536 ≤ drkSize)

/-! ### Debug control (R355) -/

def execDbgCtrlLock (s : State) : Res := .next (if powered s then { s with dbg := { s.dbg with lock := 0 } } else s)
def execDbgCtrlDeny (s : State) : Res := .next (if powered s then { s with dbg := { s.dbg with deny := true } } else s)

/-- Bit 1 sets DENY, bit 0 locks. -/
def dbgCtrl (s : State) (v : Word) : State :=
  { s with dbg := { s.dbg with lock := if bit v.toNat 0 then 0 else s.dbg.lock, deny := s.dbg.deny || bit v.toNat 1 } }

/-! ### Writes with conditions, by block -/

/-- The condition of FE_REF_APPLY, for a register that names no port (R86, R89). -/
def feOk (s : State) : Bool := noLaneRuns s

/-- A write that its register's rule discards. -/
def refused (s : State) (off v : Nat) : Bool :=
  if off = 0x1C then !between 10 1000 (bits v 9 0)
  else if off = 0x28 then !between 60 100 (bits v 7 0)
  else if off = 0x20000 then decide (2 ≤ bits v 1 0) || !wtSettable s
  else if off = 0x20028 then !wtSettable s
  else if inRow 0x20100 4 16 off then !mkOk s (rowIx 0x20100 4 off)
  else if off = 0x30030 then !between 10 1000000 (bits v 23 0)
  else if inRow 0x30200 4 16 off then !between 100 60000000 (bits v 25 0)
  else if inRow 0x50104 4 4 off then bit (rg s 0x50100) 31
  else if off = 0x5012C then !spillOk s v
  else if off = 0x6000C then !between 1024 1048575 (bits v 19 0)
  else if off = 0x60010 then !between 10 10000 (bits v 13 0)
  else if off = 0x80010 then !hotOk s v
  else if inRow 0x80100 4 16 off then decide (poolUsed s (rowIx 0x80100 16 (off / 16 * 16)) ≠ 0)
  else if inRow 0x90010 4 3 off then s.cap.vocabs.any (fun e => e.2.isSome)
  else if off = 0xA0000 ∨ inRow 0x520000 4 256 off then !noLaneRuns s
  else if off = 0xB0000 then !noLaneRuns s || decide (256 < bits v 24 16)
  else if off = 0xC0000 ∨ inRow 0xC0020 4 12 off ∨ inRow 0x500000 4 8208 off then !feOk s
  else if off = 0xC000C then bit v 31 && (List.range 8).any (spEn s)
  else if inRow 0x510000 4 256 off then decide (v < 500)
  else if decide (0xD1000 ≤ off) && decide (off < 0xD1100) && decide (off % 64 < 0x14) then bit (rg s (off / 64 * 64)) 31
  else if decide (0x100000 ≤ off) && decide (off < 0x180000) && decide (off % 0x10000 < 0x10) then spEn s (off / 0x10000 - 16)
  else if inRow 0x180010 0x10000 6 off then !(decide (bits v 4 0 = 0) || between 8 24 (bits v 4 0))
  else if inRow 0x180014 0x10000 6 off then decide (bits v 31 24 = 0) || decide (bits v 23 16 = 0) || !between 1 64 (bits v 6 0)
  else if inRow 0x180050 0x10000 6 off then !between 1 168 (bits v 7 0)
  else false

/-- The host's clear of ENC_FAULT starts the advance that ends the encoder holds (R60). -/
def encClear (s : State) : State :=
  { s with lanes := s.lanes.map (fun e => if e.2.encHold then (e.1, { e.2 with encFrom := some (wt s) }) else e) }

/-- A write of TMU_STATUS (R10, R60). -/
def tmuStatusWrite (s : State) (v : Word) : State :=
  let t := rset s 0x20004 (rget s 0x20004 &&& ~~~(v &&& 0xF7))
  if bit (rg s 0x20004) 2 && bit v.toNat 2 then encClear t else t

/-- A write of FE_STATUS (R10): TRACK_LIMIT stays set while the clamp is in force (R87). -/
def feStatusWrite (s : State) (v : Word) : State :=
  rset s 0xC0004 (rget s 0xC0004 &&& ~~~(v &&& (if s.fe.clamped ∧ trackEn s then 5 else 7)))

/-- The writes that do more than store. -/
def special (s : State) (off : Nat) (v : Word) : Option State :=
  if off = 0x2C then some (if bit (avs s) 31 = bit v.toNat 31 then s else avsWrite s (bit v.toNat 31))
  else if off = 0x10100 then some (aptWrite s v)
  else if off = 0x20004 then some (tmuStatusWrite s v)
  else if off = 0x20014 then some (divWrite s v)
  else if off = 0x2002C then some (wtSetHi s v)
  else if off = 0x20040 then some (shPart s v)
  else if off = 0x30060 then
    some { s with flt := { s.flt with hold := (List.range 16).foldl (fun h n => putBit h n (h.testBit n && !bit v.toNat n)) s.flt.hold } }
  else if off = 0x4000C then some (dbgCtrl s v)
  else if off = 0x50100 then some (admWrite s v)
  else if off = 0x60000 then some (if bit v.toNat 0 then commit s else s)
  else if off = 0x60100 then some (rset s off ((v &&& 0x30000000) ||| 0xC0000000))
  else if off = 0x70000 then some (forceCoarse s (bit v.toNat 0))
  else if inRow 0x80100 16 4 off then some (poolWrite s (rowIx 0x80100 16 off) v)
  else if off = 0xC0004 then some (feStatusWrite s v)
  else if inRow 0xD1000 64 4 off then some (sbWrite s (rowIx 0xD1000 64 off) v)
  else if inRow 0x100000 0x10000 8 off then some (spnWrite s (rowIx 0x100000 0x10000 off) v)
  else if inRow 0x180010 0x10000 6 off then
    some (if refused s off v.toNat then discard s off else rset s off (v &&& (if off = 0x180010 then 0x8000001F else 0x1F)))
  else if inRow 0x200010 0x20000 8 off then some (dvfsWrite s (rowIx 0x200010 0x20000 off) v.toNat)
  else none

/-! ### Array windows -/

/-- A host write of word 0, 1 or 3. Word 3 stores all its 32 bits: R62 gives a field for each host type and calls no other bit of
it reserved (DESIGN CHOICE, notes/assumptions/77.md). -/
def putWord (e : Entry) (w : Nat) (v : Word) : Entry :=
  match w with
  | 0 => { e with w0 := v }
  | 1 => { e with w1 := v }
  | _ => { e with w3 := v }

/-- A word of the Shutter table (R64, R65); the host partition takes writes only after ready (R366). -/
def shutterWrite (s : State) (off : Nat) (v : Word) : State :=
  let k := (off - 0x400000) / 16
  let w := off / 4 % 4
  if !isReady s then s
  else if w = 2 then shutterArm s k v.toNat
  else if hostN s ≤ k then discard s off
  else if pulseRuns (ent s k) then discard s off
  else setEnt s k (putWord (ent s k) w v)

def putCfg (c : LaneCfg) (w : Nat) (v : Word) : LaneCfg :=
  match w with
  | 1 => { c with span := v }
  | 2 => { c with job := v &&& 0xC3F }
  | 3 => { c with markers := v &&& 0x1FF }
  | 4 => { c with slots := v &&& 0x1FF }
  | _ => c

/-- A word of a lane's pending copy or active image (R33). -/
def laneWrite (s : State) (off : Nat) (v : Word) : State :=
  let n := (off - 0x480000) / 64 % 32
  let l := lane s n
  if 0x480800 ≤ off ∨ pendOpen l = false then discard s off
  else setLane s n { l with pend := putCfg l.pend (off / 4 % 16) v }

/-- The low half of a mark is kept, the high half signals (R259). -/
def markWrite (s : State) (off : Nat) (v : Word) : State :=
  let m := (off - 0x600000) / 8
  if off % 8 = 0 then { s with marks := { s.marks with low := tset 0 s.marks.low m v.toNat } }
  else signalExt s m (v.toNat * 2 ^ 32 + tget 0 s.marks.low m)

/-- A doorbell (R274). -/
def doorbell (s : State) (off : Nat) (v : Word) : State :=
  let idx := v.toNat % 65536
  let n := (off - 0x700000) / 8
  if 0x700800 ≤ off then rqHead s ((off - 0x700800) / 4) idx
  else if off % 8 = 0 then sqTail s n idx
  else cqHead s n idx

def windowWrite (s : State) (off : Nat) (v : Word) : Option State :=
  if inRow 0x400000 4 16384 off then some (shutterWrite s off v)
  else if inRow 0x480000 4 1024 off then some (laneWrite s off v)
  else if inRow 0x600000 4 131072 off then some (markWrite s off v)
  else if inRow 0x700000 4 512 off ∨ inRow 0x700800 4 16 off then some (doorbell s off v)
  else none

/-- A whole aligned 32-bit host write of BAR0. -/
def hostWrite (s : State) (off : Nat) (v : Word) : State :=
  if off % 4 ≠ 0 ∨ 0x2000000 ≤ off then discard s off
  else
    match windowWrite s off v with
    | some t => t
    | none =>
      match findReg off with
      | none => discard s off
      | some r =>
        match special s off v with
        | some t => t
        | none => if refused s off v.toNat then discard s off else plainWrite s r off v

def execRegisterWrite (off : Nat) (v : Word) (s : State) : Res := .next (if powered s then hostWrite s off v else s)

/-! ### Unsupported accesses and the memory BARs (R7, R8, R18 to R20, R320, R344, R366) -/

/-- A 32-bit word of BAR0 that some chapter allocates. -/
def allocated (off : Nat) : Bool :=
  (findReg off).isSome || inRow 0x400000 4 16384 off || inRow 0x480000 4 1024 off || inRow 0x600000 4 131072 off ||
    inRow 0x700000 4 512 off || inRow 0x700800 4 16 off

/-- The access is unallocated, unbacked or misaligned. -/
def unsupported (s : State) (bar off len : Nat) : Bool :=
  if bar = 0 then !inWord off len || !allocated (off / 4 * 4)
  else if bar = 2 then !isReady s || decide (drkSize ≤ off)
  else decide (bar = 4) && (!isReady s || decide (0x100000000 ≤ off))

def unsupportedAccess (s : State) (bar off : Nat) (write : Bool) : State :=
  let s := logUnsup s bar off write
  if write then s else { s with busData := 0, busPoison := false }

/-- A read of BAR0 that is supported gives its bytes, and a write with a byte enable clear is discarded (R7); the memory
BARs have rows of their own. -/
def execUnsupportedAccess (bar off : Nat) (write : Bool) (len : Nat) (s : State) : Res :=
  .next (if !powered s then s
    else if unsupported s bar off len then unsupportedAccess s bar off write
    else if bar = 0 ∧ write = false then busRead s off len
    else s)

/-- Four bytes of memory through a memory BAR. -/
def barAccess (s : State) (a : Nat) (data : Option Word) : State :=
  match data with
  | some v => storeBytes s a (leBytes 4 v.toNat)
  | none => if readsPoison s a 4 then { s with busData := sat32, busPoison := true } else { s with busData := rdLe s a 4, busPoison := false }

/-- An access whose bytes do not all lie in the Darkroom is treated as unbacked whole (R19; DESIGN CHOICE for one that straddles the
Darkroom's end, notes/assumptions/77.md). -/
def bar2 (s : State) (off : Nat) (data : Option Word) : State :=
  if !isReady s ∨ drkSize < off + 4 then unsupportedAccess s 2 off data.isSome else barAccess s (drkBase + off) data

/-- Errors that a read of four bytes meets are raised first (R318, R321). -/
def barErrors (s : State) (a : Nat) (data : Option Word) (ecc : List (Nat × Bool)) : State :=
  if isReady s ∧ data.isNone then eccErrors s (eccWithin s a 4 ecc) else s

def execBar2Access (off : Nat) (data : Option Word) (ecc : List (Nat × Bool)) (s : State) : Res :=
  .next (if powered s then bar2 (if drkSize < off + 4 then s else barErrors s (drkBase + off) data ecc) off data else s)

/-- The device address of an offset in BAR4 (R20). -/
def apertureAt (s : State) (off : Nat) : Nat := rf s 0x10100 7 0 * 0x40000000 + off

/-- Through the aperture, charged to class 4 (R20, R320). -/
def bar4 (s : State) (off : Nat) (data : Option Word) : State :=
  if !isReady s ∨ 0x100000000 < off + 4 then unsupportedAccess s 4 off data.isSome
  else barAccess (chargeDram s 4 4) (apertureAt s off) data

def execBar4Access (off : Nat) (data : Option Word) (ecc : List (Nat × Bool)) (s : State) : Res :=
  .next (if powered s then bar4 (if 0x100000000 < off + 4 then s else barErrors s (apertureAt s off) data ecc) off data else s)

end Sys2Proof.Machine
end

