-- ==== Sys2Proof/Machine/Debug.lean ====
section
/-! DEFINITION. The debug port: TAP instructions, unlocking, debug commands, and the SMBus link (R353 to R359, R386). -/

namespace Sys2Proof.Machine

/-- Set what the next data scan gives. -/
def scanOut (s : State) (v : Nat) : State := { s with dbg := { s.dbg with tdo := v } }
def setTap (s : State) (c : Nat) : State := { s with dbg := { s.dbg with tap := c } }

/-! ### TAP instructions (R353, R354) -/

/-- The boundary register captures the pins; its order is that of the chain description, outside the spec. -/
def capturePins (s : State) : State := scanOut (useFresh s) (freshVal s)

/-- The bypass register captures 0. -/
def bypass (s : State) : State := scanOut (setTap s 0xFF) 0

/-- EXTEST, CLAMP or HIGHZ: refused, it acts as BYPASS. -/
def bscan (s : State) (c : Nat) (f : State → State) : State :=
  if bscanOk s then f (setTap s c) else flag (bypass s) 0x40004 3

def execExtest (s : State) : Res := .next (if s.pins.pwrok then bscan s 0x00 capturePins else s)
def execClamp (s : State) : Res := .next (if s.pins.pwrok then bscan s 0x04 (fun s => scanOut s 0) else s)
def execHighz (s : State) : Res := .next (if s.pins.pwrok then bscan s 0x05 (fun s => scanOut s 0) else s)
def execSamplePreload (s : State) : Res := .next (if s.pins.pwrok then capturePins (setTap s 0x02) else s)
def execIdcode (s : State) : Res := .next (if s.pins.pwrok then scanOut (setTap s 0x01) 0x18160A65 else s)
def execBypass (s : State) : Res := .next (if s.pins.pwrok then bypass s else s)

/-! ### Unlocking (R355) -/

/-- A challenge is issued: fewer than 16 failures, and none within the last second. -/
def mayChallenge (s : State) : Bool := decide (s.dbg.fails < 16) && decide (s.dbg.blockUntil ≤ s.flt.clock)

/-- A fresh 48-byte nonce followed by the device identifier. -/
def challenge (s : State) : State :=
  let s := setTap s 0x21
  let n := freshVal s % 2 ^ 384
  if mayChallenge s then scanOut { useFresh s with dbg := { s.dbg with nonce := some n } } (n + s.fuse.serial % 2 ^ 64 * 2 ^ 384)
  else scanOut (useFresh s) (freshVal s)

def execDbgChallenge (s : State) : Res := .next (if powered s then challenge s else s)

/-- `valid` says that the signature over the nonce in force, the identifier and LEVEL verifies under a debug key. -/
def response (s : State) (level : Nat) (valid : Bool) : State :=
  let s := setTap s 0x22
  if s.dbg.nonce.isSome && valid && !s.dbg.deny && (decide (level = 1) || decide (level = 2)) then
    flag { s with dbg := { s.dbg with lock := level } } 0x40004 4
  else
    flag { s with dbg := { s.dbg with fails := s.dbg.fails + 1, blockUntil := s.flt.clock + 1000000000 } } 0x40004 0

def execDbgResponse (level : Nat) (valid : Bool) (s : State) : Res := .next (if powered s then response s level valid else s)

/-! ### Debug commands (R356 to R359) -/

/-- The command's result code and data, for the next scan. -/
def dbgResult (s : State) (code data : Nat) : State := { s with dbg := { s.dbg with code := code, data := data % 2 ^ 32 } }
def dbgOk (s : State) : State := dbgResult s 0 0
def badAddr (s : State) : State := flag (dbgResult s 2 0) 0x40004 1

/-- A step has not completed: its descriptor has not issued, or is in flight on the halted core. -/
def dbgBusy (s : State) : Bool :=
  (List.range 8).any (fun n => let k := core s n; k.stepCtx.isSome || (k.halted && !k.q.isEmpty))

/-- A debug command at its level: DENIED below it, BUSY while the previous one has not completed. -/
def dbgCmd (s : State) (level : Nat) (f : State → State) : State :=
  if !powered s then s
  else
    let s := setTap s 0x20
    if s.dbg.lock < level then dbgResult s 1 0
    else if dbgBusy s then dbgResult s 4 0
    else f s

def slRamBase : Nat := 0x4400000000
def inSlRam (a : Nat) : Bool := between slRamBase (slRamBase + 0xFFFFF) a
def inCtxStore (a : Nat) : Bool := between 0x4300000000 0x43007FFFFF a
def inBar0 (a : Nat) : Bool := between 0x4500000000 0x4501FFFFFF a
/-- DRAM, the Darkroom or a Tray (R117, R357). -/
def inMem (s : State) (a : Nat) : Bool :=
  devRangeOk s a 4 || (List.range 8).any (fun n => decide (trayBase n ≤ a) && decide (a + 4 ≤ trayBase n + traySize))

def rdMem (s : State) (a : Nat) : State :=
  if isPoison s a then flag (dbgResult s 3 (rdLe s a 4)) 0x40004 2 else dbgResult s 0 (rdLe s a 4)

/-- A value that the spec gives no content for. -/
def rdFree (s : State) : State := dbgResult (useFresh s) 0 (freshVal s)

def rd32 (s : State) (a : Nat) : State :=
  if a % 4 ≠ 0 then badAddr s
  else if inMem s a then rdMem s a
  else if inCtxStore a then rdFree s
  else if inSlRam a then (match tget none s.dbg.sram (a - slRamBase) with | some v => dbgResult s 0 v | none => rdFree s)
  else if inBar0 a then dbgResult (hostRead s (a - 0x4500000000)).1 0 (hostRead s (a - 0x4500000000)).2
  else badAddr s

def execRd32 (addr : Nat) (s : State) : Res := .next (dbgCmd s 1 (fun s => rd32 s addr))

/-- Four bytes with valid check bits. -/
def wrMem (s : State) (a v : Nat) : State :=
  let s := wrBytes s a (leBytes 4 v)
  { s with poison := tset false s.poison (poisonKey s a) false }

def wr32 (s : State) (a v : Nat) : State :=
  if a % 4 ≠ 0 then badAddr s
  else if inMem s a then dbgOk (wrMem s a v)
  else if inSlRam a && s.sl.halted then dbgOk { s with dbg := { s.dbg with sram := tset none s.dbg.sram (a - slRamBase) (some (v % 2 ^ 32)) } }
  else if inBar0 a then dbgOk (hostWrite s (a - 0x4500000000) (BitVec.ofNat 32 v))
  else badAddr s

def execWr32 (addr data : Nat) (s : State) : Res := .next (dbgCmd s 2 (fun s => wr32 s addr data))

/-! ### Safelight -/

def haltSl (s : State) : State := { s with sl := { s.sl with halted := true, haltReq := false, haltAt := s.flt.clock } }

/-- During a swap or a tier M the halt waits for its end (R359). -/
def slHalt (s : State) : State :=
  if s.sl.halted then s
  else if s.sl.swap.isSome || s.boot.tierM then { s with sl := { s.sl with haltReq := true } } else haltSl s

def execSlHalt (s : State) : Res := .next (dbgCmd s 2 (fun s => dbgOk (slHalt s)))

/-- The watchdog goes on from where it stopped; tier B and management commands that waited run (R346, R359). What running firmware
makes of its SRAM is not known. -/
def slResume (s : State) : State :=
  if s.sl.halted then
    resumeSl { s with sl := { s.sl with halted := false, lastKick := s.sl.lastKick + (s.flt.clock - s.sl.haltAt) },
                      dbg := { s.dbg with sram := [] } }
  else { s with sl := { s.sl with haltReq := false } }

def execSlResume (s : State) : Res := .next (dbgCmd s 2 (fun s => dbgOk (slResume s)))

/-- One instruction of the firmware, whose content is outside the spec; words of its SRAM are no longer known. -/
def slStep (s : State) : State := slHalt { s with dbg := { s.dbg with sram := [] } }

def execSlStep (s : State) : Res := .next (dbgCmd s 2 (fun s => dbgOk (slStep s)))

def execSlBp (n addr : Nat) (en : Bool) (s : State) : Res :=
  .next (dbgCmd s 2 (fun s =>
    dbgOk { s with sl := { s.sl with bps := tset none s.sl.bps (n % 8) (if en then some (addr % 2 ^ 32) else none) } }))

def execSlWp (n addr data : Nat) (s : State) : Res :=
  .next (dbgCmd s 2 (fun s =>
    dbgOk { s with sl := { s.sl with wps := tset none s.sl.wps (n % 4) (if data % 4 = 0 then none else some (addr % 2 ^ 32, bits data 31 2, data % 4)) } }))

/-- Safelight reaches a breakpoint that is set, or makes an access that a watchpoint matches. -/
def execSlBreakHit (isWp : Bool) (n : Nat) (s : State) : Res :=
  .next (if slAvail s && (if isWp then (tget none s.sl.wps n).isSome else (tget none s.sl.bps n).isSome) then slHalt s else s)

/-- A register of a halted Safelight. -/
def execSlReg (n : Nat) (s : State) : Res :=
  .next (dbgCmd s 1 (fun s => if s.sl.halted && decide (n < 64) then rdFree s else badAddr s))

/-! ### Cores (R358) -/

/-- A tier B of the core is under way. -/
def coreInB (s : State) (n : Nat) : Bool := s.boot.tierB.any (fun r => r.started && r.mask.testBit n)

def softHalt (s : State) (n : Nat) : State :=
  let k := core s n
  if k.halted then s
  else if k.q.isEmpty && !coreInB s n then setCore s n { k with halted := true, haltReq := false }
  else setCore s n { k with haltReq := true }

def execCoreHalt (core : Nat) (s : State) : Res := .next (dbgCmd s 2 (fun s => dbgOk (softHalt s (core % 8))))

/-- The last descriptor in flight has completed. -/
def execCoreHaltDrained (core : Nat) (s : State) : Res :=
  let k := Machine.core s core
  .next (if powered s && decide (core < 8) && k.haltReq && k.q.isEmpty && !coreInB s core then
      setCore s core { k with halted := true, haltReq := false }
    else s)

def hardHalt (s : State) (n : Nat) : State :=
  let s := (placedOn s (2 ^ n)).foldl (fun s c => faultCtx s c { cause := 0x0503, tier := 1 }) s
  if coreInB s n then setCore s n { core s n with haltReq := true }
  else setCore s n { core s n with halted := true, haltReq := false }

def execCoreHardHalt (core : Nat) (s : State) : Res := .next (dbgCmd s 2 (fun s => dbgOk (hardHalt s (core % 8))))

/-- The named context's next descriptor may issue on the halted core. -/
def coreStep (s : State) (n c : Nat) : State :=
  if (core s n).halted && decide ((ctx s c).st ≠ .free) && decide ((ctx s c).core = n) then
    dbgOk (setCore s n { core s n with stepCtx := some c, stepAt := dt s })
  else dbgResult s 5 0

def execCoreStep (core ctx : Nat) (s : State) : Res := .next (dbgCmd s 2 (fun s => coreStep s (core % 8) (ctx % 16384)))

/-- The stepped descriptor has not issued within 1 ms. -/
def execCoreStepTimeout (core : Nat) (s : State) : Res :=
  let k := Machine.core s core
  .next (if powered s && k.stepCtx.isSome && decide (k.stepAt + 1000000 ≤ dt s) then
      dbgResult (setCore s core { k with stepCtx := none }) 5 0
    else s)

def coreResume (s : State) (n : Nat) : State := setCore s n { core s n with halted := false, haltReq := false }

def execCoreResume (core : Nat) (s : State) : Res := .next (dbgCmd s 2 (fun s => dbgOk (coreResume s (core % 8))))

/-! ### Lock and fuses -/

def execLock (s : State) : Res := .next (dbgCmd s 0 (fun s => dbgOk { s with dbg := { s.dbg with lock := 0 } }))

def svnRaise (s : State) (v : Nat) : State :=
  if v ≤ s.fuse.svnMin ∨ s.sl.svn < v then badAddr s else dbgOk { s with fuse := { s.fuse with svnMin := v } }

def execSvnRaise (svn : Nat) (s : State) : Res := .next (dbgCmd s 2 (fun s => svnRaise s (svn % 256)))

/-! ### Board management link (R386) -/

/-- The register that a command code reads. -/
def smbReg (code : Nat) : Option Nat :=
  match code with
  | 1 => some 0x0
  | 2 => some 0x20
  | 3 => some 0x24
  | 4 => some 0x38
  | 5 => some 0x30018
  | 6 => some 0x10
  | _ => if between 0x10 0x1B code then some (0x80 + 4 * (code - 0x10)) else none

def smbRead (s : State) (code : Nat) : State :=
  match smbReg code with
  | none => { s with dbg := { s.dbg with smb := none } }
  | some off => { (hostRead s off).1 with dbg := { s.dbg with smb := some (hostRead s off).2 } }

/-- Served from the rise of PWROK; every clock but the sensors' is stopped by a thermal trip (R371). -/
def execSmbusBlockRead (code : Nat) (s : State) : Res :=
  .next (if s.pins.pwrok && !s.pins.thermtrip then smbRead s code else s)

end Sys2Proof.Machine
end

