-- ==== Sys2Proof/Machine/Objects.lean ====
section
/-! DEFINITION. Objects of a lane: registration, missed registrations, the match of TEXT fields, verdicts and their
report groups (R36, R37, R39, R40, R44 to R50, R73, R91, R92, R213, R236, R292 to R294, R399). -/

namespace Sys2Proof.Machine

/-! ### Report groups (R292 to R294) -/

def outcomeCode : FieldOutcome → Nat
  | .pass => 0 | .mismatch => 1 | .unreadable => 2 | .stale => 3 | .lowGrade => 4 | .deviate => 5 | .notRead => 6

def nibble (o : FieldOut) : Nat := outcomeCode o.out + 8 * b2n o.degraded

def outOf (o : Obj) (i : Nat) : FieldOut := (tget none o.fields i).getD {}

/-- Two nibbles to a byte, the even field low. -/
def packNibbles : List Nat → List Byte
  | [] => []
  | [a] => [BitVec.ofNat 8 a]
  | a :: b :: t => BitVec.ofNat 8 (a + 16 * b) :: packNibbles t

def kindCode : FieldKind → Nat
  | .text => 0 | .code => 1 | .patch => 2

/-- Whether field i gets a FIELD_DETAIL record (R292). -/
def detailed (o : Obj) (i : Nat) : Bool :=
  let x := (outOf o i).out
  decide (x ≠ .notRead) && (decide (x ≠ .pass) || (match o.img.fields[i]? with | some f => f.detail | none => false))

def detailBytes (o : Obj) (i : Nat) : List Byte :=
  let x := outOf o i
  leBytes 2 i ++ leBytes 1 (match fieldKind o i with | some k => kindCode k | none => 0) ++ leBytes 1 (nibble x) ++
  leBytes 2 x.reason ++ leBytes 2 x.a ++ leBytes 2 x.b ++ leBytes 2 x.c ++ leBytes 2 x.d ++ leBytes 2 x.e ++ padTo 80 x.text

def actionCode : Action → Nat
  | .mark => 1 | .reject => 2 | _ => 0

/-- A verdict as it is reported (R46, R293). -/
structure Verdict where
  code : Nat
  action : Action
  degraded : Bool := false
  mismatch : Bool := false
  late : Nat := 0xFF
  deriving DecidableEq, Repr

/-- Pixels of class c reach one of its thresholds (R40). -/
def triggered (o : Obj) (c : DefectClass) : Bool :=
  (decide (c.minPixels ≠ 0) && decide (c.minPixels ≤ o.pix.getD c.cls 0)) || (decide (c.minCell ≠ 0) && decide (c.minCell ≤ o.cell.getD c.cls 0))

def cmpPass (o : Obj) : Bool := match o.cmp with | some x => decide (x.out = .pass) | none => false

def trigClasses (o : Obj) : List DefectClass := if cmpPass o then o.img.classes.filter (triggered o) else []

def verdictBytes (o : Obj) (v : Verdict) (resolved : Nat) : List Byte :=
  let n := o.img.fields.length
  let cut := decide (32 < ((List.range n).filter (detailed o)).length)
  leBytes 8 o.origin ++ leBytes 8 resolved ++ leBytes 8 (o.origin + o.img.gateOfs * 65536) ++ leBytes 1 v.code ++
  leBytes 1 (actionCode v.action) ++ leBytes 1 (b2n v.degraded + 2 * b2n v.mismatch + 4 * b2n cut) ++ leBytes 1 v.late ++
  leBytes 1 o.job ++ leBytes 1 (ceilDiv (n - 104) 192) ++ leBytes 2 n ++
  leBytes 2 ((trigClasses o).foldl (fun m c => m ||| 2 ^ c.cls) 0) ++ leBytes 1 (b2n o.synthetic + 16 * (match o.cmp with | some x => nibble x | none => 6)) ++
  leBytes 1 0 ++ leBytes 2 (twos 16 o.tf.xofs) ++ leBytes 2 (twos 16 o.tf.rot) ++ leBytes 2 (twos 16 o.tf.scale) ++ leBytes 2 0 ++
  packNibbles (((List.range n).take 104).map (fun i => nibble (outOf o i)))

def extBytes (o : Obj) (k : Nat) : List Byte :=
  packNibbles ((((List.range o.img.fields.length).drop (104 + 192 * k)).take 192).map (fun i => nibble (outOf o i)))

/-- The verdict group of an object (R292). -/
def writeGroup (s : State) (n : Nat) (o : Obj) (v : Verdict) : State :=
  let m (t : Nat) (p : List Byte) : Rec := mkRec s t (some n) o.seq 0 p
  let exts := (List.range (ceilDiv (o.img.fields.length - 104) 192)).map (fun k => m 0x0102 (extBytes o k))
  let dets := (((List.range o.img.fields.length).filter (detailed o)).take 32).map (fun i => m 0x0103 (detailBytes o i))
  reportGroup s (m 0x0101 (verdictBytes o v (if o.late then o.lateAt else wt s)) :: (exts ++ dets))
    (some { code := v.code, action := v.action, lane := n })

/-! ### The verdict (R46 to R48) -/

def rankOfAction : Action → Nat
  | .none => 0 | .warn => 1 | .mark => 2 | .reject => 3

/-- The verdict's action of a rank: WARN is a report only. -/
def actionOfRank (r : Nat) : Action := if r = 3 then .reject else if r = 2 then .mark else .none

/-- The action a failed field contributes (R28, R222, R227). -/
def fieldAction (o : Obj) (i : Nat) : Action :=
  match o.img.fields[i]? with
  | none => .none
  | some f =>
    match f.kind with
    | .text => f.action
    | .code => (match o.img.codes[f.index]? with | some c => c.action | none => .none)
    | .patch => (match o.img.colours[f.index]? with | some c => c.action | none => .none)

/-- Inputs that have outcomes: the comparison, where the job has defect classes, and every field. -/
def inputsOf (o : Obj) : List FieldOut := o.cmp.toList ++ (List.range o.img.fields.length).map (outOf o)

def ruleRank (o : Obj) : Nat :=
  let fs := (List.range o.img.fields.length).map (fun i =>
    match (outOf o i).out with
    | .mismatch | .lowGrade | .deviate => rankOfAction (fieldAction o i)
    | _ => 0)
  (fs ++ (trigClasses o).map (fun c => rankOfAction c.action)).foldl max 0

def hasOut (o : Obj) (x : FieldOutcome) : Bool := (inputsOf o).any (fun y => decide (y.out = x))

/-- The verdict of an object whose inputs have their outcomes; its registration is an input too (R46, R47, R48). -/
def combine (o : Obj) : Verdict :=
  let deg := o.regDeg || (inputsOf o).any (·.degraded)
  let r := ruleRank o
  let fs := max r (rankOfAction (failAction o.img))
  let v (code rank : Nat) : Verdict := { code := code, action := actionOfRank rank, degraded := deg }
  if hasOut o .stale then v 5 fs
  else if hasOut o .unreadable then v 4 fs
  else if deg && !o.img.acceptFlagged then v 9 fs
  else v r r

/-! ### Posting (R49, R50, R73) -/

def dropObj (s : State) (n key : Nat) : State := setLane s n { lane s n with objs := (lane s n).objs.filter (fun o => decide (o.key ≠ key)) }

/-- A deadline reached by now wins (R50). -/
def deadlineFirst (s : State) (o : Obj) : State :=
  match o.entry with
  | some k => if !o.late && (ent s k).armed && decide ((ent s k).typ = 6) && decide ((ent s k).target ≤ wt s) then deadlineFire s k else s
  | none => s

/-- The entry takes the verdict's action, or frees (R49). -/
def entryAction (s : State) (n : Nat) (o : Obj) (a : Action) : State :=
  match o.entry with
  | none => s
  | some k => if a = .mark ∨ a = .reject then armPulse s k n o.img o.cfg a o.origin else releaseEntry s k

/-- Posting of a verdict: the entry's action first, the group, then what depends on INFLIGHT (R35, R50). -/
def post (s : State) (n : Nat) (o : Obj) (v : Verdict) : State :=
  let s := deadlineFirst s o
  match objOf s n o.key with
  | none => s
  | some o =>
    let s := if o.late then s else entryAction s n o v.action
    let w := if o.late then { v with code := 8, action := failAction o.img, late := v.code } else v
    checkStopped (writeGroup (dropObj s n o.key) n o w) n

/-- Where copy B formed something else, the action is the highest of both and the fail-safe action (R73). -/
def mergeCopies (o : Obj) (v : Verdict) (b : Option CopyB) : Verdict :=
  match b with
  | none => v
  | some x =>
    if x.code = v.code ∧ actionOfRank (rankOfAction x.action) = v.action ∧ x.degraded = v.degraded then v
    else { v with action := actionOfRank (max (rankOfAction v.action) (max (rankOfAction x.action) (rankOfAction (failAction o.img)))), mismatch := true }

/-- A disagreement enters the fault chain as a lane-level event (R73). -/
def mismatchEvent (s : State) (n : Nat) (v : Verdict) : State :=
  if v.mismatch then eventFault s { cause := 0x0602, tier := 0, lane := some n } [n] true else s

/-- Posting of what copy A formed, compared with copy B (R49, R73). -/
def postWith (s : State) (n : Nat) (o : Obj) (v : Verdict) (b : Option CopyB) : State :=
  let v := mergeCopies o v b
  mismatchEvent (post s n o v) n v

/-- Every input has its outcome. -/
def inputsDone (o : Obj) : Bool :=
  (List.range o.img.fields.length).all (fun i => (tget none o.fields i).isSome) && (o.cmp.isSome || o.img.classes.isEmpty)

/-- Work for the object is still in hand. -/
def workLeft (s : State) (n : Nat) (o : Obj) : Bool :=
  (s.code.queue ++ s.code.busy.toList).any (fun q => decide (q.lane = n) && decide (q.key = o.key)) ||
  s.fe.wins.any (fun w => decide (w.lane = some n) && decide (w.key = o.key)) ||
  s.ctxs.any (fun e => decide (e.2.st ≠ .free) && e.2.owes.any (fun w => decide (w.1 = n) && decide (w.2.1 = o.key)))

/-- A late object whose work ended without an outcome is reported so (R292). -/
def postNoOutcome (s : State) (n : Nat) (o : Obj) (b : Option CopyB) : State :=
  let v := mergeCopies o { code := 8, action := failAction o.img } b
  mismatchEvent (checkStopped (writeGroup (dropObj s n o.key) n o v) n) n v

def execVerdictPost (lane key : Nat) (copyB : Option CopyB) (s : State) : Res :=
  .next (match objOf s lane key with
    | none => s
    | some o =>
      if !isReady s then s
      else if inputsDone o then postWith s lane o (combine o) copyB
      else if o.late && !workLeft s lane o then postNoOutcome s lane o copyB
      else s)

/-! ### Patch windows (R91, R92) -/

/-- The window of a PATCH field. -/
def patchWin (s : State) (n : Nat) (o : Obj) (i : Nat) (f : FieldDef) : PatchWin :=
  placeWin s o.img.design o.tf o.origin o.cfg.pixStart f.excl f.rect { lane := some n, key := o.key, field := i, x0 := 0, x1 := 0, top := 0, bottom := 0 }

def openWin (n : Nat) (o : Obj) (s : State) (i : Nat) : State :=
  match o.img.fields[i]? with
  | none => s
  | some f =>
    if f.kind ≠ .patch then s
    else if 1024 ≤ s.fe.wins.length then giveField (bump s 0xC0060 1) n o.key i { out := .stale, reason := 11 }
    else setFe s { s.fe with wins := s.fe.wins ++ [patchWin s n o i f] }

def openWins (s : State) (n : Nat) (o : Obj) : State := (List.range o.img.fields.length).foldl (openWin n o) s

/-! ### Registration (R36, R38, R39, R54) -/

/-- Search around the prediction, or the whole pitch where the lane does not predict. -/
def inWindow (d : Design) (last : Option Nat) (origin : Nat) : Bool :=
  match last with
  | none => true
  | some o => decide (o + d.pitch ≤ origin + d.search * 65536) && decide (origin ≤ o + d.pitch + d.search * 65536)

/-- A lane that does not predict searches for origins before its stop line for one pitch past it (R52). -/
def searches (s : State) (d : Design) (last : Option Nat) (stop : Nat) : Bool := last.isSome || decide (wt s < stop + d.pitch)

/-- The configuration an origin belongs to, and whether it is the one before the last start line (R54). -/
def regCfg (s : State) (l : Lane) (origin : Nat) : Option (LaneCfg × Bool) :=
  if !isActive l.st then none
  else if (match l.startedAt with | some a => decide (origin < a) | none => false) then
    (match l.prev with
     | some (c, stop, last) =>
       let d := (laneImg s c).design
       if origin < stop ∧ (job s c.slot).st = .ready ∧ inWindow d last origin ∧ searches s d last stop then some (c, true) else none
     | none => none)
  else
    let d := (laneImg s l.act).design
    let ends := decide (l.st = .stopping) || l.stopPend
    if ends && (decide (l.stopLine ≤ origin) || l.winDone || !searches s d l.lastOrigin l.stopLine) then none
    else if inWindow d l.lastOrigin origin then some (l.act, false)
    else none

/-- The lane's prediction goes on from `o`, or ends (none); one shared across a continuous restart moves with it. -/
def setLast (l : Lane) (old : Bool) (o : Option Nat) : Lane :=
  if old then
    match l.prev with
    | some (c, stop, last) =>
      { l with prev := some (c, stop, o), lastOrigin := if l.lastOrigin.isSome ∧ l.lastOrigin = last then o else l.lastOrigin }
    | none => l
  else { l with lastOrigin := o, winDone := false }

def newObj (s : State) (l : Lane) (c : LaneCfg) (origin : Nat) (tf : Transform) (deg synth : Bool) (k : Option Nat) : Obj :=
  let i := laneImg s c
  { key := l.nextKey, seq := l.nextSeq, origin := origin, endLine := origin + lenLines i * 65536, cfg := c, job := c.slot, img := i,
    entry := k, regDeg := deg, synthetic := synth, tf := tf }

/-- An object without an entry: the span entry covers its lines, and it is OVERRUN (R39). -/
def overrun (s : State) (n : Nat) (o : Obj) (b : Option CopyB) : State :=
  let s := addSpan s n { start := o.origin, stop := some o.endLine, gate := o.img.gateOfs, out := failOut o.img o.cfg }
  let v := mergeCopies o { code := 7, action := failAction o.img, degraded := o.regDeg } b
  mismatchEvent (writeGroup s n { o with synthetic := true } v) n v

/-- The object takes the next number and an entry (R36, R39). -/
def makeObj (s : State) (n : Nat) (c : LaneCfg) (origin : Nat) (tf : Transform) (deg synth : Bool) (b : Option CopyB) : State :=
  let l := lane s n
  let k := idleSlot s n
  let o := newObj s l c origin tf deg synth k
  let s := setLane s n { l with nextSeq := (o.seq + 1) % 2 ^ 32, nextKey := l.nextKey + 1 }
  match k with
  | none => overrun s n o b
  | some k =>
    let s := setLane s n { lane s n with objs := (lane s n).objs ++ [o] }
    let s := armHw s k (.lane n) false 6 n 0 0 (o.seq % 2 ^ 32) (deadlineOf o)
    if synth then postWith s n o { code := 6, action := failAction o.img } b else queueObj n (openWins s n o) o

/-- A successful registration of the active copy ends ACQUIRING (R35, R37, R38). -/
def acquired (s : State) (n origin : Nat) : State :=
  let s := closeGap s n origin
  if (lane s n).st = .acquiring then putLaneState s n .running 0 else s

/-- `deg` says that the detector ran degraded (R199); adaptations that are OPEN capture the object (R236). -/
def objectRegister (s : State) (n origin : Nat) (tf : Transform) (c : LaneCfg) (old deg : Bool) (b : Option CopyB) : State :=
  let s := setLane s n { setLast (lane s n) old (some origin) with missRun := 0 }
  let s := if !old && decide ((lane s n).st = .acquiring) then acquired s n origin else s
  let o := newObj s (lane s n) c origin tf deg false none
  checkStopped (captureObj (makeObj s n c origin tf deg false b) n o) n

/-- The line of an origin lies in a stale stripe of the lane's pixels: registration finds nothing there (R163). -/
def originStale (s : State) (c : LaneCfg) (origin : Nat) : Bool :=
  staleRows s { x0 := c.pixStart, x1 := c.pixEnd + 1, y0 := origin, y1 := origin + 1 }

/-- `det` is the context that found the origin; none where it ran without DEG (R199). -/
def execObjectRegister (lane origin : Nat) (tf : Transform) (det : Option Nat) (copyB : Option CopyB) (s : State) : Res :=
  .next (if isReady s && decide (lane < 32) && decide (origin ≤ wt s) then
      (match regCfg s (Machine.lane s lane) origin with
       | some (c, old) =>
         if originStale s c origin then s
         else objectRegister s lane origin tf c old (match det with | some k => (ctx s k).deg | none => false) copyB
       | none => s)
    else s)

/-! ### Missed registrations (R37) -/

/-- The predicted origin whose window has closed, with its configuration. -/
def missed (s : State) (l : Lane) : Option (Nat × LaneCfg × Bool) :=
  let closed (d : Design) (o : Nat) : Bool := decide (o + d.pitch + d.search * 65536 ≤ wt s)
  let now : Option (Nat × LaneCfg × Bool) :=
    match l.lastOrigin with
    | some o =>
      let d := (laneImg s l.act).design
      if closed d o ∧ !l.winDone then some (o + d.pitch, l.act, false) else none
    | none => none
  if !isActive l.st then none
  else
    match l.prev with
    | some (c, stop, some o) =>
      let d := (laneImg s c).design
      if o + d.pitch < stop ∧ closed d o ∧ (job s c.slot).st = .ready then some (o + d.pitch, c, true) else now
    | _ => now

/-- The predicted origin lies at or after the lane's stop line: nothing is registered for it (R52). -/
def pastStop (l : Lane) (pred : Nat) (old : Bool) : Bool :=
  !old && (decide (l.st = .stopping) || l.stopPend) && decide (l.stopLine ≤ pred)

/-- The miss limit is reached: the lane stops predicting and searches the whole pitch (R37, R38). -/
def lostRegister (s : State) (n pred : Nat) (c : LaneCfg) (old : Bool) : State :=
  let s := report s 0x0202 (some n) 0 0 (leBytes 8 pred ++ leBytes 1 (lane s n).missRun)
  let s := setLane s n (setLast (lane s n) old none)
  if (lane s n).st = .running ∧ (lane s n).lastOrigin = none then
    openGap (putLaneState s n .acquiring 0) n (pred + lenLines (laneImg s c) * 65536) 0
  else s

def windowClose (s : State) (n pred : Nat) (c : LaneCfg) (old : Bool) (b : Option CopyB) : State :=
  let l := lane s n
  if pastStop l pred old then checkStopped (setLane s n { l with winDone := true }) n
  else
    let s := setLane s n { setLast l old (some pred) with missRun := min 255 (l.missRun + 1) }
    let s := makeObj s n c pred {} false true b
    let s := if (laneImg s c).design.missLimit ≤ (lane s n).missRun then lostRegister s n pred c old else s
    checkStopped s n

def execSearchWindowClose (lane : Nat) (copyB : Option CopyB) (s : State) : Res :=
  .next (if isReady s && decide (lane < 32) then
      (match missed s (Machine.lane s lane) with
       | some (p, c, old) => windowClose s lane p c old copyB
       | none => s)
    else s)

/-! ### TEXT fields (R44, R45, R213) -/

/-- At most 80 bytes, in whole characters. -/
def first80 (bs : List Byte) : List Byte :=
  let p := bs.take 80
  if bs.length ≤ 80 then p else p.take (80 - heldChar p)

def lowestConf (d : Detok) : Nat := ((d.confs.take (ntok d))).foldl min 65535

def editField (r : Rule) (txt want : List Byte) : Nat :=
  match r with
  | .editK _ => min 65535 (editDistance (scalars txt) (scalars want))
  | _ => 0xFFFF

/-- The outcome of a text and its reason (R44, R399). -/
def textOut (s : State) (o : Obj) (f : FieldDef) (d : Detok) (deg : Bool) : FieldOut :=
  let txt := rdBytes s (d.cap.text + 16) d.len
  let r : MatchRule := (o.img.rules[f.index]?).getD ⟨.exact, .lit []⟩
  let want := expectText o r.expected
  let x : FieldOut := { degraded := deg, a := lowestConf d, b := d.len, c := min 65535 d.repl, d := editField r.rule txt want, text := first80 txt }
  if (poisonIn s (d.cap.text + 16) d.len).isSome then { x with out := .stale, d := 0xFFFF }
  else if d.repl ≠ 0 then { x with out := .unreadable, reason := 2 }
  else if lowestConf d < f.confMin then { x with out := .unreadable, reason := 1 }
  else if d.trunc then { x with out := .mismatch, reason := 10 }
  else if ruleMatch r.rule txt want then { x with out := .pass }
  else { x with out := .mismatch }

def fieldMatch (s : State) (n : Nat) (o : Obj) (i c : Nat) (d : Detok) : State :=
  match o.img.fields[i]? with
  | none => s
  | some f =>
    if f.kind ≠ .text then s
    else
      let x := textOut s o f d (ctx s c).deg
      let s := setCtx s c { ctx s c with owes := (ctx s c).owes.filter (fun w => decide (w ≠ (n, o.key, some i))) }
      giveField s n o.key i x

def execFieldMatch (lane key field ctx : Nat) (s : State) : Res :=
  .next (match objOf s lane key, detok s ctx with
    | some o, some d =>
      if isReady s && d.done && (Machine.ctx s ctx).owes.contains (lane, key, some field) then fieldMatch s lane o field ctx d else s
    | _, _ => s)

end Sys2Proof.Machine
end

