-- ==== Sys2Proof/Machine/Parity.lean ====
section
/-! DEFINITION. Control-state parity and the loss of a shared structure (R321, R325). -/

namespace Sys2Proof.Machine

/-- A core's control state: tier B of that core, counted for the device (R324, R325). -/
def coreParity (s : State) (n : Nat) : State :=
  let e := countEvent s [] true
  askTierB e.1 { mask := 2 ^ n, dev := e.2.2, cause := 0x0504 }

/-- The event of a unit that loses its request (R324). -/
def unitParity (s : State) (c : Option Nat) : State := eventFault s { cause := 0x0505, tier := 0, ctx := c } [] true

/-- The Caption unit: the detokenising context faults as for poisoned data. -/
def captionParity (s : State) (c : Nat) : State :=
  let s := unitParity s (if (detok s c).isSome then some c else none)
  if (detok s c).isSome then faultCtx s c { cause := 0x0202, tier := 1 } else s

/-- The code unit: the request's field is not read. -/
def codeParity (s : State) : State :=
  let s := unitParity s none
  match s.code.busy with
  | none => s
  | some q =>
    giveField (flag { s with code := { s.code with busy := none } } 0xA0004 0) q.lane q.key q.field { out := .unreadable, reason := 6 }

/-- The Developer unit: the picture in decode on a pipe is abandoned (R107); the reason of its report is not stated. -/
def devParity (s : State) (p : Nat) : State :=
  let s := unitParity s none
  match onPipe s p with
  | none => s
  | some (k, u) => abandonPic (useFresh s) k u (freshVal s % 256)

/-- Blocks: 0 core n, 1 Caption unit serving context n, 2 code unit, 3 pipe n of the Developer unit, 4 a shared block,
5 memory controller n, 6 the Context store, 7 the front end's word of device pixel n in line memory or shading store. -/
def parity (s : State) (block n : Nat) : State :=
  match block with
  | 0 => if n < 8 then coreParity s n else s
  | 1 => captionParity s n
  | 2 => codeParity s
  | 3 => devParity s n
  | 4 => deviceOos s { cause := 0x0705, tier := 6 }
  | 5 => if n < 6 then deviceOos (flag s (0x180004 + n * 0x10000) 8) { cause := 0x0703, tier := 6 } else s
  | 6 => deviceOos s { cause := 0x0702, tier := 6 }
  | 7 => if s.fe.badWords.contains n then s else setFe s { s.fe with badWords := s.fe.badWords ++ [n] }
  | _ => s

def execControlStateParity (block n : Nat) (s : State) : Res := .next (if powered s then parity s block n else s)

end Sys2Proof.Machine
end

