-- ==== Sys2Proof/Machine/Dispatch.lean ====
section
/-! DEFINITION. The dispatch: one arm for each command. -/

namespace Sys2Proof.Machine

/-- The effect of a command on everything but the queue (95_what_each_step_holds). -/
def exec (i : Instr) (s : State) : Host.Outcome State Fault Refusal :=
  match i with
  | .devInfo c => Sys2Proof.Machine.execDevInfo c s
  | .fwStage c src len bank sigOk => Sys2Proof.Machine.execFwStage c src len bank sigOk s
  | .fwActivate c bank => Sys2Proof.Machine.execFwActivate c bank s
  | .fwSwapTimeout => Sys2Proof.Machine.execFwSwapTimeout s
  | .bootBank c bank => Sys2Proof.Machine.execBootBank c bank s
  | .boardCfg c src len cfg => Sys2Proof.Machine.execBoardCfg c src len cfg s
  | .devRecover c tier cores => Sys2Proof.Machine.execDevRecover c tier cores s
  | .tierBComplete => Sys2Proof.Machine.execTierBComplete s
  | .tierCComplete r => Sys2Proof.Machine.execTierCComplete r s
  | .laneRestore c lane => Sys2Proof.Machine.execLaneRestore c lane s
  | .escCfg c laneN laneS devN devS => Sys2Proof.Machine.execEscCfg c laneN laneS devN devS s
  | .colourCal c origin chart out pixStart pixEnd content => Sys2Proof.Machine.execColourCal c origin chart out pixStart pixEnd content s
  | .colourCalFit => Sys2Proof.Machine.execColourCalFit s
  | .jobLoad c src len slot img => Sys2Proof.Machine.execJobLoad c src len slot img s
  | .jobLoadComplete slot => Sys2Proof.Machine.execJobLoadComplete slot s
  | .jobUnload c slot => Sys2Proof.Machine.execJobUnload c slot s
  | .laneStart c start lane => Sys2Proof.Machine.execLaneStart c start lane s
  | .laneStop c stop lane => Sys2Proof.Machine.execLaneStop c stop lane s
  | .laneSetVar c src lane var len => Sys2Proof.Machine.execLaneSetVar c src lane var len s
  | .vocabLoad c src len vslot => Sys2Proof.Machine.execVocabLoad c src len vslot s
  | .vocabUnload c vslot => Sys2Proof.Machine.execVocabUnload c vslot s
  | .capTokenize c src dst len cap stream tflags vslot split => Sys2Proof.Machine.execCapTokenize c src dst len cap stream tflags vslot split s
  | .streamOpen c qaddr ageMax maxW maxH mark codec depth low cls => Sys2Proof.Machine.execStreamOpen c qaddr ageMax maxW maxH mark codec depth low cls s
  | .streamFeed c src capDt wtDl len fid slot au => Sys2Proof.Machine.execStreamFeed c src capDt wtDl len fid slot au s
  | .streamClose c slot => Sys2Proof.Machine.execStreamClose c slot s
  | .streamFlushDone slot bytes => Sys2Proof.Machine.execStreamFlushDone slot bytes s
  | .trigArm c start period ports => Sys2Proof.Machine.execTrigArm c start period ports s
  | .trigStop c ports => Sys2Proof.Machine.execTrigStop c ports s
  | .feRefCapture c lines ports kind => Sys2Proof.Machine.execFeRefCapture c lines ports kind s
  | .feRefApply c ports => Sys2Proof.Machine.execFeRefApply c ports s
  | .pbStart c => Sys2Proof.Machine.execPbStart c s
  | .pbPause c => Sys2Proof.Machine.execPbPause c s
  | .pbResume c => Sys2Proof.Machine.execPbResume c s
  | .pbLineStep => Sys2Proof.Machine.execPbLineStep s
  | .pbRunEnd => Sys2Proof.Machine.execPbRunEnd s
  | .ctxOpen c desc ctx => Sys2Proof.Machine.execCtxOpen c desc ctx s
  | .ctxLaunch c cnt0 cnt1 cnt2 cnt3 ctx => Sys2Proof.Machine.execCtxLaunch c cnt0 cnt1 cnt2 cnt3 ctx s
  | .ctxStop c ctx => Sys2Proof.Machine.execCtxStop c ctx s
  | .ctxResume c ctx => Sys2Proof.Machine.execCtxResume c ctx s
  | .ctxClose c ctx => Sys2Proof.Machine.execCtxClose c ctx s
  | .ctxAbort c ctx => Sys2Proof.Machine.execCtxAbort c ctx s
  | .seqOpen c param ctx seq => Sys2Proof.Machine.execSeqOpen c param ctx seq s
  | .seqClose c ctx seq => Sys2Proof.Machine.execSeqClose c ctx seq s
  | .ptEdit c n ctx seq srcCtx srcSeq op => Sys2Proof.Machine.execPtEdit c n ctx seq srcCtx srcSeq op s
  | .ringGroupOpen c param => Sys2Proof.Machine.execRingGroupOpen c param s
  | .ringGroupClose c group => Sys2Proof.Machine.execRingGroupClose c group s
  | .markSignal c add mark => Sys2Proof.Machine.execMarkSignal c add mark s
  | .sqCreate c base sq log2 cq prio => Sys2Proof.Machine.execSqCreate c base sq log2 cq prio s
  | .sqDelete c sq => Sys2Proof.Machine.execSqDelete c sq s
  | .cqCreate c base vec cq log2 => Sys2Proof.Machine.execCqCreate c base vec cq log2 s
  | .cqDelete c cq => Sys2Proof.Machine.execCqDelete c cq s
  | .rqCreate c base lanes cats vec wm hold rq log2 => Sys2Proof.Machine.execRqCreate c base lanes cats vec wm hold rq log2 s
  | .rqDelete c rq => Sys2Proof.Machine.execRqDelete c rq s
  | .dmaCopy c src dst len ecc => Sys2Proof.Machine.execDmaCopy c src dst len ecc s
  | .memFill c dst pattern len => Sys2Proof.Machine.execMemFill c dst pattern len s
  | .adaptOpen c param => Sys2Proof.Machine.execAdaptOpen c param s
  | .adaptConfirm c first last ad lane => Sys2Proof.Machine.execAdaptConfirm c first last ad lane s
  | .adaptSample c src lbl map len w h lblLen ad kind => Sys2Proof.Machine.execAdaptSample c src lbl map len w h lblLen ad kind s
  | .adaptRun c ad => Sys2Proof.Machine.execAdaptRun c ad s
  | .adaptPause c ad => Sys2Proof.Machine.execAdaptPause c ad s
  | .adaptEval c ad => Sys2Proof.Machine.execAdaptEval c ad s
  | .adaptEvalComplete ad res => Sys2Proof.Machine.execAdaptEvalComplete ad res s
  | .adaptCommit c ad slot => Sys2Proof.Machine.execAdaptCommit c ad slot s
  | .adaptClose c ad => Sys2Proof.Machine.execAdaptClose c ad s
  | .sampleResolve ad slot res => Sys2Proof.Machine.execSampleResolve ad slot res s
  | .batchClose ad => Sys2Proof.Machine.execBatchClose ad s
  | .fltRead c dst idx => Sys2Proof.Machine.execFltRead c dst idx s
  | .nop c => Sys2Proof.Machine.execNop c s
  | .sqTailDoorbell sq idx => Sys2Proof.Machine.execSqTailDoorbell sq idx s
  | .cqHeadDoorbell cq idx => Sys2Proof.Machine.execCqHeadDoorbell cq idx s
  | .rqHeadDoorbell rq idx => Sys2Proof.Machine.execRqHeadDoorbell rq idx s
  | .rqHoldTimer rq => Sys2Proof.Machine.execRqHoldTimer rq s
  | .gemm ctx => Sys2Proof.Machine.execGemm ctx s
  | .convTap ctx => Sys2Proof.Machine.execConvTap ctx s
  | .pool ctx => Sys2Proof.Machine.execPool ctx s
  | .vec ctx => Sys2Proof.Machine.execVec ctx s
  | .attn ctx => Sys2Proof.Machine.execAttn ctx s
  | .ringBarrierComplete group => Sys2Proof.Machine.execRingBarrierComplete group s
  | .dma ctx fetch tile => Sys2Proof.Machine.execDma ctx fetch tile s
  | .waitMark ctx => Sys2Proof.Machine.execWaitMark ctx s
  | .signalMark ctx => Sys2Proof.Machine.execSignalMark ctx s
  | .branchOnCount ctx => Sys2Proof.Machine.execBranchOnCount ctx s
  | .descComplete core unit clocks map ecc => Sys2Proof.Machine.execDescComplete core unit clocks map ecc s
  | .detokeniseToken ctx => Sys2Proof.Machine.execDetokeniseToken ctx s
  | .fieldMatch lane key field ctx => Sys2Proof.Machine.execFieldMatch lane key field ctx s
  | .encoderForwardCount => Sys2Proof.Machine.execEncoderForwardCount s
  | .encoderReverseCount => Sys2Proof.Machine.execEncoderReverseCount s
  | .encZEdge => Sys2Proof.Machine.execEncZEdge s
  | .encIllegalTransition => Sys2Proof.Machine.execEncIllegalTransition s
  | .shutterArm entry w2 => Sys2Proof.Machine.execShutterArm entry w2 s
  | .markerPulseFire entry => Sys2Proof.Machine.execMarkerPulseFire entry s
  | .markerAssert entry => Sys2Proof.Machine.execMarkerAssert entry s
  | .markerDeassert entry => Sys2Proof.Machine.execMarkerDeassert entry s
  | .markerReadback output pad => Sys2Proof.Machine.execMarkerReadback output pad s
  | .stepFire entry => Sys2Proof.Machine.execStepFire entry s
  | .lineTrigFire entry => Sys2Proof.Machine.execLineTrigFire entry s
  | .ctxLaunchFire entry => Sys2Proof.Machine.execCtxLaunchFire entry s
  | .laneStartLine lane => Sys2Proof.Machine.execLaneStartLine lane s
  | .laneStopLine lane => Sys2Proof.Machine.execLaneStopLine lane s
  | .deadlineFire entry => Sys2Proof.Machine.execDeadlineFire entry s
  | .spanFire lane => Sys2Proof.Machine.execSpanFire lane s
  | .objectRegister lane origin tf det copyB => Sys2Proof.Machine.execObjectRegister lane origin tf det copyB s
  | .searchWindowClose lane copyB => Sys2Proof.Machine.execSearchWindowClose lane copyB s
  | .verdictPost lane key copyB => Sys2Proof.Machine.execVerdictPost lane key copyB s
  | .dupMismatch outs => Sys2Proof.Machine.execDupMismatch outs s
  | .stripLineReceive port samples => Sys2Proof.Machine.execStripLineReceive port samples s
  | .rasterRowWrite ovf fills => Sys2Proof.Machine.execRasterRowWrite ovf fills s
  | .stripeRowWrite buf => Sys2Proof.Machine.execStripeRowWrite buf s
  | .stripeRelease buf pos => Sys2Proof.Machine.execStripeRelease buf pos s
  | .whiteTrackUpdate => Sys2Proof.Machine.execWhiteTrackUpdate s
  | .stripCrcError port lines => Sys2Proof.Machine.execStripCrcError port lines s
  | .stripLinkDown port link => Sys2Proof.Machine.execStripLinkDown port link s
  | .stripLinkRelock port link => Sys2Proof.Machine.execStripLinkRelock port link s
  | .sysrefEdge phase => Sys2Proof.Machine.execSysrefEdge phase s
  | .decodePictureDone pipe pic bytes => Sys2Proof.Machine.execDecodePictureDone pipe pic bytes s
  | .auxLate pipe bytes => Sys2Proof.Machine.execAuxLate pipe bytes s
  | .frameDequeue slot => Sys2Proof.Machine.execFrameDequeue slot s
  | .refRepair job tile rd => Sys2Proof.Machine.execRefRepair job tile rd s
  | .codeRequestStart => Sys2Proof.Machine.execCodeRequestStart s
  | .codeRequestDone r => Sys2Proof.Machine.execCodeRequestDone r s
  | .refreshSlot chan => Sys2Proof.Machine.execRefreshSlot chan s
  | .dramHotChange hot => Sys2Proof.Machine.execDramHotChange hot s
  | .caParityAlert chan failed => Sys2Proof.Machine.execCaParityAlert chan failed s
  | .wrCrcAlert chan failed => Sys2Proof.Machine.execWrCrcAlert chan failed s
  | .patrolScrub chan errs => Sys2Proof.Machine.execPatrolScrub chan errs s
  | .neighbourRefresh chan rank bank row => Sys2Proof.Machine.execNeighbourRefresh chan rank bank row s
  | .ringLinkDown links retries => Sys2Proof.Machine.execRingLinkDown links retries s
  | .halyardScan => Sys2Proof.Machine.execHalyardScan s
  | .watchdogExpiry ctx => Sys2Proof.Machine.execWatchdogExpiry ctx s
  | .contextFault ctx info => Sys2Proof.Machine.execContextFault ctx info s
  | .contextResetComplete ctx => Sys2Proof.Machine.execContextResetComplete ctx s
  | .safelightWdog => Sys2Proof.Machine.execSafelightWdog s
  | .safelightLockstep => Sys2Proof.Machine.execSafelightLockstep s
  | .tierMComplete => Sys2Proof.Machine.execTierMComplete s
  | .hoistPeriodBoundary => Sys2Proof.Machine.execHoistPeriodBoundary s
  | .thermalCapUpdate => Sys2Proof.Machine.execThermalCapUpdate s
  | .tempSensorSample sensor code => Sys2Proof.Machine.execTempSensorSample sensor code s
  | .thermtrip => Sys2Proof.Machine.execThermtrip s
  | .dvfsStopEnd core => Sys2Proof.Machine.execDvfsStopEnd core s
  | .avsTimeout => Sys2Proof.Machine.execAvsTimeout s
  | .pwrokRise => Sys2Proof.Machine.execPwrokRise s
  | .pwrokFall => Sys2Proof.Machine.execPwrokFall s
  | .perstAssert => Sys2Proof.Machine.execPerstAssert s
  | .perstRelease => Sys2Proof.Machine.execPerstRelease s
  | .deviceReady r => Sys2Proof.Machine.execDeviceReady r s
  | .smbusBlockRead code => Sys2Proof.Machine.execSmbusBlockRead code s
  | .extest => Sys2Proof.Machine.execExtest s
  | .idcode => Sys2Proof.Machine.execIdcode s
  | .samplePreload => Sys2Proof.Machine.execSamplePreload s
  | .clamp => Sys2Proof.Machine.execClamp s
  | .highz => Sys2Proof.Machine.execHighz s
  | .bypass => Sys2Proof.Machine.execBypass s
  | .dbgChallenge => Sys2Proof.Machine.execDbgChallenge s
  | .dbgResponse level valid => Sys2Proof.Machine.execDbgResponse level valid s
  | .rd32 addr => Sys2Proof.Machine.execRd32 addr s
  | .wr32 addr data => Sys2Proof.Machine.execWr32 addr data s
  | .slHalt => Sys2Proof.Machine.execSlHalt s
  | .slResume => Sys2Proof.Machine.execSlResume s
  | .slStep => Sys2Proof.Machine.execSlStep s
  | .slBp n addr en => Sys2Proof.Machine.execSlBp n addr en s
  | .slWp n addr data => Sys2Proof.Machine.execSlWp n addr data s
  | .slBreakHit isWp n => Sys2Proof.Machine.execSlBreakHit isWp n s
  | .slReg n => Sys2Proof.Machine.execSlReg n s
  | .coreHalt core => Sys2Proof.Machine.execCoreHalt core s
  | .coreHaltDrained core => Sys2Proof.Machine.execCoreHaltDrained core s
  | .coreHardHalt core => Sys2Proof.Machine.execCoreHardHalt core s
  | .coreStep core ctx => Sys2Proof.Machine.execCoreStep core ctx s
  | .coreStepTimeout core => Sys2Proof.Machine.execCoreStepTimeout core s
  | .coreResume core => Sys2Proof.Machine.execCoreResume core s
  | .lock => Sys2Proof.Machine.execLock s
  | .svnRaise svn => Sys2Proof.Machine.execSvnRaise svn s
  | .tmuWtSetHiWrite v => Sys2Proof.Machine.execTmuWtSetHiWrite v s
  | .tmuDivWrite v => Sys2Proof.Machine.execTmuDivWrite v s
  | .tmuShPartWrite v => Sys2Proof.Machine.execTmuShPartWrite v s
  | .pcieAptBaseWrite v => Sys2Proof.Machine.execPcieAptBaseWrite v s
  | .spnCfgEnable port v => Sys2Proof.Machine.execSpnCfgEnable port v s
  | .drkSbEnable buf v => Sys2Proof.Machine.execDrkSbEnable buf v s
  | .kvmPoolEnable pool v => Sys2Proof.Machine.execKvmPoolEnable pool v s
  | .hstCommit => Sys2Proof.Machine.execHstCommit s
  | .forceCoarseWrite on => Sys2Proof.Machine.execForceCoarseWrite on s
  | .ennDvfsWrite core v => Sys2Proof.Machine.execEnnDvfsWrite core v s
  | .mgtAvsWrite on => Sys2Proof.Machine.execMgtAvsWrite on s
  | .markWindowHiWrite mark v => Sys2Proof.Machine.execMarkWindowHiWrite mark v s
  | .fltMkHoldClear v => Sys2Proof.Machine.execFltMkHoldClear v s
  | .dbgCtrlLock => Sys2Proof.Machine.execDbgCtrlLock s
  | .dbgCtrlDeny => Sys2Proof.Machine.execDbgCtrlDeny s
  | .regReadLoLatch off len => Sys2Proof.Machine.execRegReadLoLatch off len s
  | .registerWrite off v => Sys2Proof.Machine.execRegisterWrite off v s
  | .unsupportedAccess bar off write len => Sys2Proof.Machine.execUnsupportedAccess bar off write len s
  | .bar2Access off data ecc => Sys2Proof.Machine.execBar2Access off data ecc s
  | .bar4Access off data ecc => Sys2Proof.Machine.execBar4Access off data ecc s
  | .controlStateParity block n => Sys2Proof.Machine.execControlStateParity block n s
  | .firmwareHeartbeat => Sys2Proof.Machine.execFirmwareHeartbeat s
  | .fwSwapComplete ok => Sys2Proof.Machine.execFwSwapComplete ok s
  | .pmbusTransfer ack mv iout => Sys2Proof.Machine.execPmbusTransfer ack mv iout s
  | .lineStartTimeout port => Sys2Proof.Machine.execLineStartTimeout port s
  | .devDecodeErr pipe err bytes => Sys2Proof.Machine.execDevDecodeErr pipe err bytes s

end Sys2Proof.Machine
end

