-- ==== Sys2Proof/Machine/Tick.lean ====
section
/-! DEFINITION. One nanosecond in which nothing is commanded: device time, the watchdogs, the cores' clocks
(R55, R71, R82, R126, R328, R334; notes/assumptions/1.md). -/

namespace Sys2Proof.Machine

/-- The context's watchdog counts: it is READY, RUNNING or WAITING, not HELD, its core runs, and what it waits for is no
externally fed mark (R328). -/
def wdCounts (s : State) (x : Ctx) : Bool :=
  let k := core s x.core
  (decide (x.st = .ready) || decide (x.st = .running) || decide (x.st = .waiting)) && !x.held && !k.halted && !k.stop &&
    (match x.wait with | some (.mark m _) => !tget false s.marks.extFed m | _ => true)

def tickCtx (s : State) (x : Ctx) : Ctx := if wdCounts s x then { x with wd := x.wd + 1 } else x

/-- A core's clock runs unless it is stopped for a change of frequency. -/
def tickCore (k : Core) : Core := if k.stop then k else { k with cyc := k.cyc + k.eff }

/-- An output as its receiver sees it: a commanded edge since the last tick is timed, and a mismatch with the pad begins, goes on
or ends (R71, R401). -/
def tickOut (s : State) (t : Tmu) (n : Nat) : Tmu :=
  let now := cmdLevel s n
  let moved := decide (now ≠ bit s.tmu.lvl n)
  let m : Option (Nat × Bool) :=
    if outsHiZ s || decide (bit s.pins.pads n = now) then none
    else if moved then some (dt s, false)
    else some ((tget none s.tmu.mis n).getD (dt s, false))
  { t with edge := if moved then tset 0 t.edge n (dt s) else t.edge, mis := tset none t.mis n m }

/-- The counts of the timing unit after the tick. -/
def tickTmu (s : State) : Tmu :=
  { (List.range 16).foldl (tickOut s) s.tmu with lvl := levelWord s, dt := s.tmu.dt + 1 }

/-- LSYNC pulses whose width has passed end (R82). -/
def tickPins (s : State) : Pins :=
  { s.pins with lsync := (bitList s.pins.lsync 8).foldl (fun m p => if dt s + 1 < tget 0 s.tmu.lsyncTo p then m + 2 ^ p else m) 0 }

def tick (s : State) : State :=
  if powered s then
    bedRetry (accrue
    { s with tmu := tickTmu s
             pins := tickPins s
             flt := { s.flt with clock := s.flt.clock + 1 }
             ctxs := (noteAble s).ctxs.map (fun e => (e.1, tickCtx s e.2))
             cores := (List.range 8).foldl (fun t n => tset {} t n (tickCore (core s n))) s.cores })
  else s

end Sys2Proof.Machine
end

