-- ==== Sys2Proof/WellFormed.lean ====
section
/-! DEFINITION. Well-formed commands: every operand fits the field that carries it (R276, R286), every number names
one of the things the device has. -/

namespace Sys2Proof

/-- `v` fits `n` bits. -/
def fits (n v : Nat) : Bool := decide (v < 2 ^ n)

/-- The header of a packet (R276). A reserved byte lies at 0x01 to 0x3F. -/
def Cmd.wf (c : Cmd) : Bool :=
  fits 8 c.sq && fits 16 c.doneMark && fits 32 c.doneAdd && (match c.rsv with | none => true | some k => decide (0 < k) && fits 6 k)

/-- A command whose operands fit. -/
def Instr.wf (i : Instr) : Bool :=
  match i with
  | .devInfo c => c.wf
  | .fwStage c src len bank _ => c.wf && fits 64 src && fits 32 len && fits 8 bank
  | .fwActivate c bank => c.wf && fits 8 bank
  | .fwSwapTimeout => true
  | .bootBank c bank => c.wf && fits 8 bank
  | .boardCfg c src len _ => c.wf && fits 64 src && fits 32 len
  | .devRecover c tier cores => c.wf && fits 8 tier && fits 8 cores
  | .tierBComplete => true
  | .tierCComplete _ => true
  | .laneRestore c lane => c.wf && fits 8 lane
  | .escCfg c laneN laneS devN devS => c.wf && fits 16 laneN && fits 16 laneS && fits 16 devN && fits 16 devS
  | .colourCal c origin chart out pixStart pixEnd _ => c.wf && fits 64 origin && fits 64 chart && fits 64 out && fits 16 pixStart && fits 16 pixEnd
  | .colourCalFit => true
  | .jobLoad c src len slot _ => c.wf && fits 64 src && fits 32 len && fits 8 slot
  | .jobLoadComplete slot => fits 6 slot
  | .jobUnload c slot => c.wf && fits 8 slot
  | .laneStart c start lane => c.wf && fits 64 start && fits 8 lane
  | .laneStop c stop lane => c.wf && fits 64 stop && fits 8 lane
  | .laneSetVar c src lane var len => c.wf && fits 64 src && fits 8 lane && fits 8 var && fits 8 len
  | .vocabLoad c src len vslot => c.wf && fits 64 src && fits 32 len && fits 8 vslot
  | .vocabUnload c vslot => c.wf && fits 8 vslot
  | .capTokenize c src dst len cap stream tflags vslot split => c.wf && fits 64 src && fits 64 dst && fits 32 len && fits 32 cap && fits 8 stream && fits 8 tflags && fits 8 vslot && fits 8 split
  | .streamOpen c qaddr ageMax maxW maxH mark codec depth low cls => c.wf && fits 64 qaddr && fits 32 ageMax && fits 16 maxW && fits 16 maxH && fits 16 mark && fits 8 codec && fits 8 depth && fits 8 low && fits 8 cls
  | .streamFeed c src capDt wtDl len fid slot _ => c.wf && fits 64 src && fits 64 capDt && fits 64 wtDl && fits 32 len && fits 32 fid && fits 8 slot
  | .streamClose c slot => c.wf && fits 8 slot
  | .streamFlushDone slot _ => fits 5 slot
  | .trigArm c start period ports => c.wf && fits 64 start && fits 32 period && fits 8 ports
  | .trigStop c ports => c.wf && fits 8 ports
  | .feRefCapture c lines ports kind => c.wf && fits 16 lines && fits 8 ports && fits 8 kind
  | .feRefApply c ports => c.wf && fits 8 ports
  | .pbStart c => c.wf
  | .pbPause c => c.wf
  | .pbResume c => c.wf
  | .pbLineStep => true
  | .pbRunEnd => true
  | .ctxOpen c desc ctx => c.wf && fits 64 desc && fits 16 ctx
  | .ctxLaunch c cnt0 cnt1 cnt2 cnt3 ctx => c.wf && fits 32 cnt0 && fits 32 cnt1 && fits 32 cnt2 && fits 32 cnt3 && fits 16 ctx
  | .ctxStop c ctx => c.wf && fits 16 ctx
  | .ctxResume c ctx => c.wf && fits 16 ctx
  | .ctxClose c ctx => c.wf && fits 16 ctx
  | .ctxAbort c ctx => c.wf && fits 16 ctx
  | .seqOpen c param ctx seq => c.wf && fits 64 param && fits 16 ctx && fits 16 seq
  | .seqClose c ctx seq => c.wf && fits 16 ctx && fits 16 seq
  | .ptEdit c n ctx seq srcCtx srcSeq op => c.wf && fits 32 n && fits 16 ctx && fits 16 seq && fits 16 srcCtx && fits 16 srcSeq && fits 8 op
  | .ringGroupOpen c param => c.wf && fits 64 param
  | .ringGroupClose c group => c.wf && fits 8 group
  | .markSignal c add mark => c.wf && fits 64 add && fits 16 mark
  | .sqCreate c base sq log2 cq prio => c.wf && fits 64 base && fits 8 sq && fits 8 log2 && fits 8 cq && fits 8 prio
  | .sqDelete c sq => c.wf && fits 8 sq
  | .cqCreate c base vecN cq log2 => c.wf && fits 64 base && fits 16 vecN && fits 8 cq && fits 8 log2
  | .cqDelete c cq => c.wf && fits 8 cq
  | .rqCreate c base lanes cats vecN wm hold rq log2 => c.wf && fits 64 base && fits 32 lanes && fits 16 cats && fits 16 vecN && fits 16 wm && fits 16 hold && fits 8 rq && fits 8 log2
  | .rqDelete c rq => c.wf && fits 8 rq
  | .dmaCopy c src dst len _ => c.wf && fits 64 src && fits 64 dst && fits 32 len
  | .memFill c dst pattern len => c.wf && fits 64 dst && fits 64 pattern && fits 32 len
  | .adaptOpen c param => c.wf && fits 64 param
  | .adaptConfirm c first last ad lane => c.wf && fits 32 first && fits 32 last && fits 8 ad && fits 8 lane
  | .adaptSample c src lbl map len w h lblLen ad kind => c.wf && fits 64 src && fits 64 lbl && fits 64 map && fits 32 len && fits 16 w && fits 16 h && fits 16 lblLen && fits 8 ad && fits 8 kind
  | .adaptRun c ad => c.wf && fits 8 ad
  | .adaptPause c ad => c.wf && fits 8 ad
  | .adaptEval c ad => c.wf && fits 8 ad
  | .adaptEvalComplete ad _ => fits 2 ad
  | .adaptCommit c ad slot => c.wf && fits 8 ad && fits 8 slot
  | .adaptClose c ad => c.wf && fits 8 ad
  | .sampleResolve ad slot _ => fits 2 ad && fits 16 slot
  | .batchClose ad => fits 2 ad
  | .fltRead c dst idx => c.wf && fits 64 dst && fits 8 idx
  | .nop c => c.wf
  | .sqTailDoorbell sq idx => fits 8 sq && fits 16 idx
  | .cqHeadDoorbell cq idx => fits 8 cq && fits 16 idx
  | .rqHeadDoorbell rq idx => fits 4 rq && fits 16 idx
  | .rqHoldTimer rq => fits 4 rq
  | .gemm ctx => fits 14 ctx
  | .convTap ctx => fits 14 ctx
  | .pool ctx => fits 14 ctx
  | .vec ctx => fits 14 ctx
  | .attn ctx => fits 14 ctx
  | .ringBarrierComplete group => fits 5 group
  | .dma ctx _ _ => fits 14 ctx
  | .waitMark ctx => fits 14 ctx
  | .signalMark ctx => fits 14 ctx
  | .branchOnCount ctx => fits 14 ctx
  | .descComplete core _ _ _ _ => fits 3 core
  | .detokeniseToken ctx => fits 14 ctx
  | .fieldMatch lane _ _ ctx => fits 5 lane && fits 14 ctx
  | .encoderForwardCount => true
  | .encoderReverseCount => true
  | .encZEdge => true
  | .encIllegalTransition => true
  | .shutterArm entry w2 => fits 12 entry && fits 32 w2
  | .markerPulseFire entry => fits 12 entry
  | .markerAssert entry => fits 12 entry
  | .markerDeassert entry => fits 12 entry
  | .markerReadback output _ => fits 4 output
  | .stepFire entry => fits 12 entry
  | .lineTrigFire entry => fits 12 entry
  | .ctxLaunchFire entry => fits 12 entry
  | .laneStartLine lane => fits 5 lane
  | .laneStopLine lane => fits 5 lane
  | .deadlineFire entry => fits 12 entry
  | .spanFire lane => fits 5 lane
  | .objectRegister lane _ _ _ _ => fits 5 lane
  | .searchWindowClose lane _ => fits 5 lane
  | .verdictPost lane _ _ => fits 5 lane
  | .dupMismatch outs => fits 16 outs
  | .stripLineReceive port _ => fits 3 port
  | .rasterRowWrite _ fills => fills.all (fun e => fits 3 e.1 && decide (e.2.1 < 6) && decide (e.2.2 ≤ 4096))
  | .stripeRowWrite buf => fits 2 buf
  | .stripeRelease buf _ => fits 2 buf
  | .whiteTrackUpdate => true
  | .stripCrcError port _ => fits 3 port
  | .stripLinkDown port link => fits 3 port && fits 2 link
  | .stripLinkRelock port link => fits 3 port && fits 2 link
  | .sysrefEdge _ => true
  | .decodePictureDone pipe _ _ => fits 1 pipe
  | .auxLate pipe _ => fits 1 pipe
  | .frameDequeue slot => fits 5 slot
  | .refRepair job _ _ => fits 6 job
  | .codeRequestStart => true
  | .codeRequestDone _ => true
  | .refreshSlot chan => decide (chan < 6)
  | .dramHotChange _ => true
  | .caParityAlert chan _ => decide (chan < 6)
  | .wrCrcAlert chan _ => decide (chan < 6)
  | .patrolScrub chan _ => decide (chan < 6)
  | .neighbourRefresh chan _ _ _ => decide (chan < 6)
  | .ringLinkDown links _ => fits 8 links
  | .halyardScan => true
  | .watchdogExpiry ctx => fits 14 ctx
  | .contextFault ctx _ => fits 14 ctx
  | .contextResetComplete ctx => fits 14 ctx
  | .safelightWdog => true
  | .safelightLockstep => true
  | .tierMComplete => true
  | .hoistPeriodBoundary => true
  | .thermalCapUpdate => true
  | .tempSensorSample sensor code => decide (sensor < 12) && fits 16 code
  | .thermtrip => true
  | .dvfsStopEnd core => fits 3 core
  | .avsTimeout => true
  | .pwrokRise => true
  | .pwrokFall => true
  | .perstAssert => true
  | .perstRelease => true
  | .deviceReady _ => true
  | .smbusBlockRead code => fits 8 code
  | .extest => true
  | .idcode => true
  | .samplePreload => true
  | .clamp => true
  | .highz => true
  | .bypass => true
  | .dbgChallenge => true
  | .dbgResponse _ _ => true
  | .rd32 addr => fits 64 addr && decide (addr % 4 = 0)
  | .wr32 addr data => fits 64 addr && decide (addr % 4 = 0) && fits 32 data
  | .slHalt => true
  | .slResume => true
  | .slStep => true
  | .slBp n addr _ => fits 3 n && fits 32 addr
  | .slWp n addr data => fits 2 n && fits 32 addr && fits 32 data
  | .slBreakHit _ n => fits 3 n
  | .slReg n => fits 6 n
  | .coreHalt core => fits 3 core
  | .coreHaltDrained core => fits 3 core
  | .coreHardHalt core => fits 3 core
  | .coreStep core ctx => fits 3 core && fits 14 ctx
  | .coreStepTimeout core => fits 3 core
  | .coreResume core => fits 3 core
  | .lock => true
  | .svnRaise svn => fits 32 svn
  | .tmuWtSetHiWrite _ => true
  | .tmuDivWrite _ => true
  | .tmuShPartWrite _ => true
  | .pcieAptBaseWrite _ => true
  | .spnCfgEnable port _ => fits 3 port
  | .drkSbEnable buf _ => fits 2 buf
  | .kvmPoolEnable poolN _ => fits 2 poolN
  | .hstCommit => true
  | .forceCoarseWrite _ => true
  | .ennDvfsWrite core _ => fits 3 core
  | .mgtAvsWrite _ => true
  | .markWindowHiWrite mark _ => fits 16 mark
  | .fltMkHoldClear _ => true
  | .dbgCtrlLock => true
  | .dbgCtrlDeny => true
  | .regReadLoLatch off len => fits 25 off && decide (0 < len) && decide (len ≤ 8)
  | .registerWrite off _ => fits 25 off && decide (off % 4 = 0)
  | .unsupportedAccess _ _ _ _ => true
  | .bar2Access off _ _ => fits 26 off
  | .bar4Access off _ _ => fits 32 off
  | .controlStateParity block _ => decide (block < 8)
  | .firmwareHeartbeat => true
  | .fwSwapComplete _ => true
  | .pmbusTransfer _ _ _ => true
  | .lineStartTimeout port => fits 3 port
  | .devDecodeErr pipe _ _ => fits 1 pipe

end Sys2Proof
end

