-- ==== Sys2Proof/Safety.lean ====
section
/-! DEFINITION. What counts as a safe run, and the words the statements are made of: a packet that is taken, a command
that gives a state, one that replies OK, one that waits for its completing event. -/

namespace Sys2Proof.Machine

/-- A step that answers a next state: neither a fault nor a refusal of the model. -/
def Safe (s : State) : Prop := ∃ t, step s = .next t

/-- The packet `c` of a host ring is the next to be accepted, its opcode is its command's and no reserved byte of it is set,
on a device that is ready and in service (R276 to R278, R281, R341). -/
abbrev Taken (c : Cmd) (s : State) : Prop :=
  c.dev = false ∧ acceptable s c = true ∧ c.rsv = none ∧ c.op = none ∧ isReady s = true ∧ s.flt.oos = false

/-- A context command that the device itself gives (R252). -/
abbrev Internal (c : Cmd) (s : State) : Prop := c.dev = true ∧ isReady s = true

/-- A command that takes effect: a packet that is taken, or a command the device gives itself. -/
abbrev Given (c : Cmd) (s : State) : Prop := Taken c s ∨ Internal c s

/-- The command may name context `n`: the host may not act on device contexts (R252). -/
abbrev MayName (c : Cmd) (n : Nat) : Prop := c.dev = true ∨ 0x1000 ≤ n

/-- The accepted command: its packet and its index in the ring (R284). -/
def flightOf (c : Cmd) (s : State) : Flight :=
  { c := c, idx := (match c.dev, sq s c.sq with | false, some r => r.head | _, _ => 0), await := .mgmt }

/-- The state with the ring's head past the packet, the command not yet given its effect (R276). -/
abbrev took (c : Cmd) (s : State) : State := advanceHead s c.sq

/-- The state on which the command's effect begins. -/
abbrev began (c : Cmd) (s : State) : State := if c.dev then s else took c s

/-- The outcome in which the command's effect has given `u` and the reply `status`, `detail`, `result` is posted on it. -/
abbrev replied (c : Cmd) (s u : State) (status detail result : Nat) : Res :=
  .next (complete u (flightOf c s) status detail result)

/-- The outcome in which the command's effect has given `u` and the command replies OK with `result`. -/
abbrev done (c : Cmd) (s u : State) (result : Nat) : Res := replied c s u stOk 0 result

/-- The outcome in which the command's effect has given `u` and the command waits for the event `a`. -/
abbrev awaits (c : Cmd) (s u : State) (a : Await) (ctxs : List Nat) : Res := .next (defer u (flightOf c s) a ctxs)

/-- The command answers a next state, and it is as `p` says. -/
def Gives (i : Instr) (s : State) (p : State → Prop) : Prop := ∃ t, exec i s = .next t ∧ p t

/-- The command replies OK with `result` on a state that is as `p` says. -/
def Does (i : Instr) (c : Cmd) (s : State) (result : Nat) (p : State → Prop) : Prop :=
  ∃ u, exec i s = done c s u result ∧ p u

/-- The command is accepted and waits for the event `a`, on a state that is as `p` says. -/
def Waits (i : Instr) (c : Cmd) (s : State) (a : Await) (p : State → Prop) : Prop :=
  ∃ u xs, exec i s = awaits c s u a xs ∧ p u

end Sys2Proof.Machine
end

