-- ==== Sys2Proof/Certificates/Slice0/Obligations.lean ====
section
/-! DEFINITION. The statements: what the commands of the CN8160 do, family by family, and what every step keeps. An
abbreviation `Pre.x` is what a statement asks of the state and the operands of its command; Tests/Slice0.lean meets each. -/

namespace Sys2Proof.Machine

/-! ### Salhan rings (chapter 15) -/

abbrev Pre.sqCreate (c : Cmd) (base n log2 k p : Nat) (s : State) : Prop :=
  Taken c s ∧ ringMemOk s base (64 * 2 ^ log2) = true ∧ 1 ≤ n ∧ n < 256 ∧ 4 ≤ log2 ∧ log2 ≤ 16 ∧ k < 256 ∧
    (cq s k).isSome = true ∧ p < 4 ∧ sq s n = none

abbrev Pre.sqDelete (c : Cmd) (n : Nat) (r : SubRing) (s : State) : Prop :=
  Taken c s ∧ 1 ≤ n ∧ n < 256 ∧ n ≠ c.sq ∧ sq s n = some r ∧ incomplete s n = false

abbrev Pre.sqTail (n idx : Nat) (r : SubRing) (s : State) : Prop :=
  powered s = true ∧ n < 256 ∧ sq s n = some r ∧ idx < 2 ^ r.log2 ∧ idx < 65536

abbrev Pre.sqTailBad (n idx : Nat) (s : State) : Prop :=
  powered s = true ∧ n < 256 ∧ idx < 65536 ∧ (sq s n).all (fun r => decide (2 ^ r.log2 ≤ idx)) = true

end Sys2Proof.Machine
open Sys2Proof Sys2Proof.Machine in
/-- Submission rings are made, removed and advanced. SQ_CREATE makes an empty ring with its base, size, completion
ring and priority, replies OK and changes nothing else; SQ_DELETE of a ring none of whose accepted commands is
incomplete removes it; the tail doorbell of an existing ring with an index below its size sets the tail and changes
nothing else; a tail doorbell to a missing ring or with an index not below the size sets BAD_DB and logs an
unsupported access, and moves no tail. (R271, R274, R282, 15_salhan_commands.md) -/
def Obligations.SubmissionRings : Prop :=
  (∀ c base n log2 k p s, Pre.sqCreate c base n log2 k p s → exec (.sqCreate c base n log2 k p) s =
    done c s (setSq (took c s) n (some { base := base, log2 := log2, head := 0, tail := 0, cq := k, prio := p })) 0) ∧
  (∀ c n r s, Pre.sqDelete c n r s → Gives (.sqDelete c n) s (fun t => sq t n = none)) ∧
  (∀ n idx r s, Pre.sqTail n idx r s →
    exec (.sqTailDoorbell n idx) s = .next (setSq s n (some { r with tail := idx }))) ∧
  (∀ n idx s, Pre.sqTailBad n idx s →
    exec (.sqTailDoorbell n idx) s = .next (logUnsup (flag s 0x50120 5) 0 (0x700000 + 8 * n) true))

namespace Sys2Proof.Machine

abbrev Pre.cqCreate (c : Cmd) (base vec n log2 : Nat) (s : State) : Prop :=
  Taken c s ∧ ringMemOk s base (32 * 2 ^ log2) = true ∧ vecOkay vec = true ∧ 1 ≤ n ∧ n < 256 ∧ 4 ≤ log2 ∧ log2 ≤ 16 ∧
    cq s n = none

abbrev Pre.cqDelete (c : Cmd) (n : Nat) (s : State) : Prop :=
  Taken c s ∧ 1 ≤ n ∧ n < 256 ∧ (cq s n).isSome = true ∧ (∀ e ∈ s.sal.sq, e.2.map (·.cq) ≠ some n)

abbrev Pre.cqHead (n k : Nat) (r : CompRing) (s : State) : Prop :=
  powered s = true ∧ n < 256 ∧ cq s n = some r ∧ r.log2 ≤ 16 ∧ 1 ≤ k ∧ k ≤ r.wr - r.rd ∧ r.wr - r.rd ≤ 2 ^ r.log2 ∧ r.wait = []

end Sys2Proof.Machine
open Sys2Proof Sys2Proof.Machine in
/-- Completion rings are made, removed and read. CQ_CREATE makes an empty ring with its base, size and vector
(0xFFFF is no vector), replies OK and changes nothing else; CQ_DELETE of a ring to which no submission ring is bound
removes it and replies OK; a head doorbell that moves over k written replies, k at least 1, moves the ring's read
count by k; with no reply waiting for room nothing else changes but that deletions of submission rings that have
nothing left to wait for end. (R271, R274, R282, 15_salhan_commands.md) -/
def Obligations.CompletionRings : Prop :=
  (∀ c base vec n log2 s, Pre.cqCreate c base vec n log2 s → exec (.cqCreate c base vec n log2) s =
    done c s (setCq (took c s) n (some { base := base, log2 := log2, wr := 0, rd := 0,
                                         vec := if vec = 0xFFFF then none else some vec, wait := [] })) 0) ∧
  (∀ c n s, Pre.cqDelete c n s → exec (.cqDelete c n) s = done c s (setCq (took c s) n none) 0) ∧
  (∀ n k r s, Pre.cqHead n k r s →
    exec (.cqHeadDoorbell n ((r.rd + k) % 2 ^ r.log2)) s = .next (let t := setCq s n (some { r with rd := r.rd + k }); finishDeletes t t.sal.flights))

namespace Sys2Proof.Machine

abbrev Pre.rqCreate (c : Cmd) (base lanes cats vec wm hold n log2 : Nat) (s : State) : Prop :=
  Taken c s ∧ ringMemOk s base (128 * 2 ^ log2) = true ∧ lanes < 2 ^ 32 ∧ cats < 2 ^ 16 ∧ vecOkay vec = true ∧ wm < 2 ^ 16 ∧
    hold < 2 ^ 16 ∧ n < 16 ∧ 4 ≤ log2 ∧ log2 ≤ 16 ∧ (bit cats 1 = true → 6 ≤ log2) ∧ rq s n = none

abbrev Pre.rqDelete (c : Cmd) (n : Nat) (r : RepRing) (s : State) : Prop := Taken c s ∧ n < 16 ∧ rq s n = some r

abbrev Pre.rqHead (n k : Nat) (r : RepRing) (s : State) : Prop :=
  powered s = true ∧ n < 16 ∧ rq s n = some r ∧ r.log2 ≤ 16 ∧ 1 ≤ k ∧ k ≤ r.unread.length ∧ r.unread.length ≤ 2 ^ r.log2 ∧
    r.unread.length ≤ r.wr ∧ r.mode = .normal ∧ r.spill = []

abbrev Pre.rqHold (n t : Nat) (r : RepRing) (s : State) : Prop :=
  powered s = true ∧ rq s n = some r ∧ r.unread.head? = some t ∧ r.hold ≠ 0 ∧ r.holdDone = false ∧ t + r.hold * 1000 ≤ dt s

end Sys2Proof.Machine
open Sys2Proof Sys2Proof.Machine in
/-- Report rings are made, removed, read and timed. RQ_CREATE makes an empty ring in mode NORMAL with its filters,
vector, watermark and hold time, replies OK and changes nothing else; RQ_DELETE removes the ring and adds its
spilled and its dropped records to SCH_RPT_UNROUTED (saturating), and a proof bed that paused by itself may go on; a
head doorbell that moves over k unread records of a ring in mode NORMAL takes these records off the unread ones and
restarts the hold time, and a proof bed that paused by itself may go on; when the oldest unread record has waited
HOLD_US the ring raises its vector and changes nothing else but its mark that it did. (R271, R274, R282, R291, R94,
15_salhan_commands.md) -/
def Obligations.ReportRings : Prop :=
  (∀ c base lanes cats vec wm hold n log2 s, Pre.rqCreate c base lanes cats vec wm hold n log2 s →
    exec (.rqCreate c base lanes cats vec wm hold n log2) s = done c s (setRq (took c s) n
      (some { base := base, log2 := log2, lanes := lanes, cats := cats, vec := if vec = 0xFFFF then none else some vec, wm := wm,
              hold := hold, wr := 0, unread := [], rseq := 0, mode := .normal, spill := [], tally := {}, holdDone := false })) 0) ∧
  (∀ c n r s, Pre.rqDelete c n r s → exec (.rqDelete c n) s =
    done c s (bedResumeAuto (setRq (bump (took c s) 0x50138 (r.spill.length + r.tally.records)) n none)) 0) ∧
  (∀ n k r s, Pre.rqHead n k r s → exec (.rqHeadDoorbell n ((r.wr - r.unread.length + k) % 2 ^ r.log2)) s =
    .next (bedResumeAuto (setRq s n (some { r with unread := r.unread.drop k, holdDone := false })))) ∧
  (∀ n t r s, Pre.rqHold n t r s →
    exec (.rqHoldTimer n) s = .next (raiseVec (setRq s n (some { r with holdDone := true })) r.vec))

namespace Sys2Proof.Machine

abbrev Pre.markSignal (c : Cmd) (add m : Nat) (s : State) : Prop := Taken c s ∧ m < 65536 ∧ add < 2 ^ 64

abbrev Pre.markHi (m : Nat) (s : State) : Prop := isReady s = true ∧ m < 65536

/-- The state `u` is `s` after an outside signal of `add` to mark `m`. -/
abbrev Signalled (s u : State) (m add : Nat) : Prop :=
  mark u m = (if add = 0 then mark s m else min (2 ^ 64 - 1) (mark s m + add)) ∧ (∀ k, k ≠ m → mark u k = mark s k) ∧
  tget false u.marks.extFed m = true ∧
  (add ≠ 0 → 2 ^ 64 - 1 < mark s m + add → bit (rg u 0x50004) 2 = true) ∧
  (add ≠ 0 → ∀ n v, (ctx s n).st = .waiting → (ctx s n).wait = some (.mark m v) → v ≤ mark u m →
    ctx u n = { ctx s n with st := .ready, wait := none }) ∧
  { u with marks := s.marks, ctxs := s.ctxs, regs := s.regs } = s

end Sys2Proof.Machine
open Sys2Proof Sys2Proof.Machine in
/-- Signals from the host add to a mark, saturating. MARK_SIGNAL replies OK and adds its amount to its mark; a write
of the _HI word of a mark's window adds the value formed from the written high half and the pending low half. In
both cases the mark saturates at 2^64 - 1, and a sum beyond that sets MARK_SAT; an amount of 0 leaves every mark as
it is; every other mark keeps its value; the mark counts as externally fed from then on; a context that waits on the
mark for a value it has reached becomes READY; nothing but marks, contexts and the registers of MARK_SAT changes.
(R258, R259, R286, R326) -/
def Obligations.MarkSignals : Prop :=
  (∀ c add m s, Pre.markSignal c add m s → Does (.markSignal c add m) c s 0 (fun u => Signalled (took c s) u m add)) ∧
  (∀ m v s, Pre.markHi m s → Gives (.markWindowHiWrite m v) s (fun t =>
    Signalled s t m (v.toNat * 2 ^ 32 + tget 0 s.marks.low m)))

namespace Sys2Proof.Machine

/-- Class 4 may use DRAM for a transfer of `n` bytes of DRAM. -/
abbrev DramFree (s : State) (n : Nat) : Prop := n = 0 ∨ dramOut s = false

abbrev Pre.dmaCopy (c : Cmd) (src dst len : Nat) (ecc : List (Nat × Bool)) (s : State) : Prop :=
  Taken c s ∧ rangeOk s src len = true ∧ rangeOk s dst len = true ∧ len < 2 ^ 32 ∧ hostFail c [src, dst] = false ∧
    DramFree s (dramOf s src len + dramOf s dst len) ∧ readsPoison (eccErrors s (eccWithin s src len ecc)) src len = false

abbrev Pre.memFill (c : Cmd) (dst pat len : Nat) (s : State) : Prop :=
  Taken c s ∧ rangeOk s dst len = true ∧ pat < 2 ^ 64 ∧ len < 2 ^ 32 ∧ hostFail c [dst] = false ∧ DramFree s (dramOf s dst len)

abbrev Pre.copyWaits (c : Cmd) (src dst len : Nat) (s : State) : Prop :=
  Taken c s ∧ rangeOk s src len = true ∧ rangeOk s dst len = true ∧ len < 2 ^ 32 ∧
    dramOf s src len + dramOf s dst len ≠ 0 ∧ dramOut s = true

abbrev Pre.fillWaits (c : Cmd) (dst pat len : Nat) (s : State) : Prop :=
  Taken c s ∧ rangeOk s dst len = true ∧ pat < 2 ^ 64 ∧ len < 2 ^ 32 ∧ dramOf s dst len ≠ 0 ∧ dramOut s = true

abbrev Pre.fltRead (c : Cmd) (dst idx : Nat) (s : State) : Prop :=
  Taken c s ∧ rangeOk s dst 4096 = true ∧ idx < 64 ∧ hostFail c [dst] = false

end Sys2Proof.Machine
open Sys2Proof Sys2Proof.Machine in
/-- Copies, fills and fault reads store exactly their bytes. DMA_COPY stores at DST the bytes that SRC held when it
began, MEM_FILL the 8-byte pattern from its byte 0 on, FLT_READ the 4,096 bytes of the fault record of its index,
each with reply OK; every byte of memory outside the stored range is unchanged, and nothing else changes but the
poison of units written, the bandwidth budgets, and what the registers and channels record of budgets and of errors
that the reads meet. A copy or fill whose class has used up its bandwidth of the period waits for the next one. NOP
replies OK on a state in which only its ring's head has moved. (R286, R329, 15_salhan_commands.md) -/
def Obligations.MemoryCommands : Prop :=
  (∀ c src dst len ecc s, Pre.dmaCopy c src dst len ecc s → Does (.dmaCopy c src dst len ecc) c s 0 (fun u =>
    (∀ i, i < len → mrd u (dst + i) = mrd s (src + i)) ∧ (∀ a, a < dst ∨ dst + len ≤ a → mrd u a = mrd s a) ∧
    { u with mem := (took c s).mem, poison := (took c s).poison, hst := (took c s).hst, regs := (took c s).regs, mc := (took c s).mc } =
      took c s)) ∧
  (∀ c src dst len ecc s, Pre.copyWaits c src dst len s → exec (.dmaCopy c src dst len ecc) s =
    awaits c s (took c s) (.copy src dst len ecc) []) ∧
  (∀ c dst pat len s, Pre.memFill c dst pat len s → Does (.memFill c dst pat len) c s 0 (fun u =>
    (∀ i, i < len → mrd u (dst + i) = BitVec.ofNat 8 (pat / 256 ^ (i % 8))) ∧
    (∀ a, a < dst ∨ dst + len ≤ a → mrd u a = mrd s a) ∧
    { u with mem := (took c s).mem, poison := (took c s).poison, hst := (took c s).hst, regs := (took c s).regs } = took c s)) ∧
  (∀ c dst pat len s, Pre.fillWaits c dst pat len s → exec (.memFill c dst pat len) s =
    awaits c s (took c s) (.fill dst pat len) []) ∧
  (∀ c dst idx s, Pre.fltRead c dst idx s →
    Does (.fltRead c dst idx) c s (if idx < s.flt.count then (tget {} s.flt.ring idx).dt else 0) (fun u =>
      rdBytes u dst 4096 = slotBytes s idx ∧ (∀ a, a < dst ∨ dst + 4096 ≤ a → mrd u a = mrd s a) ∧
      { u with mem := (took c s).mem, poison := (took c s).poison } = took c s)) ∧
  (∀ c s, Taken c s → exec (.nop c) s = done c s (took c s) 0)

namespace Sys2Proof.Machine


/-! ### Web time, the Shutter table, the encoder (chapter 3) -/

abbrev Pre.forward (s : State) : Prop := powered s = true ∧ s.tmu.debt = 0 ∧ srcEncoder s = true ∧ s.tmu.rem < den s

abbrev Pre.repay (s : State) : Prop := powered s = true ∧ 0 < s.tmu.debt

abbrev Pre.reverse (s : State) : Prop := powered s = true ∧ s.tmu.debt ≤ 1048575

end Sys2Proof.Machine
open Sys2Proof Sys2Proof.Machine in
/-- Web time advances by NUM/DEN lines per forward count. A forward count with no reverse debt gives, from a
remainder r below DEN, the line count L + (r + NUM) / DEN, the remainder (r + NUM) mod DEN and, where NUM is not 0,
the fraction of the remainder in 1/65,536 line, rounded down; with reverse debt it repays one count of it and web
time holds; a reverse count adds one to the debt, up to 1,048,575, and web time holds, and at 1,048,575 it is lost,
raising ENC_FAULT and DEBT_SAT unless the saturation was already reported; a Z edge starts the count between edges
anew; an illegal transition sets ILLEGAL and counts in the check period; none of them changes device time. (R57,
R60, 03_web_time.md) -/
def Obligations.EncoderCounts : Prop :=
  (∀ s, Pre.forward s → Gives .encoderForwardCount s (fun t =>
    t.tmu.line = s.tmu.line + (s.tmu.rem + num s) / den s ∧ t.tmu.rem = (s.tmu.rem + num s) % den s ∧
    (num s ≠ 0 → t.tmu.frac = (s.tmu.rem + num s) % den s * 65536 / den s) ∧ t.tmu.debt = 0 ∧ dt t = dt s)) ∧
  (∀ s, Pre.repay s → Gives .encoderForwardCount s (fun t =>
    t.tmu.debt = s.tmu.debt - 1 ∧ t.tmu.sat = false ∧ wt t = wt s ∧ dt t = dt s)) ∧
  (∀ s, Pre.reverse s → Gives .encoderReverseCount s (fun t =>
    t.tmu.debt = min 1048575 (s.tmu.debt + 1) ∧ wt t = wt s ∧ dt t = dt s ∧
    (s.tmu.debt = 1048575 → t.tmu.sat = true ∧ (s.tmu.sat = false → bit (rg t 0x20004) 2 = true ∧ bit (rg t 0x20004) 7 = true)))) ∧
  (∀ s, powered s = true → Gives .encZEdge s (fun t => t.tmu.zCnt = 0 ∧ wt t = wt s ∧ dt t = dt s)) ∧
  (∀ s, powered s = true → Gives .encIllegalTransition s (fun t =>
    t.tmu.ill = s.tmu.ill + 1 ∧ bit (rg t 0x20004) 0 = true ∧ wt t = wt s ∧ dt t = dt s))

namespace Sys2Proof.Machine

abbrev Pre.arm (k w2 : Nat) (s : State) : Prop :=
  powered s = true ∧ k < 4096 ∧ k < hostN s ∧ (ent s k).fired = false ∧ bit w2 31 = true ∧ w2 < 2 ^ 32 ∧
    (bits w2 29 26 = 0 ∨ bits w2 29 26 = 3)

abbrev Pre.disarm (k w2 : Nat) (s : State) : Prop :=
  powered s = true ∧ k < 4096 ∧ k < hostN s ∧ (ent s k).fired = false ∧ bit w2 31 = false ∧ w2 < 2 ^ 32

abbrev Pre.armBad (k w2 : Nat) (s : State) : Prop :=
  powered s = true ∧ k < 4096 ∧ (hostN s ≤ k ∨ (ent s k).fired = true ∨ (bit w2 31 = true ∧ bits w2 29 26 ≠ 0 ∧ bits w2 29 26 ≠ 3))

end Sys2Proof.Machine
open Sys2Proof Sys2Proof.Machine in
/-- Arming and cancelling a Shutter entry. Writing word 2 of an entry of the host partition with VALID set and type
MARKER_PULSE or CTX_LAUNCH arms the entry with the content of its words: time base, lane, output, length, word 3 and
the 64-bit target of words 0 and 1; LATE_ARM is set, and counted, if its target lies before the present time, and by
the model's choice (log entry 77) if it equals the present time, and not if it lies after it; nothing else changes.
Written with VALID clear, the entry keeps its words, is free and unarmed, and nothing else changes. Outside the host
partition, between the entry's firing and the end of its pulse, or with VALID set and another type, the write is
discarded and logged as unsupported. (R62, R64, R65) -/
def Obligations.ShutterArming : Prop :=
  (∀ k w2 s, Pre.arm k w2 s → exec (.shutterArm k w2) s = .next (
    let e := ent s k
    let e' : Entry := { e with w2 := BitVec.ofNat 32 (w2 &&& 0xFFEFFFFF), owner := .host, armed := true, dev := bit w2 30,
                               typ := bits w2 29 26, lane := bits w2 25 21, out := bits w2 19 16, len := bits w2 15 0,
                               par := e.w3.toNat, target := e.w0.toNat + e.w1.toNat * 2 ^ 32, fired := false, asserted := false }
    if e'.target ≤ (if e'.dev then dt s else wt s) then flag (setEnt s k e') 0x20004 4 else setEnt s k e')) ∧
  (∀ k w2 s, Pre.disarm k w2 s → exec (.shutterArm k w2) s = .next (setEnt s k
    { ent s k with w2 := BitVec.ofNat 32 (w2 &&& 0xFFEFFFFF), owner := .free, armed := false, asserted := false })) ∧
  (∀ k w2 s, Pre.armBad k w2 s → exec (.shutterArm k w2) s = .next (logUnsup s 0 (0x400000 + 16 * k + 8) true))

namespace Sys2Proof.Machine

abbrev Pre.assert (k : Nat) (s : State) : Prop := powered s = true ∧ assertDue s (ent s k) = true

abbrev Pre.pulse (k : Nat) (s : State) : Prop :=
  powered s = true ∧ (ent s k).armed = true ∧ (ent s k).typ = 0 ∧ (ent s k).fired = false ∧ due s (ent s k) = true

abbrev Pre.deassert (k : Nat) (s : State) : Prop := powered s = true ∧ deassertDue s (ent s k) = true

end Sys2Proof.Machine
open Sys2Proof Sys2Proof.Machine in
/-- A marker pulse begins, fires and ends. A due MARKER_PULSE entry asserts its output, noting when; at its target
it counts as fired and asserts, keeping the time of an earlier assertion; at the end of its pulse the entry is
neither armed nor asserted, and nothing but the Shutter table and the lanes' lists of entries has changed. An output
is commanded active while any entry asserts it. (R51, R66, R70, R397) -/
def Obligations.MarkerPulses : Prop :=
  (∀ k s, Pre.assert k s → exec (.markerAssert k) s = .next (setEnt s k { ent s k with asserted := true, assertAt := base s (ent s k) })) ∧
  (∀ k s, Pre.pulse k s → exec (.markerPulseFire k) s = .next (setEnt s k
    { ent s k with fired := true, asserted := true, assertAt := if (ent s k).asserted then (ent s k).assertAt else base s (ent s k) })) ∧
  (∀ k s, Pre.deassert k s → Gives (.markerDeassert k) s (fun t =>
    (ent t k).armed = false ∧ (ent t k).asserted = false ∧ { t with sht := s.sht, lanes := s.lanes } = s)) ∧
  (∀ k e s, (k, e) ∈ s.sht → e.asserted = true → outActive s e.out = true)

namespace Sys2Proof.Machine

abbrev Pre.deadline (k : Nat) (o : Obj) (s : State) : Prop :=
  powered s = true ∧ (ent s k).armed = true ∧ (ent s k).typ = 6 ∧ due s (ent s k) = true ∧
    (lane s (ent s k).lane).objs.find? (fun o => decide (o.entry = some k) && !o.late) = some o

abbrev Pre.startLine (n : Nat) (s : State) : Prop := powered s = true ∧ startLineDue s (lane s n) = true

/-- The stop and the start line of the lane are one, and it has come. -/
abbrev sameLine (s : State) (l : Lane) : Prop := startLineDue s l = true ∧ stopLineDue s l = true ∧ l.stopLine = l.startLine

abbrev Pre.stopLine (n : Nat) (s : State) : Prop :=
  powered s = true ∧ stopLineDue s (lane s n) = true ∧ ¬ sameLine s (lane s n)

abbrev Pre.bothLines (n : Nat) (s : State) : Prop := powered s = true ∧ sameLine s (lane s n)

/-- A restart in one line, of a running lane, of the same design: prediction goes on (R54). -/
abbrev continues (s : State) (l : Lane) : Prop :=
  l.st = .running ∧ l.stopPend = true ∧ l.stopLine = l.startLine ∧ sameDesign (laneImg s l.act).design (laneImg s l.pend).design = true

/-- The lane has started at its start line. -/
abbrev StartedLane (s t : State) (n : Nat) : Prop :=
  (lane t n).act = (lane s n).pend ∧ (lane t n).startPend = false ∧ (lane t n).stopPend = false ∧
  (lane t n).startedAt = some (lane s n).startLine ∧ (lane t n).st = if continues s (lane s n) then .running else .acquiring

/-- The span has reached its end at the gate. -/
abbrev spanOver (s : State) (x : Span) : Bool :=
  match x.stop with
  | none => false
  | some e => decide (spanEndLine (e + x.gate * 65536) * 65536 ≤ wt s)

end Sys2Proof.Machine
open Sys2Proof Sys2Proof.Machine in
/-- Deadlines, lane start and stop lines, and gap spans. A due deadline turns its entry into the fail-safe pulse of
the object's job at origin + GATE_OFS and marks that object LATE with the present web time. At its start line, and
at a stop line that is also its start line, a lane's pending copy becomes the active one, no start or stop is
pending any more, and the lane is ACQUIRING, or stays RUNNING where stop and start line are one and the design is
the same. At a stop line alone a lane becomes STOPPING, or STOPPED where no object is in flight and registration is
settled, and no stop is pending. Of a lane's gap spans those that have reached their end at the gate go, and those
that have reached their start there and drive do drive; nothing else changes but the Shutter table. (R35, R38, R50,
R52, R54, R67) -/
def Obligations.TimedLaneActions : Prop :=
  (∀ k o s, Pre.deadline k o s → Gives (.deadlineFire k) s (fun t =>
    let n := (ent s k).lane
    (lane t n).objs = (lane s n).objs.map (fun x => if x.key = o.key then { x with late := true, lateAt := wt s } else x) ∧
    (ent t k).armed = true ∧ (ent t k).typ = 0 ∧ (ent t k).out = (if o.img.failMark then o.cfg.markMk else o.cfg.rejectMk) ∧
    (ent t k).len = o.img.pulse ∧ (ent t k).target = o.origin + o.img.gateOfs * 65536)) ∧
  (∀ n s, Pre.startLine n s → Gives (.laneStartLine n) s (fun t => StartedLane s t n)) ∧
  (∀ n s, Pre.bothLines n s → Gives (.laneStopLine n) s (fun t => StartedLane s t n)) ∧
  (∀ n s, Pre.stopLine n s → Gives (.laneStopLine n) s (fun t =>
    (lane t n).st = (if inflight (lane s n) = 0 ∧ regSettled s (lane s n) = true then .stopped else .stopping) ∧
    (lane t n).stopPend = false)) ∧
  (∀ n s, powered s = true → Gives (.spanFire n) s (fun t =>
    (lane t n).spans = ((lane s n).spans.filter (fun x => !spanOver s x)).map (fun x =>
      if x.drives && decide (x.start + x.gate * 65536 ≤ wt s) then { x with driving := true } else x) ∧
    { t with sht := s.sht, lanes := s.lanes } = s))

namespace Sys2Proof.Machine


/-! ### Jobs and lanes (chapter 2) -/

abbrev Pre.jobLoad (c : Cmd) (src len slot : Nat) (i : JobImage) (s : State) : Prop :=
  Taken c s ∧ slot < 64 ∧ (job s slot).st = .empty ∧ rangeOk s src len = true ∧ hostFail c [src] = false ∧
    (poisonIn s src len).isSome = false ∧ limitsOk s i = true ∧ captionsOk s i = true ∧ rulesOk i = true ∧ leadOk i 0 = true ∧
    (namedSlots i).all (fun v => (vocab s v).isSome) = true

abbrev Pre.jobReady (slot : Nat) (pics : List Picture) (s : State) : Prop :=
  isReady s = true ∧ (job s slot).st = .loading ∧ (job s slot).bad = false ∧ decodedPics (job s slot) = some pics

abbrev Pre.jobFails (slot : Nat) (s : State) : Prop :=
  isReady s = true ∧ (job s slot).st = .loading ∧ (job s slot).bad = true

abbrev Pre.jobDecodes (slot : Nat) (s : State) : Prop :=
  isReady s = true ∧ (job s slot).st = .loading ∧ (job s slot).bad = false ∧ decodedPics (job s slot) = none

abbrev Pre.jobUnload (c : Cmd) (slot : Nat) (s : State) : Prop :=
  Taken c s ∧ slot < 64 ∧ jobReferenced s slot = false ∧ (job s slot).st ≠ .loading

end Sys2Proof.Machine
open Sys2Proof Sys2Proof.Machine in
/-- Jobs are loaded, become ready and are unloaded. JOB_LOAD into an empty slot, of an image within its limits whose
vocabularies are resident, puts the image into the slot, which is LOADING, hands its stills to the decoding pipes if
every still is supported, and waits; when every still has decoded the slot is READY with the same image and the
reference of its stills, when one has failed the slot is empty again, and until then nothing changes; JOB_UNLOAD of
a slot that nothing references empties it, leaves every other job as it is and replies OK. (R28, R30, R31, R100,
R101, R286) -/
def Obligations.JobSlots : Prop :=
  (∀ c src len slot i s, Pre.jobLoad c src len slot i s → exec (.jobLoad c src len slot i) s =
    awaits c s (let ok := i.stills.all stillOk
                let u := setJob (took c s) slot { st := .loading, img := i, bad := !ok }
                if ok then enqueueRefs u slot (List.range i.stills.length) false else u) (.jobLoad slot) []) ∧
  (∀ slot pics s, Pre.jobReady slot pics s → Gives (.jobLoadComplete slot) s (fun t =>
    (job t slot).st = .ready ∧ (job t slot).img = (job s slot).img ∧
    (job t slot).ref = ((job s slot).img.stills.zip pics).foldl (placeStill (job s slot).img.design) [])) ∧
  (∀ slot s, Pre.jobFails slot s → Gives (.jobLoadComplete slot) s (fun t => job t slot = {})) ∧
  (∀ slot s, Pre.jobDecodes slot s → exec (.jobLoadComplete slot) s = .next s) ∧
  (∀ c slot s, Pre.jobUnload c slot s → Does (.jobUnload c slot) c s 0 (fun u =>
    job u slot = {} ∧ (∀ k, k ≠ slot → job u k = job s k) ∧ u.lanes = s.lanes))

namespace Sys2Proof.Machine

abbrev Pre.laneStart (c : Cmd) (start n : Nat) (s : State) : Prop :=
  Taken c s ∧ start < 2 ^ 64 ∧ n < 32 ∧ startAdmitted (lane s n) = true ∧ startBad s n start = none

abbrev Pre.laneStop (c : Cmd) (stop n : Nat) (s : State) : Prop :=
  Taken c s ∧ stop < 2 ^ 64 ∧ n < 32 ∧ stopAdmitted (lane s n) = true ∧ (lane s n).startPend = false

abbrev Pre.setVar (c : Cmd) (src n v len : Nat) (s : State) : Prop :=
  Taken c s ∧ n < 32 ∧ v < 8 ∧ len ≤ 64 ∧ pendOpen (lane s n) = true ∧
    (len = 0 ∨ (rangeOk s src len = true ∧ hostFail c [src] = false ∧ (poisonIn s src len).isSome = false))

end Sys2Proof.Machine
open Sys2Proof Sys2Proof.Machine in
/-- Lanes are started, stopped and given variables. LANE_START of an admitted lane that passes the checks replies OK
with the line at which it takes effect, the later of START and web time: for a future line the start is pending for
that line, otherwise the pending copy is active at once. LANE_STOP of a running lane replies OK likewise: for a
future line the stop is pending for that line, otherwise the lane is STOPPING or STOPPED at once. LANE_SET_VAR puts
the bytes into the variable of the pending copy, replies OK and changes nothing else. (R33, R34, R35, R52, R53, R54)
-/
def Obligations.LaneCommands : Prop :=
  (∀ c start n s, Pre.laneStart c start n s → Does (.laneStart c start n) c s (max start (wt s)) (fun u =>
    if wt s < start then (lane u n).startPend = true ∧ (lane u n).startLine = start ∧ (lane u n).pend = (lane s n).pend
    else (lane u n).startPend = false ∧ (lane u n).act = (lane s n).pend)) ∧
  (∀ c stop n s, Pre.laneStop c stop n s → Does (.laneStop c stop n) c s (max stop (wt s)) (fun u =>
    if wt s < stop then u = armLine (setLane (took c s) n { lane s n with stopPend := true, stopLine := stop, winDone := false }) n 5 stop
    else ((lane u n).st = .stopping ∨ (lane u n).st = .stopped) ∧ (lane u n).stopPend = false)) ∧
  (∀ c src n v len s, Pre.setVar c src n v len s → exec (.laneSetVar c src n v len) s =
    done c s (setLane (took c s) n { lane s n with pend := { (lane s n).pend with vars := tset [] (lane s n).pend.vars v (rdBytes s src len) } }) 0)

namespace Sys2Proof.Machine


/-! ### Objects, text fields, the code unit (chapters 2 and 12) -/

/-- An origin that the lane registers under the configuration `c`, not lost to a stale stripe. -/
abbrev Registers (n origin : Nat) (c : LaneCfg) (old : Bool) (s : State) : Prop :=
  isReady s = true ∧ n < 32 ∧ origin ≤ wt s ∧ regCfg s (lane s n) origin = some (c, old) ∧ originStale s c origin = false ∧
    (lane s n).spanEntry.all (fun e => !(lane s n).entries.contains e) = true

abbrev Pre.register (n origin k : Nat) (c : LaneCfg) (old : Bool) (s : State) : Prop :=
  Registers n origin c old s ∧ idleSlot s n = some k

abbrev Pre.overrun (n origin : Nat) (c : LaneCfg) (old : Bool) (s : State) : Prop :=
  Registers n origin c old s ∧ idleSlot s n = none

abbrev Pre.predictedMiss (n p : Nat) (c : LaneCfg) (old : Bool) (s : State) : Prop :=
  isReady s = true ∧ n < 32 ∧ missed s (lane s n) = some (p, c, old) ∧ pastStop (lane s n) p old = false

abbrev Pre.lastWindow (n p : Nat) (c : LaneCfg) (old : Bool) (s : State) : Prop :=
  isReady s = true ∧ n < 32 ∧ missed s (lane s n) = some (p, c, old) ∧ pastStop (lane s n) p old = true

abbrev Pre.verdict (n key : Nat) (o : Obj) (s : State) : Prop :=
  isReady s = true ∧ objOf s n key = some o ∧ inputsDone o = true ∧ o.late = false

abbrev Pre.verdictActs (n key k : Nat) (o : Obj) (s : State) : Prop :=
  Pre.verdict n key o s ∧ o.entry = some k ∧ wt s < (ent s k).target

end Sys2Proof.Machine
open Sys2Proof Sys2Proof.Machine in
/-- Objects are registered, predicted and judged. An origin that a lane registers while a slot of it is free gives
an object with the next number, that origin and configuration, its degraded mark that of the detector, and its
deadline in the slot's entry at origin + object length + DEADLINE_OFS; with no slot free it gives no object. In both
cases the lane's number goes on and its run of misses ends. A predicted origin whose search window closes takes the
next number and counts as a miss (at most 255); one that lies past the lane's stop line takes no number, and ends
the search. Posting the verdict of an object whose inputs have their outcomes takes the object off the lane; where
copy B formed the same verdict, the deadline is still ahead and the action is REJECT or MARK, its entry becomes the
pulse on that action's output at origin + GATE_OFS, and with another action the entry is armed no more. (R36, R37,
R39, R46, R49, R52, R67) -/
def Obligations.Objects : Prop :=
  (∀ n origin tf det b k c old s, Pre.register n origin k c old s → Gives (.objectRegister n origin tf det b) s (fun t =>
    (∃ o ∈ (lane t n).objs, o.seq = (lane s n).nextSeq ∧ o.origin = origin ∧ o.cfg = c ∧ o.entry = some k ∧ o.tf = tf ∧ o.late = false ∧
      o.regDeg = (match det with | some x => (ctx s x).deg | none => false)) ∧
    (ent t k).armed = true ∧ (ent t k).typ = 6 ∧
    (ent t k).target = origin + lenLines (laneImg s c) * 65536 + (laneImg s c).deadlineOfs * 65536 ∧
    (lane t n).nextSeq = ((lane s n).nextSeq + 1) % 2 ^ 32 ∧ (lane t n).missRun = 0)) ∧
  (∀ n origin tf det b c old s, Pre.overrun n origin c old s → Gives (.objectRegister n origin tf det b) s (fun t =>
    (lane t n).objs = (lane s n).objs ∧ (lane t n).nextSeq = ((lane s n).nextSeq + 1) % 2 ^ 32 ∧ (lane t n).missRun = 0)) ∧
  (∀ n p b c old s, Pre.predictedMiss n p c old s → Gives (.searchWindowClose n b) s (fun t =>
    (lane t n).nextSeq = ((lane s n).nextSeq + 1) % 2 ^ 32 ∧ (lane t n).missRun = min 255 ((lane s n).missRun + 1))) ∧
  (∀ n p b c old s, Pre.lastWindow n p c old s → Gives (.searchWindowClose n b) s (fun t =>
    (lane t n).winDone = true ∧ (lane t n).nextSeq = (lane s n).nextSeq ∧ (lane t n).objs = (lane s n).objs)) ∧
  (∀ n key o s b, Pre.verdict n key o s → Gives (.verdictPost n key b) s (fun t => ∀ x ∈ (lane t n).objs, x.key ≠ key)) ∧
  (∀ n key k o s, Pre.verdictActs n key k o s → Gives (.verdictPost n key none) s (fun t =>
    let a := (combine o).action
    if a = .mark ∨ a = .reject then
      (ent t k).armed = true ∧ (ent t k).typ = 0 ∧ (ent t k).out = (if a = .mark then o.cfg.markMk else o.cfg.rejectMk) ∧
      (ent t k).len = o.img.pulse ∧ (ent t k).target = o.origin + o.img.gateOfs * 65536
    else (ent t k).armed = false))

namespace Sys2Proof.Machine

abbrev Pre.fieldMatch (n key i x : Nat) (o : Obj) (f : FieldDef) (d : Detok) (s : State) : Prop :=
  isReady s = true ∧ objOf s n key = some o ∧ detok s x = some d ∧ d.done = true ∧ (ctx s x).owes.contains (n, key, some i) = true ∧
    o.img.fields[i]? = some f ∧ f.kind = .text ∧ tget none o.fields i = none

abbrev Pre.codeStart (q : CodeReq) (o : Obj) (b : Box) (s : State) : Prop :=
  isReady s = true ∧ s.code.busy = none ∧ earliest (s.code.queue.filter (wanted s)) = some q ∧
    cropStale s q.lane q.key (some q.field) = none ∧ objOf s q.lane q.key = some o ∧ fieldBox o q.field = some b ∧ cropPoison s b = false

abbrev Pre.codeDone (q : CodeReq) (o : Obj) (f : FieldDef) (b : Box) (c : CodeSpec) (s : State) : Prop :=
  isReady s = true ∧ s.code.busy = some q ∧ objOf s q.lane q.key = some o ∧ o.img.fields[q.field]? = some f ∧
    o.img.codes[f.index]? = some c ∧ fieldBox o q.field = some b ∧ tget none o.fields q.field = none

end Sys2Proof.Machine
open Sys2Proof Sys2Proof.Machine in
/-- Text and code fields get their outcomes once. A finished text of a TEXT field gives the field the outcome of its
match and the context no longer owes the field, and nothing but lanes and contexts changes; the code unit, when
idle, drops the requests of objects no longer wanted and takes the one with the earliest deadline whose crop is
neither stale nor poisoned, and nothing else changes but the bandwidth budgets and their registers; a finished
request frees the unit and gives its field the outcome of decoding, checking and grading. (R42, R44, R45, R219,
R220, R223) -/
def Obligations.FieldOutcomes : Prop :=
  (∀ n key i x o f d s, Pre.fieldMatch n key i x o f d s → Gives (.fieldMatch n key i x) s (fun t =>
    (∃ o', objOf t n key = some o' ∧ tget none o'.fields i = some (textOut s o f d (ctx s x).deg)) ∧
    (ctx t x).owes.contains (n, key, some i) = false ∧ { t with lanes := s.lanes, ctxs := s.ctxs } = s)) ∧
  (∀ q o b s, Pre.codeStart q o b s → Gives .codeRequestStart s (fun t =>
    t.code = { queue := (s.code.queue.filter (wanted s)).erase q, busy := some q } ∧
    { t with code := s.code, hst := s.hst, regs := s.regs } = s)) ∧
  (∀ q o f b c r s, Pre.codeDone q o f b c s → Gives (.codeRequestDone r) s (fun t =>
    t.code.busy = none ∧
    ∃ o', objOf t q.lane q.key = some o' ∧ tget none o'.fields q.field = some (codeOut s o b c r).2))

namespace Sys2Proof.Machine


/-! ### The imaging front end (chapter 4) and stripe buffers (chapter 8) -/

abbrev Pre.trigFire (k : Nat) (s : State) : Prop := isReady s = true ∧ trigDue s (ent s k) = true

abbrev Pre.trigArm (c : Cmd) (start period ports k : Nat) (s : State) : Prop :=
  Taken c s ∧ start < 2 ^ 64 ∧ 1 ≤ period ∧ period < 2 ^ 32 ∧ 1 ≤ ports ∧ ports < 256 ∧ trigMask s &&& ports = 0 ∧ freeEntry s = some k

abbrev Pre.trigStop (c : Cmd) (ports : Nat) (s : State) : Prop :=
  Taken c s ∧ 1 ≤ ports ∧ ports < 256 ∧ lanesOnPorts s ports = false ∧ twf {} s.sht = true

end Sys2Proof.Machine
open Sys2Proof Sys2Proof.Machine in
/-- Line triggers are armed, fire and stop. TRIG_ARM, where no armed trigger names one of the ports, arms the lowest
free hardware entry as LINE_TRIG with START, PERIOD and the port mask and replies OK with the entry's number; a due
LINE_TRIG entry fires and re-arms at target + period, every other entry unchanged; TRIG_STOP, where no active lane's
span meets the ports, leaves no armed trigger that names one of them and replies OK. (R61, R66, R88, R286) -/
def Obligations.LineTriggers : Prop :=
  (∀ c start period ports k s, Pre.trigArm c start period ports k s → exec (.trigArm c start period ports) s =
    done c s (armHw (startGen (took c s) ports start period) k .ports false 2 0 0 ports period start) k) ∧
  (∀ k s, Pre.trigFire k s → Gives (.lineTrigFire k) s (fun t =>
    (ent t k).armed = true ∧ (ent t k).typ = 2 ∧ (ent t k).target = (ent s k).target + (ent s k).par ∧
    (∀ j, j ≠ k → ent t j = ent s j))) ∧
  (∀ c ports s, Pre.trigStop c ports s → Does (.trigStop c ports) c s 0 (fun u => trigMask u &&& ports = 0))

namespace Sys2Proof.Machine

abbrev Pre.refCapture (c : Cmd) (lines ports kind : Nat) (s : State) : Prop :=
  Taken c s ∧ captureLines lines = true ∧ 1 ≤ ports ∧ ports < 256 ∧ kind < 2

abbrev Pre.refApply (c : Cmd) (ports : Nat) (s : State) : Prop :=
  Taken c s ∧ 1 ≤ ports ∧ ports < 256 ∧ lanesOnPorts s ports = false ∧ (bitList ports 8).all (fun p => !inLine s p) = true ∧
    s.fe.applies.all (fun e => decide (e.1 ≠ s.fe.nextId)) = true

abbrev Pre.whiteTrack (g : Tab Nat) (s : State) : Prop := isReady s = true ∧ s.fe.group = some g

end Sys2Proof.Machine
open Sys2Proof Sys2Proof.Machine in
/-- Reference captures, shading and white tracking. FE_REF_CAPTURE adds a capture of its kind, lines and ports and
waits for it; FE_REF_APPLY, where no port of it is within a line, makes the active shading of the ports' pixels that
of the shadow copy; a complete group of white-tracking lines gives every band it measured a factor within the limit
around 1.0 and is used up. (R85, R86, R87) -/
def Obligations.Shading : Prop :=
  (∀ c lines ports kind s, Pre.refCapture c lines ports kind s → exec (.feRefCapture c lines ports kind) s =
    awaits c s (setFe (took c s) { s.fe with nextId := s.fe.nextId + 1, caps := s.fe.caps ++
      [{ id := s.fe.nextId, white := decide (kind = 1), lines := lines, ports := ports }] }) (.feCapture s.fe.nextId) []) ∧
  (∀ c ports s, Pre.refApply c ports s → Gives (.feRefApply c ports) s (fun t =>
    ∀ k ∈ portKeys s ports, tget (0, 0) t.fe.shade k = tget (0, 0) s.fe.shadow k)) ∧
  (∀ g s, Pre.whiteTrack g s → Gives .whiteTrackUpdate s (fun t =>
    t.fe.group = none ∧ (∀ b, b < 8 → b ∈ g.map (·.1) →
      16384 - 16 * rf s 0xC0010 25 16 ≤ t.fe.track.getD b 0 ∧ t.fe.track.getD b 0 ≤ 16384 + 16 * rf s 0xC0010 25 16) ∧
    { t with fe := s.fe, regs := s.regs } = s))

namespace Sys2Proof.Machine

/-- Port p takes samples that begin a line, for its oldest awaited line l. -/
abbrev LineHere (p : Nat) (xs : List Nat) (l : Line) (s : State) : Prop :=
  isReady s = true ∧ p < 8 ∧ spEn s p = true ∧ linkDown s p = false ∧ lineStarts s p xs = true ∧ oldest s p = some l

/-- Samples of a line of port p. -/
abbrev lineSamples (s : State) (p : Nat) : Nat := framesOfLine s p * mOf (rg s (spBase p)) * sOf (rg s (spBase p))

abbrev Pre.lineReceive (p : Nat) (xs : List Nat) (l : Line) (s : State) : Prop :=
  LineHere p xs l s ∧ lineSamples s p ≤ xs.length ∧ segOf l p ≠ some { st := .spoilt } ∧ wordsBad s p = false

abbrev Pre.lineSpoilt (p : Nat) (xs : List Nat) (l : Line) (s : State) : Prop :=
  LineHere p xs l s ∧ lineSamples s p ≤ xs.length ∧ (segOf l p = some { st := .spoilt } ∨ wordsBad s p = true)

abbrev Pre.lineShort (p : Nat) (xs : List Nat) (l : Line) (s : State) : Prop := LineHere p xs l s ∧ xs.length < lineSamples s p

abbrev Pre.lineTimeout (p : Nat) (l : Line) (s : State) : Prop :=
  isReady s = true ∧ p < 8 ∧ bit (rg s (spBase p)) 9 = false ∧ oldest s p = some l ∧ underPeriods s p 2 (dt s - l.dt) = false

abbrev Pre.crcError (p : Nat) (s : State) : Prop := isReady s = true ∧ p < 8 ∧ spEn s p = true

abbrev Pre.linkLost (p k : Nat) (s : State) : Prop :=
  isReady s = true ∧ p < 8 ∧ k < lOf (rg s (spBase p)) ∧ bit (tget 0 s.fe.down p) k = false

abbrev Pre.linkBack (p k : Nat) (s : State) : Prop := isReady s = true ∧ p < 8 ∧ bit (tget 0 s.fe.down p) k = true

abbrev Pre.sysrefArmed (s : State) : Prop := isReady s = true ∧ bit (rg s 0xC000C) 31 = true

/-- The distance of a SYSREF edge from the phase set, in counts modulo 2^16. -/
abbrev sysrefOff (s : State) (ph : Nat) : Int := ofTwos 16 (ph % 65536 + 65536 - s.fe.sysPhase)

abbrev Pre.sysrefIn (ph : Nat) (s : State) : Prop :=
  isReady s = true ∧ bit (rg s 0xC000C) 31 = false ∧ (sysrefOff s ph).natAbs ≤ rf s 0xC000C 7 0

abbrev Pre.sysrefOut (ph : Nat) (s : State) : Prop :=
  isReady s = true ∧ bit (rg s 0xC000C) 31 = false ∧ rf s 0xC000C 7 0 < (sysrefOff s ph).natAbs

end Sys2Proof.Machine
open Sys2Proof Sys2Proof.Machine in
/-- Lines arrive, fail and links go down and come back. A received line with enough samples gives the port's segment
of its oldest awaited line the shaded and tracked pixels, and sets LONG_LINE if it has more; one that draws on a
multiblock or a stored word in error makes that segment invalid; one with too few samples, and one that has not come
within twice the minimum period, makes the segment invalid and sets SHORT_LINE. A CRC error counts, sets its flag
and spoils or invalidates the port's segment in every line it touches. A link lane that loses lock invalidates every
line the port awaits and sets LINK_DOWN and the lane's bit; locking again clears that bit only. An armed SYSREF sets
the phase and disarms; an unarmed one within TOL of the phase changes nothing, and one beyond it sets SYSREF_ERR.
(R61, R81, R82, R83, R84, R85) -/
def Obligations.StripPorts : Prop :=
  (∀ p xs l s, Pre.lineReceive p xs l s → Gives (.stripLineReceive p xs) s (fun t =>
    t.fe.lines = onOldest p (fun l => setSeg p { st := .ok, px := trackPx s (shadePx s p (rawPx s p xs)) }
      { l with clamped := l.clamped || (s.fe.clamped && trackEn s) }) s.fe.lines ∧
    (lineSamples s p < xs.length → bit (rg t (spBase p + 0x10)) 3 = true))) ∧
  (∀ p xs l s, Pre.lineSpoilt p xs l s → Gives (.stripLineReceive p xs) s (fun t =>
    t.fe.lines = onOldest p (setSeg p { st := .invalid }) s.fe.lines)) ∧
  (∀ p xs l s, Pre.lineShort p xs l s → Gives (.stripLineReceive p xs) s (fun t =>
    t.fe.lines = onOldest p (setSeg p { st := .invalid }) s.fe.lines ∧ bit (rg t (spBase p + 0x10)) 2 = true)) ∧
  (∀ p l s, Pre.lineTimeout p l s → Gives (.lineStartTimeout p) s (fun t =>
    t.fe.lines = onOldest p (setSeg p { st := .invalid }) s.fe.lines ∧ bit (rg t (spBase p + 0x10)) 2 = true)) ∧
  (∀ p ls s, Pre.crcError p s → Gives (.stripCrcError p ls) s (fun t =>
    t.fe.lines = s.fe.lines.map (fun l => if ls.contains l.dt then spoil p l else l) ∧ bit (rg t (spBase p + 0x10)) 1 = true ∧
    rg t (spBase p + 0x18) = min 0xFFFFFFFF (rg s (spBase p + 0x18) + 1) ∧ { t with fe := s.fe, regs := s.regs } = s)) ∧
  (∀ p k s, Pre.linkLost p k s → Gives (.stripLinkDown p k) s (fun t =>
    t.fe.lines = s.fe.lines.map (invalidate p) ∧ bit (tget 0 t.fe.down p) k = true ∧ bit (rg t (spBase p + 0x10)) 0 = true)) ∧
  (∀ p k s, Pre.linkBack p k s → Gives (.stripLinkRelock p k) s (fun t =>
    bit (tget 0 t.fe.down p) k = false ∧ (∀ j, j ≠ k → bit (tget 0 t.fe.down p) j = bit (tget 0 s.fe.down p) j))) ∧
  (∀ ph s, Pre.sysrefArmed s → Gives (.sysrefEdge ph) s (fun t =>
    t.fe.sysPhase = ph % 65536 ∧ bit (rg t 0xC000C) 31 = false ∧ { t with fe := s.fe, regs := s.regs } = s)) ∧
  (∀ ph s, Pre.sysrefIn ph s → exec (.sysrefEdge ph) s = .next s) ∧
  (∀ ph s, Pre.sysrefOut ph s → Gives (.sysrefEdge ph) s (fun t => bit (rg t 0xC0004) 0 = true ∧ t.fe.sysPhase = s.fe.sysPhase))

namespace Sys2Proof.Machine

abbrev Pre.rasterRow (l : Line) (g : List Line) (s : State) : Prop :=
  isReady s = true ∧ readyGroup s = some (l :: g) ∧ (portsOf l).Nodup ∧ (portsOf l).all (fun p => decide (p < 8)) = true ∧
    rasterLines s ≠ 0 ∧ (l :: g).all (fun x => (portsOf l).all (fun p => decide ((segOf x p).map (·.st) = some .ok))) = true

abbrev Pre.stripeRow (b : Nat) (x : StripeBuf) (row : StripeRow) (rest : List StripeRow) (s : State) : Prop :=
  isReady s = true ∧ sb s b = some x ∧ x.queue = row :: rest

abbrev Pre.stripeRelease (b p : Nat) (x : StripeBuf) (s : State) : Prop :=
  isReady s = true ∧ sb s b = some x ∧ releaseDue s b p x = true

abbrev Pre.stripeEnable (b : Nat) (v : Word) (s : State) : Prop :=
  powered s = true ∧ b < 4 ∧ bit (rg s (sbOff b)) 31 = false ∧ bit v.toNat 31 = true ∧
    sbOk (rset s (sbOff b) (v &&& 0x07FFFFFF)) b = true

abbrev Pre.stripeDisable (b : Nat) (v : Word) (s : State) : Prop :=
  powered s = true ∧ b < 4 ∧ bit (rg s (sbOff b)) 31 = true ∧ bit v.toNat 31 = false ∧
    lanesMeet s (sbDevPx s b).1 (sbDevPx s b).2 = false

end Sys2Proof.Machine
open Sys2Proof Sys2Proof.Machine in
/-- Raster rows and stripe rows are written and released. The oldest complete group of lines becomes one raster row:
its lines are no longer held, every port's row count moves by one, and, where all segments are good, every port has
the stamps of the group's first line in the slot row mod FE_RASTER_LINES, but for a port whose row overflows its
channel's queue: that one has the stamp of an invalid row, and the channel's overflow flag is set. A stripe buffer
writes its oldest waiting row: its head moves by one, the row leaves the queue, the ready mark gains 1. A release of
a rotation position counts for it. Enabling a stripe buffer whose configuration is legal starts it with no rows, its
EN bit set; disabling it where no active lane meets its pixels removes it and clears EN. (R88, R90, R160, R161,
R162, R164) -/
def Obligations.Rows : Prop :=
  (∀ l g ovf fills s, Pre.rasterRow l g s → Gives (.rasterRowWrite ovf fills) s (fun t =>
    t.fe.lines = s.fe.lines.filter (fun x => !(l :: g).contains x) ∧
    (∀ p ∈ portsOf l, tget 0 t.fe.row p = tget 0 s.fe.row p + 1 ∧
      tget (0, 0) t.fe.stamps (tget 0 s.fe.row p % rasterLines s * 8 + p) =
        if (rowOverflow ovf (portsOf l)).map (·.1) = some p then (noStamp, noStamp) else (l.wt, l.dt)) ∧
    (∀ x, rowOverflow ovf (portsOf l) = some x → bit (rg t (0x180004 + x.2 * 0x10000)) 6 = true))) ∧
  (∀ b x row rest s, Pre.stripeRow b x row rest s → Gives (.stripeRowWrite b) s (fun t =>
    (∃ y, sb t b = some y ∧ y.head = x.head + 1 ∧ y.queue = rest) ∧
    mark t (sbRdy s b) = min (2 ^ 64 - 1) (mark s (sbRdy s b) + 1))) ∧
  (∀ b p x s, Pre.stripeRelease b p x s → Gives (.stripeRelease b p) s (fun t =>
    (∃ y, sb t b = some y ∧ tget 0 y.rel p = tget 0 x.rel p + 1 ∧ y.head = x.head ∧ y.queue = x.queue) ∧ { t with fe := s.fe } = s)) ∧
  (∀ b v s, Pre.stripeEnable b v s → Gives (.drkSbEnable b v) s (fun t =>
    (∃ y, sb t b = some y ∧ y.head = 0 ∧ y.queue = [] ∧ y.v0 = mark s (sbRdy t b)) ∧ bit (rg t (sbOff b)) 31 = true)) ∧
  (∀ b v s, Pre.stripeDisable b v s → Gives (.drkSbEnable b v) s (fun t =>
    sb t b = none ∧ bit (rg t (sbOff b)) 31 = false ∧ { t with fe := s.fe, regs := s.regs } = s))

namespace Sys2Proof.Machine

abbrev Pre.pbStart (c : Cmd) (k : Nat) (s : State) : Prop :=
  Taken c s ∧ bedMode s = true ∧ (bed s).st = .idle ∧ freeEntry s = some k

abbrev Pre.pbPause (c : Cmd) (s : State) : Prop := Taken c s ∧ (bed s).st = .moving ∧ ((bed s).ramp ≠ 0 ∨ (bed s).stepped = true)

abbrev Pre.pbResume (c : Cmd) (s : State) : Prop := Taken c s ∧ (bed s).st = .paused

abbrev Pre.stepFire (k : Nat) (s : State) : Prop :=
  isReady s = true ∧ (ent s k).armed = true ∧ (ent s k).typ = 1 ∧ (ent s k).target ≤ dt s ∧ (bed s).st ≠ .homing

abbrev Pre.stepHome (k : Nat) (s : State) : Prop :=
  isReady s = true ∧ (ent s k).armed = true ∧ (ent s k).typ = 1 ∧ (ent s k).target ≤ dt s ∧ (bed s).st = .homing

abbrev Pre.bedLine (s : State) : Prop := isReady s = true ∧ (bed s).stepped = true ∧ (bed s).readyAt ≤ dt s ∧ (bed s).st ≠ .homing

abbrev Pre.runOut (s : State) : Prop :=
  isReady s = true ∧ (bed s).st = .ending ∧ (bed s).readyAt ≤ dt s ∧ anyInflight s = true

abbrev Pre.runEnd (s : State) : Prop := isReady s = true ∧ (bed s).st = .ending ∧ anyInflight s = false ∧ (bed s).pos ≠ 0

abbrev Pre.home (s : State) : Prop := isReady s = true ∧ (bed s).st = .homing ∧ (bed s).stepped = true ∧ (bed s).readyAt ≤ dt s

end Sys2Proof.Machine
open Sys2Proof Sys2Proof.Machine in
/-- A proof-bed run. PB_START of an idle bed in PROOF_BED mode takes the lowest free entry, arms a STEP of
FE_PB_CFG.STEPS + 1 steps now, drives EN with DIR forward and replies OK; PB_PAUSE of a bed that moves above ramp
entry 0 slows it and waits; PB_RESUME of a paused bed lets it move from ramp entry 0; a STEP entry issues its steps
and frees, on the way home one group less remains; the line of a finished group advances web time and the bed by one
line; at the end of a run web time runs on line by line while an object is in flight, then DIR points home and the
bed goes home by as many groups as its run had; at home it is idle and EN falls. (R55, R66, R93, R94, R95, R286) -/
def Obligations.ProofBed : Prop :=
  (∀ c k s, Pre.pbStart c k s → Does (.pbStart c) c s 0 (fun u =>
    (bed u).st = .moving ∧ (bed u).pos = 0 ∧ (ent u k).armed = true ∧ (ent u k).typ = 1 ∧
    (ent u k).target = dt s ∧ (ent u k).len = bedSteps s ∧ u.pins.enOut = true ∧ u.pins.dirOut = false)) ∧
  (∀ c s, Pre.pbPause c s → exec (.pbPause c) s =
    awaits c s (setBed (took c s) { bed s with st := .slowing, auto := false }) .pbPause []) ∧
  (∀ c s, Pre.pbResume c s → Does (.pbResume c) c s 0 (fun u =>
    (bed u).st = .moving ∧ (bed u).ramp = 0 ∧ (bed u).pos = (bed s).pos)) ∧
  (∀ k s, Pre.stepFire k s → Gives (.stepFire k) s (fun t =>
    t.pins.stepOut = s.pins.stepOut + (ent s k).len ∧ (bed t).stepped = true ∧ ent t k = {} ∧
    { t with pins := s.pins, sht := s.sht, fe := s.fe } = s)) ∧
  (∀ k s, Pre.stepHome k s → Gives (.stepFire k) s (fun t =>
    t.pins.stepOut = s.pins.stepOut + (ent s k).len ∧ (bed t).back = (bed s).back - 1 ∧
    { t with pins := s.pins, sht := s.sht, fe := s.fe } = s)) ∧
  (∀ s, Pre.bedLine s → Gives .pbLineStep s (fun t =>
    t.tmu.line = s.tmu.line + 1 ∧ (bed t).pos = (bed s).pos + 1 ∧ (bed t).stepped = false)) ∧
  (∀ s, Pre.runOut s → Gives .pbRunEnd s (fun t =>
    t.tmu.line = s.tmu.line + 1 ∧ (bed t).st = .ending ∧ (bed t).pos = (bed s).pos)) ∧
  (∀ s, Pre.runEnd s → Gives .pbRunEnd s (fun t =>
    (bed t).st = .homing ∧ (bed t).pos = (bed s).pos ∧ (bed t).back = (bed s).pos ∧ t.pins.dirOut = true)) ∧
  (∀ s, Pre.home s → Gives .pbRunEnd s (fun t => (bed t).st = .idle ∧ (bed t).pos = (bed s).pos ∧ t.pins.enOut = false))

namespace Sys2Proof.Machine


/-! ### Memory channels (chapter 16) -/

end Sys2Proof.Machine
open Sys2Proof Sys2Proof.Machine in
/-- The DRAM address map is one-to-one and spreads runs over the channels. Device address A maps to channel 2p + h
and local address (r div 2) x 256 + o, with g = A div 256, o = A mod 256, p = g mod 3, r = g div 3 and h the
exclusive or of r's bits 0, 7, 14 and 21; the map is undone by its inverse, so it is one-to-one; below 6C, C a
multiple of 512, the channel is one of six and the local address below C; of any n granules in a row a channel
receives at most ceil(n/6) + 2. (R303) -/
def Obligations.AddressMap : Prop :=
  (∀ a, toLocal a = (2 * (a / 256 % 3) + (bit (a / 256 / 3) 0 ^^ bit (a / 256 / 3) 7 ^^ bit (a / 256 / 3) 14 ^^ bit (a / 256 / 3) 21).toNat,
                     a / 256 / 3 / 2 * 256 + a % 256)) ∧
  (∀ a, toDevice (toLocal a).1 (toLocal a).2 = a) ∧
  (∀ a k, a < 6 * (512 * k) → (toLocal a).1 < 6 ∧ (toLocal a).2 < 512 * k) ∧
  (∀ g n ch, ch < 6 → ((List.range n).filter (fun i => decide ((toLocal ((g + i) * 256)).1 = ch))).length ≤ (n + 5) / 6 + 2)

namespace Sys2Proof.Machine

abbrev Pre.refresh (n : Nat) (s : State) : Prop :=
  isReady s = true ∧ n < 6 ∧ slotTime s n ≤ dt s ∧ (n ≠ 0 ∨ hotWanted s = s.mc.hot)

abbrev Pre.refreshMode (s : State) : Prop := isReady s = true ∧ slotTime s 0 ≤ dt s ∧ hotWanted s ≠ s.mc.hot

abbrev Pre.caAlert (n : Nat) (failed : Bool) (s : State) : Prop :=
  isReady s = true ∧ n < 6 ∧ (failed = true → (chan s n).caRow ≠ 3)

abbrev Pre.caLast (n : Nat) (s : State) : Prop := isReady s = true ∧ n < 6 ∧ (chan s n).caRow = 3

abbrev Pre.crcAlert (n : Nat) (failed : Bool) (s : State) : Prop :=
  isReady s = true ∧ n < 6 ∧ (failed = true → (chan s n).wrRow ≠ 3)

abbrev Pre.crcLast (n : Nat) (s : State) : Prop := isReady s = true ∧ n < 6 ∧ (chan s n).wrRow = 3

abbrev Pre.scrub (n : Nat) (s : State) : Prop :=
  isReady s = true ∧ n < 6 ∧ bit (rg s (chanBase n + 0x50)) 31 = true ∧ raised s n = false ∧ (chan s n).scrub < s.board.chanGib * 2 ^ 24

abbrev Pre.scrubHeld (n : Nat) (s : State) : Prop := isReady s = true ∧ n < 6 ∧ raised s n = true

abbrev Pre.neighbour (n rank bank row : Nat) (s : State) : Prop :=
  isReady s = true ∧ n < 6 ∧ rank < s.board.ranks ∧ bank < 16 ∧ row < rowCount s ∧ rf s (chanBase n + 0x10) 4 0 ≠ 0 ∧
    raised s n = false

abbrev Pre.neighbourHeld (n rank bank row : Nat) (s : State) : Prop :=
  isReady s = true ∧ n < 6 ∧ rank < s.board.ranks ∧ bank < 16 ∧ row < rowCount s ∧ rf s (chanBase n + 0x10) 4 0 ≠ 0 ∧
    raised s n = true ∧ (chan s n).held.length < 64

end Sys2Proof.Machine
open Sys2Proof Sys2Proof.Machine in
/-- Refresh, replays, scrub and neighbour refresh of a channel. A refresh slot that is due counts for its channel
and changes nothing but channels; channel 0's slot takes over the hot mode wanted and starts the new pattern there,
and DRAM_HOT_N changes at the pin alone. A replayed command or burst sets its flag and counts, and counts failures
in a row; a fourth failure in a row sets CA_FAIL and takes the device out of service. While no port raises Pennant
for the channel, patrol scrub goes on to the next burst, counts an error that it corrects, and poisons a burst with
one it cannot correct and writes a fault record; and a neighbour refresh is counted and holds its bank for 91.5 ns.
While Pennant is raised, scrub does nothing and a neighbour refresh is held, where fewer than 64 are. (R305, R306,
R307, R312, R315, R316, R318, R319) -/
def Obligations.MemoryChannels : Prop :=
  (∀ n s, Pre.refresh n s → Gives (.refreshSlot n) s (fun t =>
    (chan t n).k = (chan s n).k + 1 ∧ (chan t n).slots = (chan s n).slots + 1 ∧ { t with mc := s.mc } = s)) ∧
  (∀ s, Pre.refreshMode s → Gives (.refreshSlot 0) s (fun t =>
    t.mc.hot = hotWanted s ∧ t.mc.t0 = slotTime s 0 ∧ { t with mc := s.mc } = s)) ∧
  (∀ h s, exec (.dramHotChange h) s = .next { s with pins := { s.pins with dramHot := h } }) ∧
  (∀ n b s, Pre.caAlert n b s → exec (.caParityAlert n b) s = .next (bump (flag
    (setChan s n { chan s n with caRow := if b then (chan s n).caRow + 1 else 0 }) (chanBase n + 4) 2) (chanBase n + 0x40) 1)) ∧
  (∀ n s, Pre.caLast n s → Gives (.caParityAlert n true) s (fun t => t.flt.oos = true ∧ bit (rg t (chanBase n + 4)) 4 = true)) ∧
  (∀ n b s, Pre.crcAlert n b s → exec (.wrCrcAlert n b) s = .next (bump (flag
    (setChan s n { chan s n with wrRow := if b then (chan s n).wrRow + 1 else 0 }) (chanBase n + 4) 3) (chanBase n + 0x40) 1)) ∧
  (∀ n s, Pre.crcLast n s → Gives (.wrCrcAlert n true) s (fun t => t.flt.oos = true ∧ bit (rg t (chanBase n + 4)) 4 = true)) ∧
  (∀ n errs s, Pre.scrub n s → Gives (.patrolScrub n errs) s (fun t =>
    (chan t n).scrub = ((chan s n).scrub + 1) % (s.board.chanGib * 2 ^ 24) ∧
    (errs = 1 → rg t (chanBase n + 0x30) = min 0xFFFFFFFF (rg s (chanBase n + 0x30) + 1)) ∧
    (2 ≤ errs → tget false t.poison (toDevice n ((chan s n).scrub * 64)) = true ∧ t.flt.count = s.flt.count + 1))) ∧
  (∀ n rank bank row s, Pre.neighbour n rank bank row s → Gives (.neighbourRefresh n rank bank row) s (fun t =>
    rget t (chanBase n + 0x4C) = rget s (chanBase n + 0x4C) + 1 ∧
    tget 0 (chan t n).banks (rank * 16 + bank) = 4 * dt s + 366 ∧ { t with mc := s.mc, regs := s.regs } = s)) ∧
  (∀ n errs s, Pre.scrubHeld n s → exec (.patrolScrub n errs) s = .next s) ∧
  (∀ n rank bank row s, Pre.neighbourHeld n rank bank row s → exec (.neighbourRefresh n rank bank row) s =
    .next (setChan s n { chan s n with held := (chan s n).held ++ [rank * 16 + bank] }))

namespace Sys2Proof.Machine

/-! ### Budgets, clocks, voltage, temperature (chapters 14 and 19) -/

abbrev Pre.commit (s : State) : Prop := powered s = true ∧ commitOk s = true

abbrev Pre.commitBad (s : State) : Prop := powered s = true ∧ commitOk s = false

abbrev Pre.boundary (s : State) : Prop :=
  powered s = true ∧ boundaryDue s = true ∧ twf 0 s.hst.used = true ∧ twf 0 s.hst.dram = true

/-- The budgets of `t` are those of `s` renewed at a period boundary. -/
abbrev Renewed (s t : State) : Prop :=
  (∀ c k u, k < 8 → u < 8 → unitUsed t c k u = min (unitCap s c k u) (unitUsed s c k u - unitCap s c k u)) ∧
  (∀ c, dramUsed t c = min (dramCap s c) (dramUsed s c - dramCap s c)) ∧
  (∀ e ∈ t.ctxs, e.2.held = false) ∧ t.hst.pend = false ∧ (s.hst.pend = true → t.hst.act = s.hst.next) ∧
  t.hst.period = rf s 0x60010 13 0 ∧ (∀ n, n < 8 → effAt t n = (core s n).eff) ∧
  cget t 0x60018 = (cget s 0x60018 + 1) % 2 ^ 64 ∧ { t with hst := s.hst, ctxs := s.ctxs, ctr := s.ctr, regs := s.regs } = s

end Sys2Proof.Machine
open Sys2Proof Sys2Proof.Machine in
/-- Budgets are committed and renewed. COMMIT of shadows that meet their checks takes over the shadow registers of
all 16 classes as pending and changes nothing else; of others it sets CFG_REJECT, is logged and changes nothing
else. At a period boundary the budgets are renewed, and then pictures, copies and fills that waited for a budget go
on: every unit's and every class's usage becomes what lay beyond the cap it was charged under, at most one cap; no
context is HELD; pending settings, the period register and every core's clock are taken over; the period counter
counts; nothing else changes but the registers of caps that what was carried fills. (R262, R263, R265, R270) -/
def Obligations.Budgets : Prop :=
  (∀ s, Pre.commit s → exec .hstCommit s = .next { s with hst := { s.hst with pend := true, next := shadows s } } ∧
    ∀ c, c < 16 → tget none (shadows s) c = some (shadow s c)) ∧
  (∀ s, Pre.commitBad s → exec .hstCommit s = .next (logUnsup (flag s 0x60004 1) 0 0x60000 true)) ∧
  (∀ s, Pre.boundary s → exec .hoistPeriodBoundary s = .next (releaseHeldDram (startPics (boundary s))) ∧ Renewed s (boundary s))

namespace Sys2Proof.Machine

abbrev Pre.dvfs (n : Nat) (v : Word) (s : State) : Prop :=
  powered s = true ∧ n < 8 ∧ 16 ≤ bits v.toNat 7 0 ∧ bits v.toNat 7 0 ≤ gradeMax s

abbrev Pre.dvfsBad (n : Nat) (v : Word) (s : State) : Prop :=
  powered s = true ∧ n < 8 ∧ (bits v.toNat 7 0 < 16 ∨ gradeMax s < bits v.toNat 7 0)

abbrev Pre.stopEnd (n : Nat) (s : State) : Prop :=
  powered s = true ∧ (core s n).stop = true ∧ (core s n).stopAt + 2000 ≤ dt s

abbrev Pre.avsLate (s : State) : Prop := powered s = true ∧ (List.range 8).any (fun n => overdue s (core s n)) = true

abbrev Pre.sensor (k : Nat) (s : State) : Prop := s.pins.pwrok = true ∧ s.pins.perst = false ∧ k < 12

abbrev Pre.capUpdate (s : State) : Prop := isReady s = true ∧ dt s % 1000000 = 0 ∧ s.pwr.capAt ≠ dt s

end Sys2Proof.Machine
open Sys2Proof Sys2Proof.Machine in
/-- Core clocks, the core rail and temperature. A frequency write from 0.8 GHz to the grade's maximum sets the
core's requested frequency, any other is discarded and logged. A stop that has lasted 2 microseconds ends with the
core at its new frequency and DVFS_DONE set, and with no change pending unless a write arrived meanwhile. MGT_AVS.EN
takes the written value, and clearing it commands 0.75 V; a PMBus transfer that is acknowledged stores its reading,
one that fails commands 0.75 V, stops adaptive voltage and sets AVS_FAIL. A raise the rail did not reach within 1 ms
is abandoned, with AVS_FAIL set. A sensor sample is stored and sets TEMP_WARN at or above the limit. The 1 ms update
moves every hot core's cap down by 50 MHz to 0.8 GHz at least, every cool core's up to the grade's maximum at most,
and no other. A thermal trip asserts THERMTRIP_N, makes DIR, EN_N and LSYNC inactive and changes nothing else.
(R126, R368, R369, R370, R371, R385) -/
def Obligations.ClocksAndPower : Prop :=
  (∀ n v s, Pre.dvfs n v s → Gives (.ennDvfsWrite n v) s (fun t => (core t n).freq = bits v.toNat 7 0)) ∧
  (∀ n v s, Pre.dvfsBad n v s → exec (.ennDvfsWrite n v) s = .next (logUnsup s 0 (0x200010 + n * 0x20000) true)) ∧
  (∀ n s, Pre.stopEnd n s → Gives (.dvfsStopEnd n) s (fun t =>
    (core t n).eff = (core s n).stopTo ∧ bit (rg t (0x200004 + n * 0x20000)) 0 = true ∧
    ((core s n).again = false → (core t n).stop = false ∧ (core t n).pend = false))) ∧
  (∀ b s, powered s = true → Gives (.mgtAvsWrite b) s (fun t =>
    bit (avs t) 31 = b ∧ (b = false → targetMv t = 750) ∧ { t with regs := s.regs, pwr := s.pwr } = s)) ∧
  (∀ mv io s, powered s = true → Gives (.pmbusTransfer true mv io) s (fun t => bits (avs t) 25 16 = mv % 1024)) ∧
  (∀ mv io s, powered s = true → Gives (.pmbusTransfer false mv io) s (fun t =>
    targetMv t = 750 ∧ t.pwr.avsStop = true ∧ bit (rg t 0x30) 2 = true ∧ { t with regs := s.regs, pwr := s.pwr } = s)) ∧
  (∀ s, Pre.avsLate s → Gives .avsTimeout s (fun t =>
    bit (rg t 0x30) 2 = true ∧ ∀ n, n < 8 → overdue s (core s n) = true → (core t n).pend = false)) ∧
  (∀ k code s, Pre.sensor k s → Gives (.tempSensorSample k code) s (fun t =>
    rg t (0x80 + 4 * k) = code % 65536 ∧
    ((rf s 0x28 7 0 : Int) * 256 ≤ ofTwos 16 (code % 65536) → bit (rg t 0x30) 0 = true) ∧ { t with regs := s.regs } = s)) ∧
  (∀ s, Pre.capUpdate s → Gives .thermalCapUpdate s (fun t => t.pwr.capAt = dt s ∧ ∀ n, n < 8 →
    (core t n).cap = if hot s n then (if 16 < (core s n).cap then (core s n).cap - 1 else (core s n).cap)
      else if cool s n then (if (core s n).cap < gradeMax s then (core s n).cap + 1 else (core s n).cap) else (core s n).cap)) ∧
  (∀ s, s.pins.pwrok = true → exec .thermtrip s =
    .next { s with pins := { s.pins with thermtrip := true, dirOut := false, enOut := false, lsync := 0 } })

namespace Sys2Proof.Machine

/-! ### Resets and start-up (chapters 17 and 19) -/

abbrev Pre.perst (s : State) : Prop := s.pins.pwrok = true ∧ s.pins.perst = false

abbrev Pre.unperst (s : State) : Prop := s.pins.perst = true ∧ s.pins.pwrok = true ∧ s.pins.thermtrip = false

abbrev Pre.startUp (tierC : Bool) (r : BootReport) (s : State) : Prop :=
  starting s = true ∧ s.boot.tierC = tierC ∧ (bootRom s r).boot.failCode = 0 ∧ boardOk s.flash.board = true ∧ trainBad s.flash.board r = 0

abbrev Pre.trainFails (r : BootReport) (s : State) : Prop :=
  starting s = true ∧ s.boot.tierC = false ∧ (bootRom s r).boot.failCode = 0 ∧ boardOk s.flash.board = true ∧ trainBad s.flash.board r ≠ 0

abbrev Pre.noImage (r : BootReport) (s : State) : Prop :=
  starting s = true ∧ s.boot.tierC = false ∧ r.bank0 = false ∧ r.bank1 = false ∧ s.sl.running = false

end Sys2Proof.Machine
open Sys2Proof Sys2Proof.Machine in
/-- Power, PERST_N and start-up. Power-up and PERST give every register its reset value and empty the lanes,
contexts, marks and rings; PERST keeps the fault ring, its head, count and epoch, and fuses and flash outlast both;
power-down releases the outputs and changes only pins. PERST's release starts device time at 0 and the start-up
sequence, and changes nothing else. Start-up, after PERST or in a tier C recovery, with a valid image, a legal board
configuration and no channel that fails training ends READY, with the board configuration of the flash; where
channels fail training it ends FAILED with DRAM_TRAIN and those channels in DRAM_FAIL; with no valid image the code
is NO_IMAGE, no firmware runs and the device is not ready. (R55, R341, R349, R362, R363, R364, R365) -/
def Obligations.Resets : Prop :=
  (∀ s, s.pins.pwrok = false → Gives .pwrokRise s (fun t =>
    t.pins.pwrok = true ∧ t.regs = resetRegs ∧ t.lanes = [] ∧ t.ctxs = [] ∧ t.jobs = [] ∧ t.sht = [] ∧ t.marks = {} ∧ t.sal = {} ∧
    t.flt = {} ∧ t.fuse = s.fuse ∧ t.flash = s.flash ∧ t.pending = s.pending)) ∧
  (∀ s, Gives .pwrokFall s (fun t => t.pins.pwrok = false ∧ outsHiZ t = true ∧ t.pins.enOut = false ∧ { t with pins := s.pins } = s)) ∧
  (∀ s, Pre.perst s → Gives .perstAssert s (fun t =>
    t.pins.perst = true ∧ t.regs = resetRegs ∧ t.lanes = [] ∧ t.ctxs = [] ∧ t.jobs = [] ∧ t.sht = [] ∧ t.marks = {} ∧ t.sal = {} ∧
    t.flt.ring = s.flt.ring ∧ t.flt.head = s.flt.head ∧ t.flt.count = s.flt.count ∧ t.flt.epoch = s.flt.epoch ∧ t.flt.hold = 0 ∧
    t.flt.oos = false ∧ t.fuse = s.fuse ∧ t.flash = s.flash)) ∧
  (∀ s, Pre.unperst s → exec .perstRelease s = .next { s with
    pins := { s.pins with perst := false }, tmu := { s.tmu with dt := 0 }, boot := { s.boot with stage := 1 } }) ∧
  (∀ r s, Pre.startUp false r s → Gives (.deviceReady r) s (fun t => isReady t = true ∧ t.board = s.flash.board)) ∧
  (∀ r s, Pre.startUp true r s → Gives (.tierCComplete r) s (fun t => isReady t = true ∧ t.board = s.flash.board)) ∧
  (∀ r s, Pre.trainFails r s → Gives (.deviceReady r) s (fun t =>
    t.boot.stage = 7 ∧ t.boot.failCode = 3 ∧ t.boot.dramFail = trainBad s.flash.board r ∧ isReady t = false)) ∧
  (∀ r s, Pre.noImage r s → Gives (.deviceReady r) s (fun t => t.boot.failCode = 1 ∧ isReady t = false ∧ t.sl.running = false))

namespace Sys2Proof.Machine

abbrev Pre.parityCode (q : CodeReq) (s : State) : Prop := powered s = true ∧ s.code.busy = some q

end Sys2Proof.Machine
open Sys2Proof Sys2Proof.Machine in
/-- Control-state parity. A control-state parity error of a shared block, of a memory controller (with its flag) or
of the Context store takes the device out of service; one of a core asks for a tier B of exactly that core; one of
the code unit takes its request off the unit; an uncorrectable word of the front end is noted with its pixel and
changes nothing else. (R321, R324, R325, R336) -/
def Obligations.ControlParity : Prop :=
  (∀ n s, powered s = true → Gives (.controlStateParity 4 n) s (fun t => t.flt.oos = true)) ∧
  (∀ n s, powered s = true ∧ n < 6 → Gives (.controlStateParity 5 n) s (fun t =>
    t.flt.oos = true ∧ bit (rg t (0x180004 + n * 0x10000)) 8 = true)) ∧
  (∀ n s, powered s = true → Gives (.controlStateParity 6 n) s (fun t => t.flt.oos = true)) ∧
  (∀ n s, powered s = true ∧ n < 8 → Gives (.controlStateParity 0 n) s (fun t =>
    ∃ r ∈ t.boot.tierB, r.mask = 2 ^ n ∧ r.cause = 0x0504)) ∧
  (∀ n q s, Pre.parityCode q s → Gives (.controlStateParity 2 n) s (fun t => t.code.busy = none)) ∧
  (∀ n s, powered s = true → s.fe.badWords.contains n = false →
    exec (.controlStateParity 7 n) s = .next (setFe s { s.fe with badWords := s.fe.badWords ++ [n] }))

namespace Sys2Proof.Machine


/-! ### Faults and recovery (chapter 17) -/

abbrev Pre.ctxFault (c : Nat) (i : FaultInfo) (s : State) : Prop :=
  powered s = true ∧ i.cause ∈ unitCauses ∧ (ctx s c).st ≠ .free ∧ (ctx s c).st ≠ .opened ∧ (ctx s c).st ≠ .faulted

abbrev Pre.resetDone (c : Nat) (s : State) : Prop :=
  powered s = true ∧ s.flt.resets.any (fun r => decide (r.ctx = c) && r.active) = true

abbrev Pre.watchdog (c : Nat) (s : State) : Prop :=
  isReady s = true ∧ ((ctx s c).st = .ready ∨ (ctx s c).st = .running ∨ (ctx s c).st = .waiting) ∧
    wdLimit s (ctx s c) ≤ (ctx s c).wd

abbrev Pre.halyard (s : State) : Prop :=
  isReady s = true ∧ bit (rg s 0x30000) 0 = true ∧ dt s % 10000 = 0 ∧ s.flt.scanAt ≠ dt s

end Sys2Proof.Machine
open Sys2Proof Sys2Proof.Machine in
/-- A context faults, is reset, hangs or overruns its watchdog. A fault cause that a unit raises makes a context
that is not FREE, OPEN or FAULTED already FAULTED with that cause and gives it a reset; the end of a reset leaves
the context OPEN with no reset of it left; an expired watchdog faults the context with WATCHDOG, or with kill-zone
mode on asks for a tier B of its core unless one of this context is in hand; a Halyard scan notes its time, and with
no knot known from the scan before changes nothing but the fault unit. (R324, R326, R327, R328, R331, R333, R340) -/
def Obligations.ContextFaults : Prop :=
  (∀ c i s, Pre.ctxFault c i s → Gives (.contextFault c i) s (fun t =>
    (ctx t c).st = .faulted ∧ (ctx t c).cause = i.cause ∧ (∃ r ∈ t.flt.resets, r.ctx = c))) ∧
  (∀ c s, Pre.resetDone c s → Gives (.contextResetComplete c) s (fun t =>
    (ctx t c).st = .opened ∧ (∀ r ∈ t.flt.resets, r.ctx ≠ c))) ∧
  (∀ c s, Pre.watchdog c s → bit (rg s 0x30000) 1 = false → Gives (.watchdogExpiry c) s (fun t =>
    (ctx t c).st = .faulted ∧ (ctx t c).cause = 0x0402)) ∧
  (∀ c s, Pre.watchdog c s → bit (rg s 0x30000) 1 = true → Gives (.watchdogExpiry c) s (fun t =>
    ∃ r ∈ t.boot.tierB, r.ctx = some c)) ∧
  (∀ s, Pre.halyard s → Gives .halyardScan s (fun t => t.flt.scanAt = dt s ∧ (s.flt.knots = [] → { t with flt := s.flt } = s)))

namespace Sys2Proof.Machine

abbrev Pre.readbackSame (n : Nat) (pad : Bool) (s : State) : Prop :=
  s.pins.pwrok = true ∧ n < 16 ∧ (pad = cmdLevel s n ∨ outsHiZ s = true)

/-- Since when the pad of output n differs from its command, and whether that has been raised. -/
abbrev misAt (s : State) (n : Nat) : Nat × Bool := (tget none s.tmu.mis n).getD (dt s, false)

abbrev Pre.readbackSettles (n : Nat) (pad : Bool) (s : State) : Prop :=
  s.pins.pwrok = true ∧ n < 16 ∧ pad ≠ cmdLevel s n ∧ outsHiZ s = false ∧
    ((misAt s n).2 = true ∨ dt s ≤ max (misAt s n).1 (edgeAt s n) + 200)

abbrev Pre.readbackWrong (n : Nat) (pad : Bool) (s : State) : Prop :=
  s.pins.pwrok = true ∧ n < 16 ∧ pad ≠ cmdLevel s n ∧ outsHiZ s = false ∧
    (misAt s n).2 = false ∧ max (misAt s n).1 (edgeAt s n) + 200 < dt s

abbrev Pre.ringDown (s : State) : Prop := powered s = true ∧ s.ring.trained = true

end Sys2Proof.Machine
open Sys2Proof Sys2Proof.Machine in
/-- Marker readback, the Shutter table, the ring and marker holds. A pad that reads as its output is commanded, or
reads while the outputs are released, ends a mismatch; one that differs for no more than 200 ns since then and since
the last commanded edge, or that has been raised already, is noted; in both cases nothing else changes. A pad that
has differed for longer sets MK_FAULT and the output's readback flag. A mismatch of the Shutter table's copies takes
the device out of service, and every output that only the other copy commands active is driven active. Ring links
that fail are no longer up, every other link stays as it was, and RING_ERR's flag is set if one that was up has
failed. FORCE_COARSE takes the written value; a write of FLT_MK_HOLD clears exactly the bits written as 1 and
changes nothing else. (R71, R74, R191, R201, R342) -/
def Obligations.SharedFaults : Prop :=
  (∀ n pad s, Pre.readbackSame n pad s → exec (.markerReadback n pad) s =
    .next (setMis { s with pins := { s.pins with pads := putBit s.pins.pads n pad } } n none)) ∧
  (∀ n pad s, Pre.readbackSettles n pad s → exec (.markerReadback n pad) s =
    .next (setMis { s with pins := { s.pins with pads := putBit s.pins.pads n pad } } n (some (misAt s n)))) ∧
  (∀ n pad s, Pre.readbackWrong n pad s → Gives (.markerReadback n pad) s (fun t =>
    bit (rg t 0x20004) 5 = true ∧ bit (rg t 0x20048) n = true ∧ t.pins.pads = putBit s.pins.pads n pad)) ∧
  (∀ outs s, powered s = true → Gives (.dupMismatch outs) s (fun t =>
    t.flt.oos = true ∧ bit (rg t 0x20004) 6 = true ∧ ∀ n, n < 16 → bit outs n = true → outActive t n = true)) ∧
  (∀ links retries s, Pre.ringDown s → Gives (.ringLinkDown links retries) s (fun t =>
    (∀ k, k < 8 → bit t.ring.up k = (bit s.ring.up k && !links.testBit k)) ∧
    ((∃ k, k < 8 ∧ links.testBit k = true ∧ linkUp s k = true) → bit (rg t 0x70004) 0 = true))) ∧
  (∀ b s, powered s = true → Gives (.forceCoarseWrite b) s (fun t => bit (rg t 0x70000) 0 = b)) ∧
  (∀ v s, powered s = true → Gives (.fltMkHoldClear v) s (fun t =>
    (∀ n, n < 16 → bit t.flt.hold n = (bit s.flt.hold n && !bit v.toNat n)) ∧
    { t with flt := { t.flt with hold := s.flt.hold } } = s))

namespace Sys2Proof.Machine


/-! ### Management, Safelight, recovery (chapters 15, 17 and 18) -/

/-- Safelight takes the command at once. -/
abbrev Pre.mgmt (i : Instr) (c : Cmd) (s : State) : Prop :=
  Taken c s ∧ s.boot.tierM = false ∧ slTakes s i = true ∧ s.sl.mgq = []

abbrev Pre.fwStage (c : Cmd) (src len b : Nat) (ok : Bool) (s : State) : Prop :=
  Pre.mgmt (.fwStage c src len b ok) c s ∧ rangeOk s src len = true ∧ len ≤ 2097152 ∧ b < 2 ∧ b ≠ s.sl.bank ∧
    hostFail c [src] = false ∧ readsPoison s src len = false

abbrev Pre.fwActivate (c : Cmd) (b : Nat) (s : State) : Prop :=
  Pre.mgmt (.fwActivate c b) c s ∧ b < 2 ∧ bankOk s b = true ∧ (bankAt s b).handover = s.sl.handover

abbrev Pre.boardCfg (c : Cmd) (src len : Nat) (cfg : Board) (s : State) : Prop :=
  Pre.mgmt (.boardCfg c src len cfg) c s ∧ rangeOk s src len = true ∧ len ≤ 57344 ∧ hostFail c [src] = false ∧
    readsPoison s src len = false

end Sys2Proof.Machine
open Sys2Proof Sys2Proof.Machine in
/-- Identity, images, boot bank and board configuration. DEV_INFO replies with MGT_ID and the running firmware;
FW_STAGE writes the bytes over the other bank, which becomes valid exactly if the image verifies, and replies OK or
BAD_IMAGE so; FW_ACTIVATE of a valid bank whose handover version matches begins a swap to it and waits; BOOT_BANK of
a valid bank writes both selector copies, of another bank none (BAD_IMAGE); BOARD_CFG writes the board
configuration; nothing else changes but the bandwidth that the two transfers charge to class 5. (R5, R286, R348,
R349, R350, R351) -/
def Obligations.FirmwareCommands : Prop :=
  (∀ c s, Pre.mgmt (.devInfo c) c s → exec (.devInfo c) s = replied c s (took c s) stOk
    (0x81600011 + s.fuse.speed % 16 * 4096 + s.fuse.temp % 16 * 256) (3 + s.sl.bank * 256 + s.sl.fwVer % 2 ^ 32 * 65536)) ∧
  (∀ c src len b ok s, Pre.fwStage c src len b ok s → exec (.fwStage c src len b ok) s =
    let bs := rdBytes s src len ++ (bankAt s b).bytes.drop len
    let good := imgHeaderOk bs && ok && decide (s.fuse.svnMin ≤ le bs 0xC 1)
    replied c s (setBank (chargeMgmt (took c s) src len) b (bankOf bs good)) (if good then stOk else stBadImage) 0 0) ∧
  (∀ c b s, Pre.fwActivate c b s → Gives (.fwActivate c b) s (fun t =>
    t.sl.swap = some b ∧ t.sal.flights = s.sal.flights ++ [{ flightOf c s with await := .fwActivate }] ∧
    { t with sl := s.sl, sal := s.sal } = s)) ∧
  (∀ c b s, Pre.mgmt (.bootBank c b) c s → b < 2 → exec (.bootBank c b) s =
    if bankOk s b then done c s { took c s with flash := { s.flash with sel0 := b, sel1 := b } } 0
    else replied c s (took c s) stBadImage 0 0) ∧
  (∀ c src len cfg s, Pre.boardCfg c src len cfg s → exec (.boardCfg c src len cfg) s =
    done c s { chargeMgmt (took c s) src len with flash := { s.flash with board := cfg } } 0)

namespace Sys2Proof.Machine

abbrev Pre.tierB (c : Cmd) (m : Nat) (s : State) : Prop := Pre.mgmt (.devRecover c 1 m) c s ∧ 0 < m ∧ m < 256

abbrev Pre.laneRestore (c : Cmd) (n : Nat) (s : State) : Prop :=
  Pre.mgmt (.laneRestore c n) c s ∧ n < 32 ∧ (lane s n).st = .outOfService ∧ inflight (lane s n) = 0

abbrev Pre.escCfg (c : Cmd) (a b d e : Nat) (s : State) : Prop :=
  Pre.mgmt (.escCfg c a b d e) c s ∧ 1 ≤ a ∧ a ≤ 64 ∧ 1 ≤ b ∧ b ≤ 600 ∧ 1 ≤ d ∧ d ≤ 256 ∧ 1 ≤ e ∧ e ≤ 3600

abbrev Pre.tierBDone (r : TierBRun) (s : State) : Prop :=
  slAvail s = true ∧ s.boot.tierB.find? (tierBDue s) = some r ∧ s.sl.mgq = []

end Sys2Proof.Machine
open Sys2Proof Sys2Proof.Machine in
/-- Recovery tiers B and C, lane restore and escalation limits. DEV_RECOVER of tier B puts its cores under recovery,
of tier C begins a new epoch with the lanes, contexts and rings gone and the fault ring kept; when the resets of a
tier B have ended its run is over and its cores' queues are empty; LANE_RESTORE of an out-of-service lane with no
object in flight makes it STOPPED with its hold gone; ESC_CFG sets the four limits and changes nothing else. (R286,
R334, R337, R339, R341) -/
def Obligations.Recovery : Prop :=
  (∀ c m s, Pre.tierB c m s → Gives (.devRecover c 1 m) s (fun t => ∃ r ∈ t.boot.tierB, r.mask = m ∧ r.started = true)) ∧
  (∀ c m s, Pre.mgmt (.devRecover c 2 m) c s → Gives (.devRecover c 2 m) s (fun t =>
    t.boot.tierC = true ∧ t.boot.stage = 1 ∧ t.flt.epoch = s.flt.epoch + 1 ∧ t.flt.count = s.flt.count + 1 ∧ t.lanes = [] ∧
    t.ctxs = [] ∧ t.sal.sq = [] ∧ t.sal.flights = [] ∧ t.flt.resets = [] ∧ t.flt.oos = false)) ∧
  (∀ r s, Pre.tierBDone r s → Gives .tierBComplete s (fun t =>
    t.boot.tierB = s.boot.tierB.filter (fun x => decide (x ≠ r)) ∧
    (∀ n, n < 8 → bit r.mask n = true → (core t n).q = [] ∧ (core t n).cur = none))) ∧
  (∀ c n s, Pre.laneRestore c n s → Does (.laneRestore c n) c s 0 (fun u =>
    (lane u n).st = .stopped ∧ (lane u n).oosHold = false ∧ tget [] u.flt.laneEv n = [])) ∧
  (∀ c a b d e s, Pre.escCfg c a b d e s → exec (.escCfg c a b d e) s =
    done c s { took c s with flt := { s.flt with laneN := a, laneS := b, devN := d, devS := e } } 0)

namespace Sys2Proof.Machine

abbrev Pre.colourCal (c : Cmd) (origin chart out a b : Nat) (x : Chart) (s : State) : Prop :=
  Pre.mgmt (.colourCal c origin chart out a b x) c s ∧ rangeOk s chart 1 = true ∧ rangeOk s out (32 + 4 * x.patches.length) = true ∧
    a ≤ b ∧ b < 65536 ∧ hostFail c [chart] = false ∧ readsPoison s chart 1 = false ∧ overlapsActive s 32 a b = false ∧
    s.fe.wins.length + x.patches.length ≤ 1024 ∧ s.fe.charts = []

abbrev Pre.chartBusy (c : Cmd) (origin chart out a b : Nat) (x : Chart) (s : State) : Prop :=
  Taken c s ∧ s.boot.tierM = false ∧ rangeOk s chart 1 = true ∧ rangeOk s out (32 + 4 * x.patches.length) = true ∧
    a ≤ b ∧ b < 65536 ∧ hostFail c [chart] = false ∧ readsPoison s chart 1 = false ∧ overlapsActive s 32 a b = true

abbrev Pre.chartFit (r : ChartRun) (s : State) : Prop :=
  chartNow s = some r ∧ slAvail s = true ∧ (chartWins s r).all (·.done) = true ∧ s.sl.mgq = []

end Sys2Proof.Machine
open Sys2Proof Sys2Proof.Machine in
/-- Chart calibration. COLOUR_CAL over a span that no active lane holds, with room for its patches, where Safelight
takes it at once and no other chart is held, reserves one window for each patch, takes the chart in hand and waits,
and changes nothing else; over a span that an active lane holds it replies LANE_OVERLAP and changes nothing; once
every window of the chart in hand has closed the fit ends the run, and no window of that chart is left. (R230, R231,
R286) -/
def Obligations.ChartCalibration : Prop :=
  (∀ c origin chart out a b x s, Pre.colourCal c origin chart out a b x s → exec (.colourCal c origin chart out a b x) s =
    awaits c s (setFe (took c s) { s.fe with
      wins := s.fe.wins ++ x.patches.mapIdx (chartWin s origin a s.fe.chartKey x), chartKey := s.fe.chartKey + 1,
      charts := [{ key := s.fe.chartKey, out := out, patches := x.patches, begun := true }] }) .colourCal []) ∧
  (∀ c origin chart out a b x s, Pre.chartBusy c origin chart out a b x s → exec (.colourCal c origin chart out a b x) s =
    replied c s (took c s) stLaneOverlap 0 0) ∧
  (∀ r s, Pre.chartFit r s → Gives .colourCalFit s (fun t =>
    t.fe.charts = s.fe.charts.filter (fun q => decide (q.key ≠ r.key)) ∧
    t.fe.wins = s.fe.wins.filter (fun w => w.lane.isSome || decide (w.key ≠ r.key))))

namespace Sys2Proof.Machine

abbrev Pre.swapEnds (b at' : Nat) (s : State) : Prop :=
  powered s = true ∧ s.sl.swap = some b ∧ s.sl.swapAt = some at' ∧ s.sl.mgq = []

abbrev Pre.swapGood (b at' : Nat) (s : State) : Prop := Pre.swapEnds b at' s ∧ bankOk s b = true

abbrev Pre.swapBad (ok : Bool) (b at' : Nat) (s : State) : Prop := Pre.swapEnds b at' s ∧ (ok && bankOk s b) = false

abbrev Pre.swapLate (at' : Nat) (s : State) : Prop :=
  powered s = true ∧ s.sl.swapAt = some at' ∧ at' + 160000000 ≤ s.flt.clock

abbrev Pre.slWdog (s : State) : Prop := slAvail s = true ∧ s.sl.lastKick + s.sl.limit * 1000000 ≤ s.flt.clock

abbrev Pre.lockstep (s : State) : Prop := powered s = true ∧ s.sl.running = true ∧ s.boot.tierM = false

abbrev Pre.tierMDone (s : State) : Prop := powered s = true ∧ s.boot.tierM = true ∧ s.sl.mgq = []

end Sys2Proof.Machine
open Sys2Proof Sys2Proof.Machine in
/-- Firmware swaps, the heartbeat, the Safelight watchdog and tier M. A swap that ends well, with a bank that is
still valid, runs the new bank, ends the swap and advances the heartbeat; one that fails, whose bank is no longer
valid, or has not ended 160 ms after the handover, an expired watchdog and a lockstep mismatch each begin tier M,
counted, with no swap in hand and the bank unchanged; tier M ends when its bank is reloaded; a heartbeat counts by
one and restarts the watchdog. (R338, R345, R346, R351, R352) -/
def Obligations.SafelightRuns : Prop :=
  (∀ b a s, Pre.swapGood b a s → Gives (.fwSwapComplete true) s (fun t =>
    t.sl.bank = b ∧ t.sl.swap = none ∧ t.sl.swapAt = none ∧ t.sl.fwVer = (bankAt s b).fwVer ∧ rget t 0x10 = rget s 0x10 + 1)) ∧
  (∀ ok b a s, Pre.swapBad ok b a s → Gives (.fwSwapComplete ok) s (fun t =>
    t.boot.tierM = true ∧ t.sl.swap = none ∧ t.sl.bank = s.sl.bank ∧ bit (rg t 0x4) 3 = true)) ∧
  (∀ a s, Pre.swapLate a s → Gives .fwSwapTimeout s (fun t =>
    t.boot.tierM = true ∧ t.sl.swap = none ∧ t.sl.bank = s.sl.bank ∧ bit (rg t 0x4) 3 = true)) ∧
  (∀ s, Pre.slWdog s → Gives .safelightWdog s (fun t =>
    t.boot.tierM = true ∧ t.flt.tierM = min 0xFFFFFFFF (s.flt.tierM + 1) ∧ t.sl.swap = none ∧ bit (rg t 0x4) 0 = true)) ∧
  (∀ s, Pre.lockstep s → Gives .safelightLockstep s (fun t =>
    t.boot.tierM = true ∧ t.flt.tierM = min 0xFFFFFFFF (s.flt.tierM + 1) ∧ t.sl.swap = none ∧ bit (rg t 0x4) 1 = true)) ∧
  (∀ s, Pre.tierMDone s → Gives .tierMComplete s (fun t => t.boot.tierM = false ∧ t.sl.lastKick = s.flt.clock)) ∧
  (∀ s, slAvail s = true → exec .firmwareHeartbeat s = .next { s with
    regs := tset 0 s.regs 0x10 (rget s 0x10 + 1), sl := { s.sl with lastKick := s.flt.clock, limit := rf s 0x1C 9 0 } })

namespace Sys2Proof.Machine


/-! ### Contexts, sequences and ring groups (chapters 9, 10 and 14) -/

abbrev Pre.ctxOpen (c : Cmd) (desc n : Nat) (s : State) : Prop :=
  Given c s ∧ MayName c n ∧ desc < 2 ^ 64 ∧ n < 0x4000 ∧ desc % 64 = 0 ∧ devRangeOk s desc 1024 = true ∧
    (poisonIn s desc 1024).isSome = false ∧ ctxDescOk s (flightOf c s) desc n = true ∧ (ctx s n).st = .free ∧
    (placedWith s (ctxAt s desc).core).length < 4096

/-- The caption block that a launch of context `n` reads passes its checks (R210). -/
abbrev CaptionFit (s : State) (n : Nat) : Prop := (ctx s n).caption = false ∨ launchCapOk s ((ctx s n).desc + 0x100) = true

abbrev Pre.ctxLaunch (c : Cmd) (n : Nat) (s : State) : Prop :=
  Given c s ∧ MayName c n ∧ n < 0x4000 ∧ (ctx s n).st = .opened ∧ CaptionFit s n ∧
    (∀ e ∈ s.sht, e.2.par % 0x4000 = n → launchDue s e.2 = false)

abbrev Pre.ctxLaunchBad (c : Cmd) (n : Nat) (s : State) : Prop :=
  Given c s ∧ MayName c n ∧ n < 0x4000 ∧ (ctx s n).st = .opened ∧ (ctx s n).caption = true ∧
    launchCapOk s ((ctx s n).desc + 0x100) = false ∧ (∀ e ∈ s.sht, e.2.par % 0x4000 = n → launchDue s e.2 = false)

abbrev Pre.launchDue (k : Nat) (s : State) : Prop :=
  isReady s = true ∧ (ent s k).armed = true ∧ (ent s k).typ = 3 ∧
    (ent s k).target ≤ (if (ent s k).dev then dt s else wt s)

abbrev Pre.launchHit (k : Nat) (s : State) : Prop :=
  Pre.launchDue k s ∧ (ctx s ((ent s k).par % 0x4000)).st = .opened ∧ 0x1000 ≤ (ent s k).par % 0x4000 ∧
    CaptionFit s ((ent s k).par % 0x4000)

abbrev Pre.launchMiss (k : Nat) (s : State) : Prop :=
  Pre.launchDue k s ∧ ((ctx s ((ent s k).par % 0x4000)).st ≠ .opened ∨ (ent s k).par % 0x4000 < 0x1000)

end Sys2Proof.Machine
open Sys2Proof Sys2Proof.Machine in
/-- Contexts are opened and launched. CTX_OPEN of a free context, by a descriptor that passes its checks, makes the
context OPEN with the descriptor's content (and, where the device gives the command, the lanes, inputs and
adaptation that it names) and replies OK; CTX_LAUNCH of an OPEN context for which no Shutter launch is due, and
whose caption block, if it has one, passes, makes it READY at the start of its program with the four counts of the
command, and changes no other context and nothing else but the searches of its sequences and its place in the
Caption unit; a caption block that fails makes it FAULTED with cause 0x0106 (the status ABORTED of that reply is the
model's choice, notes/assumptions/62.md); a due CTX_LAUNCH entry frees itself, keeping the words the host wrote, and
launches an OPEN host context whose caption block, if it has one, passes with counts of zero, and for a context that
is not OPEN, or is the device's, flags LAUNCH_MISS and changes no context. (R210, R252, R253, R254, R256) -/
def Obligations.ContextsBegin : Prop :=
  (∀ c desc n s, Pre.ctxOpen c desc n s → exec (.ctxOpen c desc n) s =
    done c s (setCtx (began c s) n { ctxAt s desc with
      st := .opened, cap := if (ctxAt s desc).caption then captionAt s (desc + 0x100) else {},
      lanes := if c.dev then c.lanes else 0, owes := if c.dev then c.owes else [], ad := if c.dev then c.ad else none,
      sample := if c.dev then c.sample else none }) 0) ∧
  (∀ c a0 a1 a2 a3 n s, Pre.ctxLaunch c n s → Does (.ctxLaunch c a0 a1 a2 a3 n) c s 0 (fun u =>
    (ctx u n).st = .ready ∧ (ctx u n).pc = (ctx s n).prog ∧
    (ctx u n).cnt = [a0 % 2 ^ 32, a1 % 2 ^ 32, a2 % 2 ^ 32, a3 % 2 ^ 32] ∧ (∀ m, m ≠ n → ctx u m = ctx s m) ∧
    { u with ctxs := s.ctxs, kv := s.kv, cap := s.cap } = began c s)) ∧
  (∀ c a0 a1 a2 a3 n s, Pre.ctxLaunchBad c n s → ∃ u, exec (.ctxLaunch c a0 a1 a2 a3 n) s = replied c s u stAborted 0 0 ∧
    (ctx u n).st = .faulted ∧ (ctx u n).cause = 0x0106) ∧
  (∀ k s, Pre.launchHit k s → Gives (.ctxLaunchFire k) s (fun t =>
    let n := (ent s k).par % 0x4000
    ent t k = freeHost (ent s k) ∧ (ctx t n).st = .ready ∧ (ctx t n).pc = (ctx s n).prog ∧ (ctx t n).cnt = [0, 0, 0, 0] ∧
    (∀ m, m ≠ n → ctx t m = ctx s m))) ∧
  (∀ k s, Pre.launchMiss k s → Gives (.ctxLaunchFire k) s (fun t =>
    ent t k = freeHost (ent s k) ∧ bit (rg t 0x50004) 0 = true ∧ t.ctxs = s.ctxs))

namespace Sys2Proof.Machine

abbrev Pre.ctxStop (c : Cmd) (n : Nat) (s : State) : Prop :=
  Given c s ∧ MayName c n ∧ n < 0x4000 ∧ ((ctx s n).st = .ready ∨ (ctx s n).st = .running ∨ (ctx s n).st = .waiting)

abbrev Pre.ctxResume (c : Cmd) (n : Nat) (s : State) : Prop :=
  Given c s ∧ MayName c n ∧ n < 0x4000 ∧ (ctx s n).st = .stopped

abbrev Pre.ctxClose (c : Cmd) (n : Nat) (s : State) : Prop :=
  Given c s ∧ MayName c n ∧ n < 0x4000 ∧ (ctx s n).st = .opened

abbrev Pre.ctxAbort (c : Cmd) (n : Nat) (s : State) : Prop :=
  Given c s ∧ MayName c n ∧ n < 0x4000 ∧
    ((ctx s n).st = .ready ∨ (ctx s n).st = .running ∨ (ctx s n).st = .waiting ∨ (ctx s n).st = .stopped)

abbrev Pre.ctxDenied (c : Cmd) (n : Nat) (s : State) : Prop := Taken c s ∧ n < 0x1000

end Sys2Proof.Machine
open Sys2Proof Sys2Proof.Machine in
/-- Contexts are stopped, resumed, closed and aborted. CTX_STOP of a READY, RUNNING or WAITING context with nothing
in flight whose program has not ended makes it STOPPED, holding its state, and replies OK; otherwise it notes the
stop and waits. CTX_RESUME of a STOPPED context gives it the state it held, READY if it waited on a mark that has
meanwhile reached its value, and changes no other context. CTX_CLOSE of an OPEN context frees it and closes its
sequences, and changes no other context. CTX_ABORT of a context that is neither FREE, OPEN nor FAULTED faults it
with cause 0x0501. A host CTX_STOP, CTX_RESUME, CTX_CLOSE, CTX_ABORT or CTX_LAUNCH that names a device context is
DENIED with no effect. (R252, R255, R286) -/
def Obligations.ContextsEnd : Prop :=
  (∀ c n s, Pre.ctxStop c n s → inFlight s n = false → (ctx s n).ended = false → exec (.ctxStop c n) s =
    done c s (setCtx (began c s) n { ctx s n with st := .stopped, prevSt := (ctx s n).st, stopReq := false }) 0) ∧
  (∀ c n s, Pre.ctxStop c n s → (inFlight s n = true ∨ (ctx s n).ended = true) → exec (.ctxStop c n) s =
    awaits c s (setCtx (began c s) n { ctx s n with stopReq := true }) (.ctxStop n) [n]) ∧
  (∀ c n s, Pre.ctxResume c n s → Does (.ctxResume c n) c s 0 (fun u =>
    (∀ m v, (ctx s n).prevSt = .waiting → (ctx s n).wait = some (.mark m v) → v ≤ mark s m → (ctx u n).st = .ready) ∧
    (((ctx s n).prevSt ≠ .waiting ∨ ∀ m v, (ctx s n).wait = some (.mark m v) → mark s m < v) → (ctx u n).st = (ctx s n).prevSt) ∧
    (∀ m, m ≠ n → ctx u m = ctx s m) ∧ { u with ctxs := s.ctxs } = began c s)) ∧
  (∀ c n s, Pre.ctxClose c n s → Does (.ctxClose c n) c s 0 (fun u =>
    ctx u n = {} ∧ (∀ m, m ≠ n → ctx u m = ctx s m) ∧ (∀ k, k / 1024 = n → seq u k = none))) ∧
  (∀ c n s, Pre.ctxAbort c n s → Gives (.ctxAbort c n) s (fun t => (ctx t n).st = .faulted ∧ (ctx t n).cause = 0x0501)) ∧
  (∀ c n a0 a1 a2 a3 s i, Pre.ctxDenied c n s →
    i ∈ [Instr.ctxStop c n, .ctxResume c n, .ctxClose c n, .ctxAbort c n, .ctxLaunch c a0 a1 a2 a3 n] → exec i s = replied c s (took c s) stDenied 0 0)

namespace Sys2Proof.Machine

abbrev seqDec (s : State) (param : Nat) : Option Decode :=
  if rdLe s (param + 0x20) 8 = 0 then none else some (decOfParam (rdBytes s (rdLe s (param + 0x20) 8) 64))

abbrev seqBeam (s : State) (param : Nat) : Nat := match seqDec s param with | some d => d.beam | none => 1

abbrev Pre.seqOpen (c : Cmd) (param n k : Nat) (s : State) : Prop :=
  Given c s ∧ MayName c n ∧ param < 2 ^ 64 ∧ n < 0x4000 ∧ rangeOk s param 64 = true ∧ c.hostErr = false ∧
    readsPoison s param 64 = false ∧ seqRangeOk s (rdBytes s param 64) = true ∧
    (rdLe s (param + 0x20) 8 = 0 ∨ (rangeOk s (rdLe s (param + 0x20) 8) 64 = true ∧
      readsPoison s (rdLe s (param + 0x20) 8) 64 = false ∧
      decRangeOk s (seqOfParam s (rdBytes s param 64)).paged (rdBytes s (rdLe s (param + 0x20) 8) 64) = true)) ∧
    k + seqBeam s param ≤ 1024 ∧ k < 1024 ∧ (ctx s n).st ≠ .free ∧ (∀ i, i < seqBeam s param → seq s (seqKey n (k + i)) = none)

abbrev Pre.seqClose (c : Cmd) (n k : Nat) (q : Seq) (s : State) : Prop :=
  Given c s ∧ MayName c n ∧ n < 0x4000 ∧ k < 1024 ∧ seq s (seqKey n k) = some q ∧ q.leader = k ∧
    (∀ i, i < beamOf q → (seq s (seqKey n (k + i))).all (fun r => !r.inStep) = true)

/-- The command edits sequence `q` of number `k` of context `n`, the leader of its group (R180, R183). -/
abbrev Pre.ptEdit (c : Cmd) (m n k : Nat) (q : Seq) (s : State) : Prop :=
  Given c s ∧ MayName c n ∧ m < 2 ^ 32 ∧ n < 0x4000 ∧ k < 1024 ∧ seq s (seqKey n k) = some q ∧ q.leader = k

abbrev Pre.ptShare (c : Cmd) (m n k srcC srcK : Nat) (a q : Seq) (s : State) : Prop :=
  Pre.ptEdit c m n k q s ∧ srcC < 0x4000 ∧ srcK < 1024 ∧ seq s (seqKey srcC srcK) = some a ∧ a.leader = srcK ∧
    shareBad s m q (some a) = none

abbrev Pre.ptTruncate (c : Cmd) (m n k : Nat) (q : Seq) (s : State) : Prop := Pre.ptEdit c m n k q s ∧ m ≤ q.maxLen

/-- The sequence is edited to the lengths `len` in a new generation. -/
abbrev Edited (q : Seq) (s u : State) (key : Nat) (len : List Nat) (pt : Nat → Option Nat → Prop) : Prop :=
  (∃ r, seq u key = some r ∧ r.gen = (q.gen + 1) % 2 ^ 32 ∧ r.len = len ∧ ∀ b, pt b (tget none r.pt b)) ∧
  (∀ j, j ≠ key → seq u j = seq s j)

/-- The state in which the edit is kept for the step boundary of the sequence, and DEFER is set. -/
abbrev kept (s : State) (key : Nat) (q : Seq) (e : KvEdit) : State :=
  flag (setSeq s key (some { q with defer := q.defer ++ [e] })) 0x80004 0

end Sys2Proof.Machine
open Sys2Proof Sys2Proof.Machine in
/-- Sequences are opened, edited and closed. SEQ_OPEN of free numbers of an open context, by a property block that
passes its checks, opens the sequence and its beam partners with the block's properties, the first with the decode
block, and changes nothing else but the sequences; SEQ_CLOSE of a group none of whose members is in a step closes
every member and no other sequence; of a sequence that is not in a step, PT_EDIT SHARE gives an empty one the length
N and the source's frames for its first ceil(N / 64) blocks, TRUNCATE limits every layer's length to N and keeps no
block at or beyond N, RELEASE leaves it empty, each with a new generation as RESULT and no other sequence changed;
an edit of a sequence in a step is kept for its boundary, sets DEFER and replies DEFERRED. (R166, R180, R181, R183,
R190, R287) -/
def Obligations.Sequences : Prop :=
  (∀ c param n k s, Pre.seqOpen c param n k s → Does (.seqOpen c param n k) c s 0 (fun u =>
    (∀ i, i < seqBeam s param → seq u (seqKey n (k + i)) = some { seqOfParam s (rdBytes s param 64) with
      leader := k, dec := if i = 0 then seqDec s param else none }) ∧
    (∀ j, (∀ i, i < seqBeam s param → j ≠ seqKey n (k + i)) → seq u j = seq s j) ∧ { u with kv := s.kv } = began c s)) ∧
  (∀ c n k q s, Pre.seqClose c n k q s → Does (.seqClose c n k) c s 0 (fun u =>
    (∀ i, i < beamOf q → seq u (seqKey n (k + i)) = none) ∧
    (∀ j, (∀ i, i < beamOf q → j ≠ seqKey n (k + i)) → seq u j = seq s j))) ∧
  (∀ c m n k srcC srcK a q s, Pre.ptShare c m n k srcC srcK a q s → q.inStep = false →
    Does (.ptEdit c m n k srcC srcK 0) c s ((q.gen + 1) % 2 ^ 32) (fun u =>
      Edited q s u (seqKey n k) (List.replicate q.layers m) (fun b f => b < ceilDiv m 64 → f = tget none a.pt b))) ∧
  (∀ c m n k x y q s, Pre.ptTruncate c m n k q s → q.inStep = false →
    Does (.ptEdit c m n k x y 1) c s ((q.gen + 1) % 2 ^ 32) (fun u =>
      Edited q s u (seqKey n k) (q.len.map (min m)) (fun b f => m ≤ 64 * b → f = none))) ∧
  (∀ c m n k x y q s, Pre.ptEdit c m n k q s → q.inStep = false →
    Does (.ptEdit c m n k x y 2) c s ((q.gen + 1) % 2 ^ 32) (fun u =>
      Edited q s u (seqKey n k) (q.len.map (min 0)) (fun _ f => f = none))) ∧
  (∀ c m n k srcC srcK a q s, Pre.ptShare c m n k srcC srcK a q s → q.inStep = true →
    exec (.ptEdit c m n k srcC srcK 0) s =
      replied c s (kept (began c s) (seqKey n k) q (.share (seqKey srcC srcK) m)) stDeferred 0 0) ∧
  (∀ c m n k x y q s, Pre.ptTruncate c m n k q s → q.inStep = true → exec (.ptEdit c m n k x y 1) s =
    replied c s (kept (began c s) (seqKey n k) q (.truncate m)) stDeferred 0 0) ∧
  (∀ c m n k x y q s, Pre.ptEdit c m n k q s → q.inStep = true → exec (.ptEdit c m n k x y 2) s =
    replied c s (kept (began c s) (seqKey n k) q .release) stDeferred 0 0)

namespace Sys2Proof.Machine

abbrev Pre.ringOpen (c : Cmd) (param g : Nat) (s : State) : Prop :=
  Given c s ∧ param < 2 ^ 64 ∧ rangeOk s param 120 = true ∧ hostFail c [param] = false ∧ readsPoison s param 120 = false ∧
    (groupOfParam (rdBytes s param 120)).ctxs.any (hostDenied (flightOf c s)) = false ∧
    groupOk s (rdBytes s param 120) = true ∧ freeGroup s = some g

abbrev Pre.ringClose (c : Cmd) (g : Nat) (s : State) : Prop := Given c s ∧ g < 32 ∧ (group s g).isSome = true

abbrev groupBusy (s : State) (g : Nat) : Bool := s.cores.any (fun e => e.2.q.any (fun d => decide (d.group = some g)))

end Sys2Proof.Machine
open Sys2Proof Sys2Proof.Machine in
/-- Ring groups are opened and closed. RING_GROUP_OPEN with a parameter block that passes its checks opens the
lowest free group with the block's content and replies OK with its number; RING_GROUP_CLOSE of a group that no
descriptor in flight uses frees it and ends the command, and of one in use keeps the group and the command until its
last ATTN has gone. (R194, R286, R288) -/
def Obligations.RingGroups : Prop :=
  (∀ c param g s, Pre.ringOpen c param g s → exec (.ringGroupOpen c param) s =
    done c s (setGroup (began c s) g (some (groupOfParam (rdBytes s param 120)))) g) ∧
  (∀ c g s, Pre.ringClose c g s → groupBusy s g = false → Gives (.ringGroupClose c g) s (fun t =>
    group t g = none ∧ ∀ f ∈ t.sal.flights, f.await ≠ .ringClose g)) ∧
  (∀ c g s, Pre.ringClose c g s → groupBusy s g = true → Gives (.ringGroupClose c g) s (fun t =>
    group t g = group s g ∧ ∃ f ∈ t.sal.flights, f.c = c ∧ f.await = .ringClose g))

namespace Sys2Proof.Machine


/-! ### Descriptors, number formats and the Grain codec (chapters 6 to 9) -/

/-- The next descriptor of context `c` is the operation `op`, issues in this clock and passes its checks. -/
abbrev Pre.issues (typ c : Nat) (op : Op) (s : State) : Prop :=
  isReady s = true ∧ runnable s c (ctx s c) = true ∧ fetchOk s (ctx s c).pc = true ∧ poisonIn s (ctx s c).pc 128 = none ∧
    (cand s c).ok = true ∧ (cand s c).op = some op ∧ descType (cand s c).bs = typ ∧ budgetOk s c (cand s c) = true ∧
    beaten s c (cand s c) = false ∧ opInWindow s (ctx s c) op = true ∧
    (match op with | .dma d => dmaBadAddr s d | _ => none) = none ∧ readPoison s (ctx s c) op = none

/-- Context `c` has moved on by one descriptor and is CUR_CTX of its core. -/
abbrev movedOn (c : Nat) (s t : State) : Prop :=
  (ctx t c).pc = (ctx s c).pc + 128 ∧ (ctx t c).held = false ∧ (core t (ctx s c).core).cur = some c

/-- The descriptor `op` of context `c` is the last entry of its core's queue, and `p` holds of it. -/
abbrev queued (c : Nat) (op : Op) (s t : State) (p : QDesc → Prop) : Prop :=
  let k := core s (ctx s c).core
  ∃ q, (core t (ctx s c).core).q = (startHeads { k with q := k.q ++ [q] }).q ∧ q.ctx = c ∧ q.unit = opUnit op ∧
    q.pc = (ctx s c).pc ∧ q.tag = descTag (cand s c).bs ∧ q.bs = (cand s c).bs ∧ q.ivals = opIvals s (ctx s c) op ∧ p q

/-- The descriptor has issued, and memory is as before. -/
abbrev issued (c : Nat) (op : Op) (s t : State) : Prop :=
  movedOn c s t ∧ (ctx t c).st = .running ∧ queued c op s t (fun q => q.barrier = false) ∧ t.mem = s.mem

abbrev Pre.gemmMany (c : Nat) (g : Gemm) (s : State) : Prop := Pre.issues 1 c (.gemm g) s ∧ (s.ctxs.map (·.1)).Nodup

end Sys2Proof.Machine
open Sys2Proof Sys2Proof.Machine in
/-- GEMM, CONV_TAP, POOL and VEC descriptors issue. A descriptor of each type that can issue and passes its checks
moves its context on by 128 bytes, RUNNING and not held, and becomes the last entry of its core's queue with its
unit, position, tag and Tray intervals; memory is as before (that the results land at completion is the model's
choice, notes/assumptions/13.md). A GEMM moves on every partner of its pass likewise. (R113, R119, R120, R122, R187,
R255) -/
def Obligations.TensorDescriptors : Prop :=
  (∀ c d s, Pre.issues 2 c (.conv d) s → Gives (.convTap c) s (issued c (.conv d) s)) ∧
  (∀ c d s, Pre.issues 3 c (.pool d) s → Gives (.pool c) s (issued c (.pool d) s)) ∧
  (∀ c v s, Pre.issues 4 c (.vec v) s → Gives (.vec c) s (issued c (.vec v) s)) ∧
  (∀ c g s, Pre.issues 1 c (.gemm g) s → partners s c (cand s c) g = [] → Gives (.gemm c) s (issued c (.gemm g) s)) ∧
  (∀ c g s, Pre.gemmMany c g s → Gives (.gemm c) s (fun t => t.mem = s.mem ∧
    ∀ e ∈ c :: partners s c (cand s c) g, (ctx t e).pc = (ctx s e).pc + 128 ∧ (ctx t e).st = .running ∧ (ctx t e).held = false))

open Sys2Proof Sys2Proof.Machine in
/-- DMA descriptors issue. A DMA that can issue and passes its checks moves its context on by 128 bytes, RUNNING and
not held, and becomes the last entry of its core's queue with its unit, position, tag and Tray intervals, whatever
crop it fetches and whatever reference tile it reads; where it reads no tile, memory is as before. (R117, R119,
R120, R122, R255) -/
def Obligations.DmaDescriptors : Prop :=
  ∀ c w tile d s, Pre.issues 6 c (.dma d) s → Gives (.dma c w tile) s (fun t =>
    movedOn c s t ∧ (ctx t c).st = .running ∧ queued c (.dma d) s t (fun q => q.barrier = false) ∧ (tile = none → t.mem = s.mem))

namespace Sys2Proof.Machine

/-- How an ATTN that is not RING reads. -/
abbrev modeOf (a : Attn) : AttnMode := if a.mode = 2 then .coarse a.topP a.winW else .loc

/-- A LOCAL or COARSE ATTN without an append meets its sequence, with every row it reads free of poison. -/
abbrev Pre.attnRead (c : Nat) (a : Attn) (q : Seq) (s : State) : Prop :=
  Pre.issues 5 c (.attn a) s ∧ a.mode ≠ 1 ∧ a.append = false ∧ attnCause s (seqKey c a.seq) a = none ∧
    seq s (seqKey c a.seq) = some q ∧ pagePoison s q a.layer (readsOf s (ctx s c) q a (modeOf a)) = none

/-- One with an append: `s1` is the state with frames for its blocks and its rows stored, `q` the sequence there. -/
abbrev Pre.attnAppend (c : Nat) (a : Attn) (q0 q : Seq) (s s1 : State) : Prop :=
  Pre.issues 5 c (.attn a) s ∧ a.mode ≠ 1 ∧ a.append = true ∧ attnCause s (seqKey c a.seq) a = none ∧
    seq s (seqKey c a.seq) = some q0 ∧ cowPoison s q0 (appendBlocks a.qPos a.q.rows) = none ∧
    (ensureBlocks (seqKey c a.seq) (appendBlocks a.qPos a.q.rows) s).map (fun u => appendRows u (ctx u c) (seqKey c a.seq) a) = some s1 ∧
    seq s1 (seqKey c a.seq) = some q ∧
    pagePoison s1 (withAppend q a) a.layer (readsOf s1 (ctx s1 c) (withAppend q a) a (modeOf a)) = none

abbrev Pre.attnBad (c : Nat) (a : Attn) (cause : Nat) (s : State) : Prop :=
  Pre.issues 5 c (.attn a) s ∧ a.mode ≠ 1 ∧ attnCause s (seqKey c a.seq) a = some cause

abbrev Pre.attnRing (c : Nat) (a : Attn) (r : RGroup) (s : State) : Prop :=
  Pre.issues 5 c (.attn a) s ∧ a.mode = 1 ∧ group s a.seq = some r ∧ r.ctxs.contains c = true

abbrev Pre.attnStranger (c : Nat) (a : Attn) (s : State) : Prop :=
  Pre.issues 5 c (.attn a) s ∧ a.mode = 1 ∧ (group s a.seq).all (fun r => !r.ctxs.contains c) = true

end Sys2Proof.Machine
open Sys2Proof Sys2Proof.Machine in
/-- ATTN descriptors issue. A LOCAL or COARSE ATTN that meets its sequence moves its context on, begins a step of
the sequence and pins the frames of the blocks it reads; without an append memory is as before; with one, memory
gains the appended rows, and the entry holds how many positions the layer gains when it completes, its length
unchanged until then. An ATTN that fails a check of its sequence, and a RING ATTN of a context that is no member of
an open group, faults its context with the check's cause. A RING ATTN of a member of its group goes to the group's
barrier, its context WAITING there, and memory is as before. (R167, R168, R177, R181, R195, R255) -/
def Obligations.Attention : Prop :=
  (∀ c a q s, Pre.attnRead c a q s → Gives (.attn c) s (fun t =>
    movedOn c s t ∧ (ctx t c).st = .running ∧ t.mem = s.mem ∧ seq t (seqKey c a.seq) = some { q with inStep := true } ∧
    queued c (.attn a) s t (fun e => e.barrier = false ∧ e.app = none ∧ e.view = some q ∧
      e.pins = framesOf q (readsOf s (ctx s c) q a (modeOf a)).blocks))) ∧
  (∀ c a q0 q s s1, Pre.attnAppend c a q0 q s s1 → Gives (.attn c) s (fun t =>
    movedOn c s t ∧ (ctx t c).st = .running ∧ t.mem = s1.mem ∧ seq t (seqKey c a.seq) = some { q with inStep := true } ∧ q.len = q0.len ∧
    queued c (.attn a) s t (fun e => e.barrier = false ∧ e.app = some (seqKey c a.seq, a.layer, a.q.rows) ∧
      e.view = some (withAppend q a) ∧ e.pins = framesOf (withAppend q a) (readsOf s1 (ctx s1 c) (withAppend q a) a (modeOf a)).blocks))) ∧
  (∀ c a x s, Pre.attnBad c a x s → Gives (.attn c) s (fun t => (ctx t c).st = .faulted ∧ (ctx t c).cause = x)) ∧
  (∀ c a s, Pre.attnStranger c a s → Gives (.attn c) s (fun t => (ctx t c).st = .faulted ∧ (ctx t c).cause = 0x0301)) ∧
  (∀ c a r s, Pre.attnRing c a r s → Gives (.attn c) s (fun t =>
    movedOn c s t ∧ (ctx t c).st = .waiting ∧ (ctx t c).wait = some (.barrier a.seq) ∧ t.mem = s.mem ∧
    queued c (.attn a) s t (fun e => e.barrier = true ∧ e.group = some a.seq)))

namespace Sys2Proof.Machine

/-- Every member of group `g` stands at its barrier, on a core that is not stopped for a change of frequency (R126, R195). -/
abbrev Pre.barrier (g : Nat) (r : RGroup) (ms : List (Nat × Attn)) (s : State) : Prop :=
  isReady s = true ∧ group s g = some r ∧ atBarrier s g r = some ms ∧ (∀ m ∈ ms, (core s (ctx s m.1).core).stop = false)

/-- The group runs in the COARSE mode of R198: a member issued so, or a link of its arc is down. -/
abbrev fallsBack (s : State) (g : Nat) (r : RGroup) (ms : List (Nat × Attn)) : Bool :=
  ms.any (fun m => match ringDesc s g m.1 with | some d => d.force | none => false) || arcFalls s r

/-- The members' ATTNs agree, append nothing, and no member reads poison. -/
abbrev Pre.barrierGo (g : Nat) (r : RGroup) (ms : List (Nat × Attn)) (q : Seq) (s : State) : Prop :=
  Pre.barrier g r ms s ∧ ringCause s r ms = none ∧ ms ≠ [] ∧ seq s r.leader = some q ∧ (∀ m ∈ ms, m.2.append = false) ∧
    (∀ e ∈ ms.mapIdx (fun j m => (j, m)), pagePoison s q (ms.head!).2.layer
      (memberReads s r q (fallsBack s g r ms) (ringNb ms) ((ms.map (fun m => lastAll m.2)).foldl max 0) e) = none)

/-- They append, every copy that their appends make is free of poison, and the pool has no frame for one of the appends. -/
abbrev Pre.barrierFull (g : Nat) (r : RGroup) (ms : List (Nat × Attn)) (q : Seq) (c : Nat) (s : State) : Prop :=
  Pre.barrier g r ms s ∧ ringCause s r ms = none ∧ seq s r.leader = some q ∧ ms ≠ [] ∧ (∀ m ∈ ms, m.2.append = true) ∧
    (∀ m ∈ ms, cowPoison s q (appendBlocks m.2.qPos m.2.q.rows) = none) ∧
    (match ringEnsure r.leader ms s with | .error x => x = c | .ok _ => False)

end Sys2Proof.Machine
open Sys2Proof Sys2Proof.Machine in
/-- The ring barrier lets its group go. When every member of a group stands at the barrier on a running core, their
ATTNs agree with each other and with the leader's sequence, append nothing and read no poison, every member runs on
and the leader's sequence is in a step, its length unchanged; when the ATTNs do not agree, every member faults with
the check's cause; when they append and the pool has no frame left for one of them, that member faults with 0x0304;
a group with a member elsewhere, or one on a core stopped for a change of frequency, stays as it is. (R126, R176,
R195, R201) -/
def Obligations.RingBarrier : Prop :=
  (∀ g r ms q s, Pre.barrierGo g r ms q s → Gives (.ringBarrierComplete g) s (fun t =>
    (∀ m ∈ ms, (ctx t m.1).st = .running ∧ (ctx t m.1).wait = none) ∧
    (∃ q', seq t r.leader = some q' ∧ q'.inStep = true ∧ q'.len = q.len))) ∧
  (∀ g r ms x s, Pre.barrier g r ms s → ringCause s r ms = some x → Gives (.ringBarrierComplete g) s (fun t =>
    ∀ m ∈ ms, (ctx t m.1).st = .faulted ∧ (ctx t m.1).cause = x)) ∧
  (∀ g r ms q c s, Pre.barrierFull g r ms q c s → Gives (.ringBarrierComplete g) s (fun t =>
    (ctx t c).st = .faulted ∧ (ctx t c).cause = 0x0304)) ∧
  (∀ g r s, group s g = some r → (atBarrier s g r = none ∨ ∃ ms, atBarrier s g r = some ms ∧ ∃ m ∈ ms, (core s (ctx s m.1).core).stop = true) →
    exec (.ringBarrierComplete g) s = .next s)

namespace Sys2Proof.Machine

abbrev plain (s : State) (c : Nat) : Prop := bit (descFlags (cand s c).bs) 0 = false

abbrev Pre.waitEnd (c m v : Nat) (s : State) : Prop :=
  Pre.issues 7 c (.wait m v) s ∧ v ≤ mark s m ∧ bit (descFlags (cand s c).bs) 0 = true ∧ inFlight s c = false ∧
    searching s c = [] ∧
    s.sal.flights.all (fun f => match f.await with | .ctxStop _ => false | .sqDelete _ _ => false | _ => true) = true

end Sys2Proof.Machine
open Sys2Proof Sys2Proof.Machine in
/-- Control descriptors wait, signal, branch and end a program. A WAIT_MARK whose mark has reached its value passes;
one whose mark has not, with nothing of the context in flight, makes the context WAITING on it and changes nothing
else. A SIGNAL_MARK adds to its mark, saturating, and passes; a host context that signals a device mark faults with
0x0105. A BRANCH_ON_COUNT sets its counter to the value, or counts it down and branches while it is not 0. A passed
descriptor flagged LAST, with nothing in flight and no search, ends the program: END_MARK gains END_ADD and the
context is OPEN. (R121, R123, R257, R258, R255) -/
def Obligations.ControlDescriptors : Prop :=
  (∀ c m v s, Pre.issues 7 c (.wait m v) s → v ≤ mark s m → plain s c → Gives (.waitMark c) s (fun t =>
    (ctx t c).pc = (ctx s c).pc + 128 ∧ (ctx t c).cnt = (ctx s c).cnt ∧ t.marks = s.marks ∧ t.mem = s.mem)) ∧
  (∀ c m v s, Pre.issues 7 c (.wait m v) s → mark s m < v → inFlight s c = false → exec (.waitMark c) s =
    .next (setCtx s c { ctx s c with st := .waiting, wait := some (.mark m v), waitSince := dt s })) ∧
  (∀ c m v s, Pre.waitEnd c m v s → Gives (.waitMark c) s (fun t => (ctx t c).st = .opened ∧
    mark t (ctx s c).endMark = (if (ctx s c).endAdd = 0 then mark s (ctx s c).endMark
      else min (mark s (ctx s c).endMark + (ctx s c).endAdd) sat64))) ∧
  (∀ c m a s, Pre.issues 8 c (.signal m a) s → plain s c → (c < 0x1000 ∨ 0x1000 ≤ m) → Gives (.signalMark c) s (fun t =>
    (ctx t c).pc = (ctx s c).pc + 128 ∧ mark t m = (if a = 0 then mark s m else min (mark s m + a) sat64) ∧
    (∀ j, j ≠ m → mark t j = mark s j))) ∧
  (∀ c m a s, Pre.issues 8 c (.signal m a) s → 0x1000 ≤ c → m < 0x1000 → Gives (.signalMark c) s (fun t =>
    (ctx t c).st = .faulted ∧ (ctx t c).cause = 0x0105)) ∧
  (∀ c k o d v s, Pre.issues 9 c (.branch k o d v) s → plain s c →
    let n := (ctx s c).cnt.getD k 0
    let dst := (((ctx s c).pc : Int) + 128 * d).toNat
    (o = 1 → Gives (.branchOnCount c) s (fun t =>
      (ctx t c).pc = (ctx s c).pc + 128 ∧ (ctx t c).cnt = listSet (ctx s c).cnt k v)) ∧
    (o ≠ 1 → n ≤ 1 → Gives (.branchOnCount c) s (fun t =>
      (ctx t c).pc = (ctx s c).pc + 128 ∧ (ctx t c).cnt = listSet (ctx s c).cnt k 0)) ∧
    (o ≠ 1 → 1 < n → 0 ≤ ((ctx s c).pc : Int) + 128 * d → fetchOk s dst = true → Gives (.branchOnCount c) s (fun t =>
      (ctx t c).pc = dst ∧ (ctx t c).cnt = listSet (ctx s c).cnt k (n - 1))))

namespace Sys2Proof.Machine

/-- Descriptor `d` heads unit `u` of core `n` without partners and completes; no command waits for its context or for a ring group. -/
abbrev Pre.descDone (n u : Nat) (d : QDesc) (s : State) : Prop :=
  isReady s = true ∧ n < 8 ∧ u < 5 ∧ (core s n).stop = false ∧ headPass (core s n) u = [d] ∧ d.barrier = false ∧
    (ctx s d.ctx).core = n ∧ (ctx s d.ctx).ended = false ∧ (ctx s d.ctx).st = .running ∧ (ctx s d.ctx).stopReq = false ∧
    s.sal.flights.all (fun f => match f.await with | .ringClose _ => false | _ => true) = true

/-- The state in which the descriptor has left its queue and its results are about to land. -/
abbrev leaving (n u clocks : Nat) (ls : List Nat) (d : QDesc) (s : State) : State :=
  let v := ls.foldl corrected s
  let w := setCore v n (startHeads { core v n with q := (core v n).q.erase d })
  if u = 0 then cadd w (0x200020 + n * 0x20000) clocks else w

/-- No byte outside the operation's Tray destination changes; a DMA's destination is the extent of its rows. -/
abbrev keepsOutside (c : Nat) (op : Op) (s t : State) : Prop :=
  match op with
  | .dma d => ∀ a, (a < sideAddr (ctx s c) d.dst ∨ sideAddr (ctx s c) d.dst + sideLen s d d.dst d.dp ≤ a) → mrd t a = mrd s a
  | op => ∀ a, (∀ i ∈ opIvals s (ctx s c) op, i.write = true → a < i.addr ∨ i.addr + i.len ≤ a) → mrd t a = mrd s a

/-- An operation that is not a RING ATTN; an ATTN's sequence has its head dimension (R167). -/
abbrev notRing (d : QDesc) (op : Op) : Prop :=
  match op with | .attn a => (a.mode = 0 ∨ a.mode = 2) ∧ (∀ q, d.view = some q → q.headDim = a.headDim) | _ => True

abbrev Pre.tokenServed (c : Nat) (d : Detok) (x : Nat × Nat) (q : List (Nat × Nat)) (s : State) : Prop :=
  isReady s = true ∧ detok s c = some d ∧ d.queue = x :: q ∧ (vocab s d.cap.vslot).isSome = true ∧ (ctx s c).ended = false

end Sys2Proof.Machine
open Sys2Proof Sys2Proof.Machine in
/-- Descriptors complete and tokens are turned into text. The oldest descriptor of a unit, not at a barrier, leaves
its core's queue when it completes; memory gains the results of its operation, and, a RING ATTN's scratch areas
apart, no byte outside its destination changes; an append becomes part of its layer's length; the array's busy
counter gains the clocks; its context's watchdog starts anew, and with nothing more in flight the context is no
longer RUNNING. DETOKENISE_TOKEN serves the oldest token of its context, counts it, and changes no byte outside the
text result. (R122, R168, R210, R211, R255, R328) -/
def Obligations.DescriptorCompletion : Prop :=
  (∀ n u clocks ls d s, Pre.descDone n u d s → Gives (.descComplete n u clocks none ls) s (fun t =>
    (core t n).q = (startHeads { core s n with q := (core s n).q.erase d }).q ∧ (ctx t d.ctx).wd = 0 ∧
    t.mem = (runQ (leaving n u clocks ls d s) d).mem ∧
    (∀ op, readDesc s d.bs = some op → notRing d op → keepsOutside d.ctx op s t) ∧
    (∀ k l x q, d.app = some (k, l, x) → seq s k = some q → seq t k = some { q with len := listSet q.len l (lenOf q l + x) }) ∧
    (u = 0 → cget t (0x200020 + n * 0x20000) = (cget s (0x200020 + n * 0x20000) + clocks) % 2 ^ 64) ∧
    (inFlight t d.ctx = false → (ctx t d.ctx).st = .ready ∨ (ctx t d.ctx).st = .waiting))) ∧
  (∀ c d x q s, Pre.tokenServed c d x q s → Gives (.detokeniseToken c) s (fun t =>
    (∃ e, detok t c = some e ∧ e.queue = q ∧ e.starts = d.starts ++ [d.raw] ∧ e.confs = d.confs ++ [x.2] ∧
      (d.ending = true → q = [] → e.done = true)) ∧
    cget t 0x90038 = (cget s 0x90038 + 1) % 2 ^ 64 ∧
    (∀ a, (a < d.cap.text ∨ d.cap.text + 16 + d.cap.textMax ≤ a) → mrd t a = mrd s a)))

open Sys2Proof Sys2Proof.Machine in
/-- Number formats keep their values and ranges. Every code of a floating-point format that is not NaN is the code
of its own value; a block's code is at most 255 and its elements at most Qmax in magnitude; a conversion to an
integer format stays in its range; an integer accumulator never leaves the range of 48 signed bits without the least
value. (R112, R127, R128, R132, R135) -/
def Obligations.NumberFormats : Prop :=
  (∀ f c, f ∈ [e4m3, e5m2, bf16, fp32] → c < 2 ^ (f.m + f.ebits + 1) → decodeF f c ≠ .nan → encodeF f (decodeF f c) = c) ∧
  (∀ qm ts, (blockCodes qm ts).1 ≤ 255 ∧ ∀ e ∈ (blockCodes qm ts).2.1, -(qm : Int) ≤ e ∧ e ≤ qm) ∧
  (∀ lo hi x, lo ≤ 0 → 0 ≤ hi → lo ≤ (toInt lo hi x).1 ∧ (toInt lo hi x).1 ≤ hi) ∧
  (∀ n a b acc k, -sat48lim ≤ acc → acc ≤ sat48lim →
    -sat48lim ≤ (reduceInt n a b acc k).1 ∧ (reduceInt n a b acc k).1 ≤ sat48lim)

namespace Sys2Proof.Machine

abbrev grainOf (r : Nat) (bs : List Byte) (j : Nat) : Int × Nat × List Nat :=
  grainGroup (grainBits r) (((bs.drop (32 * j)).take 32).map (fun b => ofTwos 8 b.toNat))

end Sys2Proof.Machine
open Sys2Proof Sys2Proof.Machine in
/-- The Grain codec's error stays within its bound. A block of 128 bytes compresses to the stored size of its ratio
and expands to 128 bytes; a value of a group with s = 0 comes back equal, and one of a group with s at least 1 comes
back with an error of at least -(2^(s-1) - 1) and at most 2^(s-1). (R156, R157, R158) -/
def Obligations.GrainError : Prop :=
  ∀ r bs, 1 ≤ r → r ≤ 3 → bs.length = 128 →
    (grainCompress r bs).length = grainSize r ∧ (grainExpand r (grainCompress r bs)).length = 128 ∧
    (∀ i, i < 128 →
      let e := ofTwos 8 ((grainExpand r (grainCompress r bs)).getD i 0).toNat - ofTwos 8 (bs.getD i 0).toNat
      let sh := (grainOf r bs (i / 32)).2.1
      (sh = 0 → e = 0) ∧ (1 ≤ sh → -((2 : Int) ^ (sh - 1) - 1) ≤ e ∧ e ≤ 2 ^ (sh - 1)))

namespace Sys2Proof.Machine


/-! ### The Caption unit and adaptation (chapters 11 and 13) -/

/-- The image copied to its extent. -/
abbrev imageAt (s : State) (a src len : Nat) : State := clearPoison (wrBytes s a (rdBytes s src len)) a len

abbrev Pre.vocabLoad (c : Cmd) (src len v a : Nat) (s : State) : Prop :=
  Given c s ∧ v < 16 ∧ vocab s v = none ∧ devRangeOk s src len = true ∧
    findExtent s (extentSize len (rdLe s (src + 12) 4)) = some a ∧ (poisonIn s src len).isSome = false

abbrev vocabNew (s : State) (src len a : Nat) : Vocab := vocabAt (imageAt s a src len) a (extentSize len (rdLe s (src + 12) 4))

/-- The image lies at `a`, and only it and the pair index behind it have changed. -/
abbrev imageLoaded (s u : State) (src len a : Nat) : Prop :=
  (∀ i, i < len → mrd u (a + i) = mrd s (src + i)) ∧
  (∀ b, b < a ∨ a + len + 8 * 2 ^ pairLog 33 4 (vocabNew s src len a).nMerge ≤ b → mrd u b = mrd s b)

abbrev Pre.vocabUnload (c : Cmd) (v : Nat) (s : State) : Prop := Given c s ∧ v < 16 ∧ vocabRefs s v = 0

abbrev tokRun (s : State) (src len stream tflags split : Nat) (x : Vocab) : List Nat × Nat × TokStream :=
  tokenizeBuf s x (if bit tflags 0 then {} else (tokStream s stream).getD {}) split (bit tflags 1) (rdBytes s src len)

abbrev Pre.capTokenize (c : Cmd) (src dst len cap stream tflags vslot split : Nat) (x : Vocab) (s : State) : Prop :=
  Given c s ∧ 1 ≤ len ∧ len ≤ 65536 ∧ stream < 64 ∧ tflags < 4 ∧ vslot < 16 ∧ split < 8 ∧ rangeOk s src len = true ∧
    rangeOk s dst (2 * cap) = true ∧ c.hostErr = false ∧ (poisonIn s src len).isSome = false ∧ vocab s vslot = some x ∧
    (tokRun s src len stream tflags split x).1.length ≤ cap

end Sys2Proof.Machine
open Sys2Proof Sys2Proof.Machine in
/-- Vocabularies are loaded and unloaded, and text is tokenised. VOCAB_LOAD into a free slot copies the image to the
lowest free extent and changes no byte outside the image's copy and the pair index behind it (whose bytes the spec
leaves open); an image that passes its checks becomes the slot's vocabulary, and one that fails check k replies
BAD_PARAM with DETAIL k and leaves the slot free. VOCAB_UNLOAD of a slot that nothing names frees it. CAP_TOKENIZE
of a resident vocabulary writes the tokens of the buffer to DST, keeps the stream's new state, counts the tokens and
replies with their number and the replacements. (R204, R205, R206, R209, R286) -/
def Obligations.Vocabularies : Prop :=
  (∀ c src len v a s, Pre.vocabLoad c src len v a s → vocabBad (imageAt s a src len) (vocabNew s src len a) len = none →
    Does (.vocabLoad c src len v) c s 0 (fun u =>
      vocab u v = some (vocabNew s src len a) ∧ imageLoaded s u src len a ∧ (∀ w, w ≠ v → vocab u w = vocab s w))) ∧
  (∀ c src len v a k s, Pre.vocabLoad c src len v a s → vocabBad (imageAt s a src len) (vocabNew s src len a) len = some k →
    ∃ u, exec (.vocabLoad c src len v) s = replied c s u stBadParam k 0 ∧ imageLoaded s u src len a ∧
      (∀ w, vocab u w = vocab s w)) ∧
  (∀ c v s, Pre.vocabUnload c v s → exec (.vocabUnload c v) s = done c s (setVocab (began c s) v none) 0) ∧
  (∀ c src dst len cap stream tflags vslot split x s, Pre.capTokenize c src dst len cap stream tflags vslot split x s →
    let r := tokRun s src len stream tflags split x
    Does (.capTokenize c src dst len cap stream tflags vslot split) c s (r.1.length + min 65535 r.2.1 * 2 ^ 32) (fun u =>
      u.mem = memWrite s.mem dst (r.1.map (leBytes 2)).flatten ∧ tokStream u stream = some r.2.2 ∧
      (∀ n, n ≠ stream → tokStream u n = tokStream s n) ∧ cget u 0x90030 = (cget s 0x90030 + r.1.length) % 2 ^ 64))

open Sys2Proof Sys2Proof.Machine in
/-- Tokenising keeps the text. With a vocabulary that passes load checks 2 and 4, the strings of the tokens that a
piece becomes, put together, are the bytes of the piece; and a piece of n bytes becomes at most n tokens. (R204,
R208) -/
def Obligations.MergingKeepsText : Prop :=
  ∀ s v x, vocabCheck2 s v = true → vocabCheck4 s v = true →
    ((bpe s v x).map (tokStr s v)).flatten = x ∧ (bpe s v x).length ≤ x.length

namespace Sys2Proof.Machine

abbrev adOpen (s : State) (a : Nat) : AdParam := adParam (rdBytes s a 128)

abbrev adImg (s : State) (p : AdParam) : ModelImg := ((job s p.srcJob).img.models[p.model]?).getD {}

abbrev Pre.adaptOpen (c : Cmd) (a k : Nat) (s : State) : Prop :=
  Given c s ∧ devRangeOk s a 128 = true ∧ (poisonIn s a 128).isSome = false ∧
    ((rdBytes s a 128).drop 0x77).all (fun b => decide (b = 0)) = true ∧ rdLe s (a + 0x76) 1 < 2 ∧ paramOk s (adOpen s a) = true ∧
    sitesOk (adOpen s a) (adImg s (adOpen s a)) = true ∧
    masterOk s (adOpen s a).master (8 * paramCount (adOpen s a) (adImg s (adOpen s a))) = true ∧
    (adOpen s a).work + (16 + 4 * (adOpen s a).gslots) * paramCount (adOpen s a) (adImg s (adOpen s a)) ≤ dramSize s ∧ freeAdapt s = some k

abbrev Pre.adaptSample (c : Cmd) (src lbl map len w h ll k kind : Nat) (a : Adapt) (s : State) : Prop :=
  Given c s ∧ k < 4 ∧ kind < 2 ∧ adapt s k = some a ∧ a.st = .opened ∧ rangeOk s src len = true ∧
    (ll = 0 ∨ rangeOk s lbl ll = true) ∧ ((adModel s a).detector = false ∨ rangeOk s map (outCells (adModel s a) w h) = true) ∧ w * h ≤ 2 ^ 24 - 16 ∧
    (kind = 1 ∨ len = w * h) ∧ c.hostErr = false ∧ (poisonIn s src len).isSome = false ∧ (poisonIn s lbl ll).isSome = false ∧
    (poisonIn s map (outCells (adModel s a) w h)).isSome = false ∧
    ((adModel s a).detector = true ∨ (labelToks s (adModel s a) (adModel s a).split (rdBytes s lbl ll)).2 = false) ∧
    a.samples.length < 2048

abbrev Pre.adaptConfirm (c : Cmd) (first last k n : Nat) (a : Adapt) (s : State) : Prop :=
  Given c s ∧ k < 4 ∧ n < 32 ∧ adapt s k = some a ∧ a.st = .opened ∧
    (∀ o ∈ confirmed a n first last, ∀ x ∈ o.fields, refusedAt x = false) ∧
    a.samples.length + ((confirmed a n first last).map (·.fields)).flatten.length ≤ 2048

end Sys2Proof.Machine
open Sys2Proof Sys2Proof.Machine in
/-- Adaptations are opened, given samples and closed. ADAPT_OPEN with a parameter block within its ranges opens the
lowest free adaptation with those parameters, A drawn from the seed and B, m and v zero, and replies with its
number; ADAPT_SAMPLE appends its sample, charges the DRAM it reads to class 2, replies with the sample's index and
changes nothing else; ADAPT_CONFIRM, where no label is refused and all fits, appends the samples of the confirmed
objects in order and replies with their number, the objects lost and the captures missed; ADAPT_CLOSE frees the
adaptation and changes no other. (R232, R234, R235, R236, R237, R289) -/
def Obligations.AdaptationSamples : Prop :=
  (∀ c a k s, Pre.adaptOpen c a k s → Does (.adaptOpen c a) c s k (fun u =>
    (∃ x, adapt u k = some x ∧ x.st = .opened ∧ x.p = adOpen s a ∧ x.samples = [] ∧ x.t = 0 ∧
      x.theta = ((sitesOf (adOpen s a) (adImg s (adOpen s a))).map (initSite (adOpen s a))).flatten ∧
      x.m = List.replicate (paramCount (adOpen s a) (adImg s (adOpen s a))) 0 ∧ x.v = x.m) ∧
    (∀ j, j ≠ k → adapt u j = adapt s j))) ∧
  (∀ c src lbl map len w h ll k kind a s, Pre.adaptSample c src lbl map len w h ll k kind a s →
    exec (.adaptSample c src lbl map len w h ll k kind) s = done c s (chargeDram (setAdapt (began c s) k (some { a with samples := a.samples ++
      [{ jpeg := decide (kind = 1), w := w, h := h, crop := rdBytes s src len, label := rdBytes s lbl ll,
         map := rdBytes s map (outCells (adModel s a) w h),
         toks := if (adModel s a).detector then [] else (labelToks s (adModel s a) (adModel s a).split (rdBytes s lbl ll)).1 }] })) 2
      (dramOf s src len + dramOf s lbl ll + dramOf s map (outCells (adModel s a) w h))) a.samples.length) ∧
  (∀ c first last k n a s, Pre.adaptConfirm c first last k n a s →
    let l := confirmed a n first last
    exec (.adaptConfirm c first last k n) s = done c s
      (setAdapt (began c s) k (some { a with samples := a.samples ++ (l.map (·.fields)).flatten, missed := 0 }))
      (c16 l.length + c16 0 * 2 ^ 16 + c16 ((last + 2 ^ 32 - first) % 2 ^ 32 + 1 - l.length) * 2 ^ 32 + c16 a.missed * 2 ^ 48)) ∧
  (∀ c k s, Given c s → k < 4 → (adapt s k).isSome = true → Does (.adaptClose c k) c s 0 (fun u =>
    adapt u k = none ∧ (∀ j, j ≠ k → adapt u j = adapt s j)))

namespace Sys2Proof.Machine

abbrev Pre.adaptRun (c : Cmd) (k : Nat) (a : Adapt) (s : State) : Prop :=
  Given c s ∧ k < 4 ∧ adapt s k = some a ∧ a.evaluating = false ∧ a.st = .opened ∧ 2 * a.p.hold ≤ a.samples.length ∧
    a.p.warmup ≤ tSteps { a with n := a.samples.length } ∧
    (a.samples.any (·.jpeg) = false ∨ (freeStream s).isSome = true)

abbrev Pre.adaptAgain (c : Cmd) (k : Nat) (a : Adapt) (s : State) : Prop :=
  Given c s ∧ k < 4 ∧ adapt s k = some a ∧ a.evaluating = false ∧
    (a.st = .paused ∨ ((a.st = .accepted ∨ a.st = .rejected) ∧ a.fromPause = true))

abbrev Pre.adaptPause (c : Cmd) (k : Nat) (a : Adapt) (s : State) : Prop :=
  Given c s ∧ k < 4 ∧ adapt s k = some a ∧ a.st = .training

abbrev Pre.sampleResolve (k slot : Nat) (a : Adapt) (s : State) : Prop :=
  isReady s = true ∧ adapt s k = some a ∧ a.st = .training ∧ slot < batchSize a ∧ tget none a.slots slot = none ∧
    mayTake a slot = true

abbrev Pre.batchClose (k : Nat) (a : Adapt) (s : State) : Prop :=
  isReady s = true ∧ adapt s k = some a ∧ a.st = .training ∧ batchResolved a = true

abbrev Pre.adaptEval (c : Cmd) (k : Nat) (a : Adapt) (s : State) : Prop :=
  Given c s ∧ k < 4 ∧ adapt s k = some a ∧ a.evaluating = false ∧ a.st ≠ .opened ∧ a.st ≠ .training

abbrev Pre.evalComplete (k : Nat) (a : Adapt) (s : State) : Prop := isReady s = true ∧ adapt s k = some a ∧ a.evaluating = true

abbrev Pre.adaptCommit (c : Cmd) (k slot : Nat) (a : Adapt) (s : State) : Prop :=
  Given c s ∧ k < 4 ∧ slot < 64 ∧ adapt s k = some a ∧ a.st = .accepted ∧ a.evaluating = false ∧ (job s slot).st = .empty

end Sys2Proof.Machine
open Sys2Proof Sys2Proof.Machine in
/-- Adaptations train, pause, are evaluated and committed. ADAPT_RUN of an OPEN adaptation with at least twice HOLD
samples, as many steps as WARMUP and a decode slot free for its JPEG samples, and of a PAUSED one or one whose
evaluation began in PAUSED, makes it TRAINING; ADAPT_PAUSE waits for the batch; a resolved sample takes its place
with the augmented crop that it fed forward, its gradient, where it is good, in a slot of WORK, and is corrupt where
it is given so, its crop is poisoned, its context faulted, its decode or host record fails, or its loss or gradient
is not finite; a complete batch is one step more, AdamW of the good samples' mean gradient or no change of the
parameters where there are none, after which the run is TRAINED, PAUSED or goes on; ADAPT_EVAL of a PAUSED or
TRAINED adaptation snapshots the BF16 copies and waits, and of an ACCEPTED or REJECTED one waits with the snapshot
it has; its end accepts or rejects by the good pairs; ADAPT_COMMIT of an ACCEPTED adaptation puts the source's job
with the snapshot, bound to its model and sites, into an empty slot. (R234, R238, R242, R243, R244, R245, R246,
R247, R248, R249, R250, R251) -/
def Obligations.AdaptationRuns : Prop :=
  (∀ c k a s, Pre.adaptRun c k a s → Does (.adaptRun c k) c s 0 (fun u => ∃ b, adapt u k = some b ∧
    b.st = .training ∧ b.n = a.samples.length ∧ b.samples = a.samples ∧ b.t = a.t ∧ b.theta = a.theta)) ∧
  (∀ c k a s, Pre.adaptAgain c k a s → Does (.adaptRun c k) c s 0 (fun u => ∃ b, adapt u k = some b ∧
    b.st = .training ∧ b.slots = [] ∧ b.n = a.n ∧ b.t = a.t ∧ b.theta = a.theta ∧ b.m = a.m ∧ b.v = a.v)) ∧
  (∀ c k a s, Pre.adaptPause c k a s → exec (.adaptPause c k) s =
    awaits c s (setAdapt (began c s) k (some { a with pausing := true })) (.adaptPause k) []) ∧
  (∀ k slot a r s, Pre.sampleResolve k slot a s → resFits s a slot r = true → Gives (.sampleResolve k slot r) s (fun t => ∃ b x, adapt t k = some b ∧
    tget none b.slots slot = some x ∧ x.grad = r.grad ∧
    (x.corrupt = none ↔ r.corrupt = none ∧ (trainAt a slot).poisoned = false ∧ faulted a slot = false ∧
      decodeFails a slot r = false ∧ hostRecBad s a (epochOf a) (sampleOf a slot) = false ∧ isFiniteCode (lossOf r.lps) = true ∧ r.grad.all isFiniteCode = true) ∧
    (x.corrupt = none → tget [] b.fed slot = fedCrop s a slot r.pixels ∧ tget 0 b.gslot slot = freeGrad a ∧
      rdBytes t (a.p.work + 16 * paramsOf a + 4 * paramsOf a * freeGrad a) (4 * paramsOf a) = fpBytes r.grad) ∧
    (∀ j, j ≠ slot → tget [] b.fed j = tget [] a.fed j) ∧
    (∀ j, j ≠ slot → tget none b.slots j = tget none a.slots j))) ∧
  (∀ k a s, Pre.batchClose k a s → Gives (.batchClose k) s (fun t => ∃ b, adapt t k = some b ∧ b.t = a.t + 1 ∧ b.slots = [] ∧
    b.st = (if tSteps a ≤ a.t + 1 then .trained else if a.pausing then .paused else .training) ∧
    (goodGrads a = [] → b.theta = a.theta ∧ b.m = a.m ∧ b.v = a.v) ∧
    (goodGrads a ≠ [] → b.theta = (optStep a (goodGrads a)).theta ∧ b.m = (optStep a (goodGrads a)).m ∧
      b.v = (optStep a (goodGrads a)).v))) ∧
  (∀ c k a s, Pre.adaptEval c k a s → (a.st = .accepted ∨ a.st = .rejected) → exec (.adaptEval c k) s =
    awaits c s (setAdapt (began c s) k (some { a with evaluating := true })) (.adaptEval k) []) ∧
  (∀ c k a s, Pre.adaptEval c k a s → (a.st = .paused ∨ a.st = .trained) → exec (.adaptEval c k) s = awaits c s (setAdapt (began c s) k (some { a with
    snap := a.theta.map bf16Copy, fromPause := decide (a.st = .paused), evaluating := true })) (.adaptEval k) []) ∧
  (∀ k a xs s, Pre.evalComplete k a s → Gives (.adaptEvalComplete k xs) s (fun t => ∃ b, adapt t k = some b ∧
    b.evaluating = false ∧ b.st = (if evalAccepts a (measures s a xs) then .accepted else .rejected) ∧
    b.snap = a.snap)) ∧
  (∀ c k slot a s, Pre.adaptCommit c k slot a s → exec (.adaptCommit c k slot) s = done c s (setJob (began c s) slot
    { st := .ready, img := (job s a.p.srcJob).img, base := some a.p.srcJob, adapters := some (bound a) }) 0)

namespace Sys2Proof.Machine


/-! ### The Developer unit (chapter 5) -/

abbrev Pre.streamOpen (c : Cmd) (q age w h mark codec depth low cls k : Nat) (s : State) : Prop :=
  Given c s ∧ 1 ≤ age ∧ age ≤ 1000000 ∧ 1 ≤ w ∧ w ≤ maxSide codec ∧ 1 ≤ h ∧ h ≤ maxSide codec ∧ mark < 65536 ∧ codec < 2 ∧
    2 ≤ depth ∧ depth ≤ 16 ∧ low < depth ∧ (cls = 3 ∨ cls = 4) ∧ (codec = 1 ∨ w * h ≤ 35651584) ∧
    rangeOk s q (depth * bufBytes { jpeg := decide (codec = 1), maxW := w, maxH := h } 2) = true ∧ freeStream s = some k

abbrev Pre.streamFeed (c : Cmd) (src k : Nat) (u : AccUnit) (s : State) : Prop :=
  Given c s ∧ k < 30 ∧ rangeOk s src u.len = true ∧ c.hostErr = false ∧ (poisonIn s src u.len).isSome = false ∧
    supported (stream s k).jpeg u.au.hdr = true ∧ u.au.hdr.w ≤ (stream s k).maxW ∧ u.au.hdr.h ≤ (stream s k).maxH ∧
    (stream s k).held = false

/-- The slot takes the unit: OPEN and no RASL picture of the CRA it resumed at, or in SKIP an IRAP picture (R109). -/
abbrev takes (x : Stream) (a : Au) : Prop :=
  (x.st = .opened ∧ (x.raslSkip && a.rasl) = false) ∨ (x.st = .skip ∧ a.irap = true)

abbrev Pre.streamClose (c : Cmd) (k : Nat) (s : State) : Prop :=
  Given c s ∧ k < 32 ∧ ((stream s k).st = .opened ∨ (stream s k).st = .skip) ∧ (stream s k).held = false

end Sys2Proof.Machine
open Sys2Proof Sys2Proof.Machine in
/-- Auxiliary streams are opened, fed and closed. STREAM_OPEN opens the lowest free slot with the command's settings
and replies with its number. STREAM_FEED of a supported access unit that an OPEN slot takes, or an IRAP picture in
SKIP, leaves the slot OPEN and the unit in its input or in a pipe; any other unit is discarded and counted, the
slot's state as before. STREAM_CLOSE discards the frames and the input, makes the slot CLOSING and waits; the end of
the flush frees the slot. (R98, R99, R105, R109, R286) -/
def Obligations.Streams : Prop :=
  (∀ c q age w h mark codec depth low cls k s, Pre.streamOpen c q age w h mark codec depth low cls k s →
    exec (.streamOpen c q age w h mark codec depth low cls) s = done c s (setStream (began c s) k
      { st := .opened, jpeg := decide (codec = 1), qaddr := q, ageMax := age, maxW := w, maxH := h, mark := mark,
        depth := depth, low := low, cls := cls }) k) ∧
  (∀ c src k u s, Pre.streamFeed c src k u s → takes (stream s k) u.au →
    Does (.streamFeed c src u.capDt u.wtDl u.len u.fid k u.au) c s 0 (fun t => (stream t k).st = .opened ∧
      (u ∈ (stream t k).input ∨ ∃ p, (stream t k).cur = some (u, p)))) ∧
  (∀ c src k u s, Pre.streamFeed c src k u s → ((stream s k).st = .opened ∨ (stream s k).st = .skip) → ¬ takes (stream s k) u.au →
    Does (.streamFeed c src u.capDt u.wtDl u.len u.fid k u.au) c s 0 (fun t => (stream t k).st = (stream s k).st ∧
      (stream t k).skipped = satAdd sat32 (stream s k).skipped 1)) ∧
  (∀ c k s, Pre.streamClose c k s → Waits (.streamClose c k) c s (.streamClose k) (fun t =>
    (stream t k).st = .closing ∧ (stream t k).queue = [] ∧ (stream t k).input = [])) ∧
  (∀ k n s, isReady s = true → (stream s k).st = .closing → Gives (.streamFlushDone k n) s (fun t => (stream t k).st = .free))

namespace Sys2Proof.Machine

abbrev Pre.inPipe (p k : Nat) (u : AccUnit) (s : State) : Prop :=
  isReady s = true ∧ onPipe s p = some (k, u) ∧ k < 30 ∧ (stream s k).st ≠ .closing

abbrev Pre.pictureDone (p k : Nat) (u : AccUnit) (s : State) : Prop :=
  Pre.inPipe p k u s ∧ heldPic s (stream s k) = false ∧ pastLimit s (stream s k) u = none

/-- A pipe decodes a still of a job that is loading, in slot 30 or 31 (R101). -/
abbrev Pre.stillDone (p k : Nat) (u : AccUnit) (s : State) : Prop :=
  isReady s = true ∧ onPipe s p = some (k, u) ∧ 30 ≤ k ∧ (stream s k).st ≠ .closing ∧ heldPic s (stream s k) = false ∧
    isRepair u = false ∧ (job s (fidSlot u)).st = .loading

abbrev Pre.dequeue (k : Nat) (u : AccUnit) (us : List AccUnit) (s : State) : Prop :=
  isReady s = true ∧ (stream s k).queue = u :: us ∧ pastLimit s (stream s k) u = none

abbrev Pre.dequeueLate (k : Nat) (u : AccUnit) (s : State) : Prop :=
  isReady s = true ∧ (stream s k).queue = [u] ∧ (pastLimit s (stream s k) u).isSome = true

abbrev Pre.refRead (j tile : Nat) (w : Nat × Nat) (s : State) : Prop :=
  isReady s = true ∧ (job s (refSlot s j)).st = .ready ∧ tile < tileCount (job s (refSlot s j)).img.design ∧
    (objOf s w.1 w.2).isSome = true ∧ (job s (refSlot s j)).poisoned.contains tile = false

abbrev Pre.refRepaired (j tile : Nat) (s : State) : Prop :=
  isReady s = true ∧ (job s (refSlot s j)).st = .ready ∧ tile < tileCount (job s (refSlot s j)).img.design ∧
    (job s (refSlot s j)).poisoned.contains tile = true ∧
    repairing s (refSlot s j) = false

end Sys2Proof.Machine
open Sys2Proof Sys2Proof.Machine in
/-- Pictures are decoded, late, in error or dequeued, and reference tiles repaired. A picture within its limits, its
class not held, joins the end of its slot's queue when its decode is done, counts its samples and increments the
slot's mark; a still of a loading job is kept for it and its samples counted; a picture past a limit is counted late
and does not join; a decode error sets DEV_ERR's flag and leaves the queue as it is; FRAME_DEQUEUE hands over the
oldest frame if it is within its limits and counts no frame late, and discards a last frame past a limit as late. A
poisoned reference tile is marked absent until its repair, its stills decoded again, unmarks it. (R98, R103, R105,
R107, R108, R109) -/
def Obligations.Pictures : Prop :=
  (∀ p k u pic n s, Pre.pictureDone p k u s → Gives (.decodePictureDone p pic n) s (fun t =>
    (stream t k).queue = (stream s k).queue ++ [u] ∧ (stream t k).made = (stream s k).made + 1 ∧
    cget t 0xB0018 = (cget s 0xB0018 + pic.luma) % 2 ^ 64 ∧ mark t (stream s k).mark = min (mark s (stream s k).mark + 1) sat64)) ∧
  (∀ p k u pic n s, Pre.stillDone p k u s → Gives (.decodePictureDone p pic n) s (fun t =>
    tget none (job t (fidSlot u)).pics (u.fid % 64) = some pic ∧ cget t 0xB0018 = (cget s 0xB0018 + pic.luma) % 2 ^ 64)) ∧
  (∀ p k u pic r n s, Pre.inPipe p k u s → heldPic s (stream s k) = false → pastLimit s (stream s k) u = some r →
    Gives (.decodePictureDone p pic n) s (fun t =>
      (stream t k).queue = (stream s k).queue ∧ (stream t k).late = satAdd sat32 (stream s k).late 1)) ∧
  (∀ p k u r n s, Pre.inPipe p k u s → pastLimit s (stream s k) u = some r → Gives (.auxLate p n) s (fun t =>
    (stream t k).queue = (stream s k).queue ∧ (stream t k).late = satAdd sat32 (stream s k).late 1 ∧
    bit (rg t devSt) 2 = true)) ∧
  (∀ p k u e n s, Pre.inPipe p k u s → Gives (.devDecodeErr p e n) s (fun t =>
    (stream t k).queue = (stream s k).queue ∧ bit (rg t devSt) 4 = true)) ∧
  (∀ k u us s, Pre.dequeue k u us s → Gives (.frameDequeue k) s (fun t =>
    (stream t k).queue = us ∧ (stream t k).late = (stream s k).late)) ∧
  (∀ k u s, Pre.dequeueLate k u s → Gives (.frameDequeue k) s (fun t =>
    (stream t k).queue = [] ∧ (stream t k).late = satAdd sat32 (stream s k).late 1 ∧ bit (rg t devSt) 1 = true)) ∧
  (∀ j tile w s, Pre.refRead j tile w s → Gives (.refRepair j tile (some w)) s (fun t =>
    (job t (refSlot s j)).poisoned = (job s (refSlot s j)).poisoned ++ [tile] ∧ bit (rg t devSt) 5 = true)) ∧
  (∀ j tile s, Pre.refRepaired j tile s → Gives (.refRepair j tile none) s (fun t =>
    tile ∉ (job t (refSlot s j)).poisoned ∧ (job t (refSlot s j)).img = (job s (refSlot s j)).img))

namespace Sys2Proof.Machine


/-! ### The debug port (chapter 19) -/

end Sys2Proof.Machine
open Sys2Proof Sys2Proof.Machine in
/-- TAP instructions and the management link. IDCODE scans out 0x1816_0A65, BYPASS selects the bypass register;
EXTEST, CLAMP and HIGHZ take effect while the device is in reset or unlocked to level 2 with every lane STOPPED, and
otherwise act as BYPASS and set BSCAN_REFUSED's flag; SAMPLE selects the boundary register without that condition. A
block read of the board link of a listed code answers what a read of its register gives, and of another code is not
acknowledged. (R353, R354, R386) -/
def Obligations.TapInstructions : Prop :=
  (∀ s, s.pins.pwrok = true → exec .idcode s = .next { s with dbg := { s.dbg with tap := 1, tdo := 0x18160A65 } }) ∧
  (∀ s, s.pins.pwrok = true → exec .bypass s = .next { s with dbg := { s.dbg with tap := 0xFF, tdo := 0 } }) ∧
  (∀ s, s.pins.pwrok = true → Gives .samplePreload s (fun t => t.dbg.tap = 2 ∧
    { t with dbg := s.dbg, free := s.free } = s)) ∧
  (∀ s i n, (i, n) ∈ [(Instr.extest, 0), (.clamp, 4), (.highz, 5)] → s.pins.pwrok = true → bscanOk s = true →
    Gives i s (fun t => t.dbg.tap = n ∧ { t with dbg := s.dbg, free := s.free } = s)) ∧
  (∀ s i, i ∈ [Instr.extest, .clamp, .highz] → s.pins.pwrok = true → bscanOk s = false →
    exec i s = .next (flag { s with dbg := { s.dbg with tap := 0xFF, tdo := 0 } } 0x40004 3)) ∧
  (∀ s k off, s.pins.pwrok = true → s.pins.thermtrip = false → smbReg k = some off → exec (.smbusBlockRead k) s =
    .next { (hostRead s off).1 with dbg := { s.dbg with smb := some (hostRead s off).2 } }) ∧
  (∀ s k, s.pins.pwrok = true → s.pins.thermtrip = false → smbReg k = none →
    exec (.smbusBlockRead k) s = .next { s with dbg := { s.dbg with smb := none } })

namespace Sys2Proof.Machine

/-- A debug command that its level allows and that finds no step under way. -/
abbrev Pre.dbg (level : Nat) (s : State) : Prop := powered s = true ∧ level ≤ s.dbg.lock ∧ dbgBusy s = false

/-- The state of a completed debug command: code 0, no data. -/
abbrev dbgDone (s : State) : State := dbgOk (setTap s 0x20)

abbrev Pre.response (level : Nat) (s : State) : Prop :=
  powered s = true ∧ s.dbg.nonce.isSome = true ∧ s.dbg.deny = false ∧ (level = 1 ∨ level = 2)

/-- The level that a debug command needs (R356). -/
def needLevel : Instr → Option Nat
  | .slHalt | .slResume | .slStep | .coreHalt _ | .coreHardHalt _ | .coreResume _ | .coreStep _ _ | .svnRaise _ | .wr32 _ _
  | .slBp _ _ _ | .slWp _ _ _ => some 2
  | .rd32 _ | .slReg _ => some 1
  | _ => none

end Sys2Proof.Machine
open Sys2Proof Sys2Proof.Machine in
/-- The debug port is unlocked, locked and refuses what its level does not allow. A challenge that is allowed gives
a nonce; a valid response to a nonce with DENY clear sets the level it names, and an invalid one counts as a
failure, blocks challenges for a second and leaves the level; LOCK returns to level 0; a command above the level is
DENIED and changes nothing but the TAP's instruction and the result; RD32 of four memory bytes free of poison gives
their value; WR32 of memory writes exactly those four bytes. (R355, R356, R357) -/
def Obligations.DebugAccess : Prop :=
  (∀ s, powered s = true → mayChallenge s = true → Gives .dbgChallenge s (fun t => t.dbg.nonce.isSome = true ∧
    t.dbg.lock = s.dbg.lock ∧ { t with dbg := s.dbg, free := s.free } = s)) ∧
  (∀ n s, Pre.response n s → Gives (.dbgResponse n true) s (fun t => t.dbg.lock = n ∧ bit (rg t 0x40004) 4 = true)) ∧
  (∀ n s, powered s = true → Gives (.dbgResponse n false) s (fun t => t.dbg.lock = s.dbg.lock ∧ t.dbg.fails = s.dbg.fails + 1 ∧
    t.dbg.blockUntil = s.flt.clock + 1000000000 ∧ bit (rg t 0x40004) 0 = true)) ∧
  (∀ s, Pre.dbg 0 s → Gives .lock s (fun t => t.dbg.lock = 0 ∧ t.dbg.code = 0 ∧ { t with dbg := s.dbg } = s)) ∧
  (∀ i n s, needLevel i = some n → powered s = true → s.dbg.lock < n → exec i s = .next (dbgResult (setTap s 0x20) 1 0)) ∧
  (∀ a s, Pre.dbg 1 s → a % 4 = 0 → inMem s a = true → isPoison s a = false → exec (.rd32 a) s =
    .next (dbgResult (setTap s 0x20) 0 (rdLe s a 4))) ∧
  (∀ a v s, Pre.dbg 2 s → a % 4 = 0 → inMem s a = true → Gives (.wr32 a v) s (fun t =>
    t.mem = memWrite s.mem a (leBytes 4 v) ∧ isPoison t a = false ∧ t.dbg.code = 0 ∧
    { t with dbg := s.dbg, mem := s.mem, poison := s.poison } = s))

namespace Sys2Proof.Machine

abbrev Pre.stepDue (n : Nat) (s : State) : Prop :=
  powered s = true ∧ (core s n).stepCtx.isSome = true ∧ (core s n).stepAt + 1000000 ≤ dt s

abbrev Pre.drained (n : Nat) (s : State) : Prop :=
  powered s = true ∧ n < 8 ∧ (core s n).haltReq = true ∧ (core s n).q = [] ∧ coreInB s n = false

end Sys2Proof.Machine
open Sys2Proof Sys2Proof.Machine in
/-- Safelight and cores are halted, stepped and resumed. SL_HALT and SL_STEP leave a Safelight that is not in a swap
or a tier M halted; SL_RESUME lets it run; breakpoints and watchpoints are set and removed; a hit halts it; SL_REG
of a running Safelight is an address error, and of a halted one changes nothing but the result. CORE_HALT of an idle
core halts it and of a busy one asks for the halt, which the last descriptor's end completes; CORE_HARD_HALT faults
every context of the core that is not OPEN, with 0x0503 where no ring group is open, and halts the core; CORE_STEP
names the context that may issue on a halted core, and a step not issued within 1 ms ends with NOT_ISSUED;
CORE_RESUME ends the halt. SVN_RAISE never lowers SVN_MIN and never raises it above the running firmware's. (R348,
R356, R358, R359) -/
def Obligations.DebugControl : Prop :=
  (∀ s, Pre.dbg 2 s → s.sl.swap = none → s.boot.tierM = false → Gives .slHalt s (fun t =>
    t.sl.halted = true ∧ { t with dbg := s.dbg, sl := s.sl } = s)) ∧
  (∀ s, Pre.dbg 2 s → s.sl.swap = none → s.boot.tierM = false → Gives .slStep s (fun t =>
    t.sl.halted = true ∧ t.dbg.sram = [])) ∧
  (∀ s, Pre.dbg 2 s → s.sl.haltReq = false → Gives .slResume s (fun t => t.sl.halted = false)) ∧
  (∀ n a en s, Pre.dbg 2 s → n < 8 → Gives (.slBp n a en) s (fun t =>
    tget none t.sl.bps n = (if en then some (a % 2 ^ 32) else none) ∧
    (∀ j, j ≠ n → tget none t.sl.bps j = tget none s.sl.bps j) ∧ { t with dbg := s.dbg, sl := s.sl } = s)) ∧
  (∀ n a d s, Pre.dbg 2 s → n < 4 → Gives (.slWp n a d) s (fun t =>
    tget none t.sl.wps n = (if d % 4 = 0 then none else some (a % 2 ^ 32, bits d 31 2, d % 4)) ∧
    (∀ j, j ≠ n → tget none t.sl.wps j = tget none s.sl.wps j) ∧ { t with dbg := s.dbg, sl := s.sl } = s)) ∧
  (∀ n s, slAvail s = true → s.sl.swap = none → (tget none s.sl.bps n).isSome = true → Gives (.slBreakHit false n) s (fun t =>
    t.sl.halted = true ∧ { t with sl := s.sl } = s)) ∧
  (∀ n s, slAvail s = true → s.sl.swap = none → (tget none s.sl.wps n).isSome = true → Gives (.slBreakHit true n) s (fun t =>
    t.sl.halted = true ∧ { t with sl := s.sl } = s)) ∧
  (∀ n s, Pre.dbg 1 s → s.sl.halted = false → exec (.slReg n) s = .next (badAddr (setTap s 0x20))) ∧
  (∀ n s, Pre.dbg 1 s → s.sl.halted = true → n < 64 → Gives (.slReg n) s (fun t => t.dbg.code = 0 ∧
    { t with dbg := s.dbg, free := s.free } = s)) ∧
  (∀ n s, Pre.dbg 2 s → n < 8 → (core s n).q = [] → coreInB s n = false → Gives (.coreHalt n) s (fun t =>
    (core t n).halted = true ∧ { t with dbg := s.dbg, cores := s.cores } = s)) ∧
  (∀ n s, Pre.dbg 2 s → n < 8 → (core s n).halted = false → (core s n).q ≠ [] → exec (.coreHalt n) s =
    .next (dbgDone (setCore s n { core s n with haltReq := true }))) ∧
  (∀ n s, Pre.drained n s → exec (.coreHaltDrained n) s = .next (setCore s n { core s n with halted := true, haltReq := false })) ∧
  (∀ n s, Pre.dbg 2 s → n < 8 → coreInB s n = false → (s.ctxs.map (·.1)).Nodup → Gives (.coreHardHalt n) s (fun t => (core t n).halted = true ∧
    (∀ c ∈ placedOn s (2 ^ n), (ctx s c).st ≠ .opened → (ctx t c).st = .faulted ∧
      (s.ring.groups = [] → (ctx s c).st ≠ .faulted → (ctx t c).cause = 0x0503)))) ∧
  (∀ n c s, Pre.dbg 2 s → n < 8 → c < 16384 → (core s n).halted = true → (ctx s c).st ≠ .free → (ctx s c).core = n →
    exec (.coreStep n c) s = .next (dbgDone (setCore s n { core s n with stepCtx := some c, stepAt := dt s }))) ∧
  (∀ n s, Pre.stepDue n s → exec (.coreStepTimeout n) s = .next (dbgResult (setCore s n { core s n with stepCtx := none }) 5 0)) ∧
  (∀ n s, Pre.dbg 2 s → n < 8 → exec (.coreResume n) s =
    .next (dbgDone (setCore s n { core s n with halted := false, haltReq := false }))) ∧
  (∀ v s, Pre.dbg 2 s → v < 256 → s.fuse.svnMin < v → v ≤ s.sl.svn → Gives (.svnRaise v) s (fun t =>
    t.fuse.svnMin = v ∧ { t with dbg := s.dbg, fuse := s.fuse } = s)) ∧
  (∀ v s, Pre.dbg 2 s → v < 256 → (v ≤ s.fuse.svnMin ∨ s.sl.svn < v) → exec (.svnRaise v) s = .next (badAddr (setTap s 0x20)))

namespace Sys2Proof.Machine


/-! ### Registers and host accesses (chapter 1 and the register tables) -/

end Sys2Proof.Machine
open Sys2Proof Sys2Proof.Machine in
/-- 64-bit register pairs latch their upper half. A read of the _LO register of a pair returns the lower half and
latches the upper; the first read of _HI after it returns the latched half and releases the latch; a read of _HI
with no latch held returns the live upper half; a read of any other register leaves the pair's latch as it is. (R12)
-/
def Obligations.RegisterPairs : Prop :=
  (∀ o v s, powered s = true → pair s o = some v → Gives (.regReadLoLatch o 4) s (fun t => t.busData = v % 2 ^ 32 ∧
    tget none t.latch (o + 4) = some (BitVec.ofNat 32 (v / 2 ^ 32)))) ∧
  (∀ o v h s, powered s = true → pair s o = some v → tget none s.latch (o + 4) = some h → Gives (.regReadLoLatch (o + 4) 4) s (fun t =>
    t.busData = h.toNat ∧ tget none t.latch (o + 4) = none)) ∧
  (∀ o v s, powered s = true → pair s o = some v → tget none s.latch (o + 4) = none → Gives (.regReadLoLatch (o + 4) 4) s (fun t =>
    t.busData = v / 2 ^ 32 % 2 ^ 32 ∧ tget none t.latch (o + 4) = none)) ∧
  (∀ o v k n s, powered s = true → pair s o = some v → k / 4 * 4 ≠ o → k / 4 * 4 ≠ o + 4 → Gives (.regReadLoLatch k n) s (fun t =>
    tget none t.latch (o + 4) = tget none s.latch (o + 4)))

namespace Sys2Proof.Machine

/-- The access is logged as unsupported (R344). -/
abbrev logged (s t : State) (bar off : Nat) (write : Bool) : Prop :=
  t.flt = { s.flt with unsupAddr := off, unsupInfo := (if write then 0x80000000 else 0) + bar,
                       unsupCnt := min sat32 (s.flt.unsupCnt + 1) } ∧ bit (rg t 0x30004) 7 = true

end Sys2Proof.Machine
open Sys2Proof Sys2Proof.Machine in
/-- BAR2 above the Darkroom is not backed. A read of BAR2 at an offset from 0x0300_0000 to 0x03FF_FFFF returns zero,
a write is discarded, and each is logged as an unsupported access; nothing else changes. (R19) -/
def Obligations.Bar2Unbacked : Prop :=
  (∀ off e s, powered s = true → 0x3000000 ≤ off → off < 0x4000000 → Gives (.bar2Access off none e) s (fun t =>
    t.busData = 0 ∧ logged s t 2 off false ∧
    { t with flt := s.flt, regs := s.regs, busData := s.busData, busPoison := s.busPoison } = s)) ∧
  (∀ off v e s, powered s = true → 0x3000000 ≤ off → off < 0x4000000 → Gives (.bar2Access off (some v) e) s (fun t =>
    logged s t 2 off true ∧ { t with flt := s.flt, regs := s.regs } = s))

namespace Sys2Proof.Machine

abbrev Pre.plainWrite (off : Nat) (r : RegRow) (v : Word) (s : State) : Prop :=
  powered s = true ∧ off % 4 = 0 ∧ off < 0x2000000 ∧ windowWrite s off v = none ∧ findReg off = some r ∧ special s off v = none ∧
    refused s off v.toNat = false

abbrev Pre.badWrite (off : Nat) (v : Word) (s : State) : Prop :=
  powered s = true ∧ (off % 4 ≠ 0 ∨ 0x2000000 ≤ off ∨ (windowWrite s off v = none ∧ (findReg off = none ∨
    (special s off v = none ∧ refused s off v.toNat = true))))

abbrev Pre.bar4 (off : Nat) (s : State) : Prop := isReady s = true ∧ off + 4 ≤ 0x100000000

abbrev bar4Addr (s : State) (off : Nat) : Nat := rf s 0x10100 7 0 * 0x40000000 + off

/-- The bus has the four bytes at `a`, after the errors `e` that the read itself meets. -/
abbrev readOf (s t : State) (a : Nat) (e : List (Nat × Bool)) : Prop :=
  let p := readsPoison (eccErrors s (eccWithin s a 4 e)) a 4
  t.mem = s.mem ∧ t.busPoison = p ∧ t.busData = (if p then sat32 else rdLe s a 4)

end Sys2Proof.Machine
open Sys2Proof Sys2Proof.Machine in
/-- Host writes and reads of registers and memory. A write of a register without an effect or condition of its own
stores its RW bits, clears the W1C bits written as 1 and changes nothing else; a write that is unallocated,
misaligned or refused is discarded and logged; an unsupported access is logged and a read of it returns zero. BAR2
reads and writes four bytes of the Darkroom and BAR4 four at the aperture's base; a read that meets poison, its own
uncorrectable errors among it, gives all ones marked poisoned. PCIE_APT_BASE takes a base within the installed DRAM.
DBG_CTRL locks the debug port and sets DENY. A flag's event sets its bit and counts, up to all ones. (R8, R10, R11,
R20, R320, R344, R355) -/
def Obligations.HostRegisters : Prop :=
  (∀ off r v s, Pre.plainWrite off r v s → Gives (.registerWrite off v) s (fun t =>
    rget t off = (((rget s off &&& ~~~BitVec.ofNat 32 r.rw) ||| (v &&& BitVec.ofNat 32 r.rw)) &&& ~~~(v &&& BitVec.ofNat 32 r.w1c)) ∧
    (∀ k, k ≠ off → rget t k = rget s k) ∧ { t with regs := s.regs } = s)) ∧
  (∀ off v s, Pre.badWrite off v s → Gives (.registerWrite off v) s (fun t =>
    logged s t 0 off true ∧ { t with flt := s.flt, regs := s.regs } = s)) ∧
  (∀ bar off w len s, powered s = true → unsupported s bar off len = true → Gives (.unsupportedAccess bar off w len) s (fun t =>
    logged s t bar off w ∧ (w = false → t.busData = 0) ∧
    { t with flt := s.flt, regs := s.regs, busData := s.busData, busPoison := s.busPoison } = s)) ∧
  (∀ off e s, isReady s = true → off + 4 ≤ drkSize → Gives (.bar2Access off none e) s (fun t => readOf s t (drkBase + off) e)) ∧
  (∀ off v e s, isReady s = true → off + 4 ≤ drkSize → Gives (.bar2Access off (some v) e) s (fun t =>
    t.mem = memWrite s.mem (drkBase + off) (leBytes 4 v.toNat))) ∧
  (∀ off e s, Pre.bar4 off s → Gives (.bar4Access off none e) s (fun t => readOf s t (bar4Addr s off) e)) ∧
  (∀ off v e s, Pre.bar4 off s → Gives (.bar4Access off (some v) e) s (fun t =>
    t.mem = memWrite s.mem (bar4Addr s off) (leBytes 4 v.toNat))) ∧
  (∀ v s, powered s = true → exec (.pcieAptBaseWrite v) s = .next (
    if bits v.toNat 7 0 + 4 ≤ s.board.chanGib * 6 then rsetN s 0x10100 (bits v.toNat 7 0) else logUnsup s 0 0x10100 true)) ∧
  (∀ s, powered s = true → exec .dbgCtrlLock s = .next { s with dbg := { s.dbg with lock := 0 } }) ∧
  (∀ s, powered s = true → exec .dbgCtrlDeny s = .next { s with dbg := { s.dbg with deny := true } }) ∧
  (∀ s off b, b < 32 → off % 4 = 0 → bit (rg (flag s off b) off) b = true ∧
    rg (flag s off b) (cntOf off) = min sat32 (rg s (cntOf off) + 1) ∧ { flag s off b with regs := s.regs } = s)

namespace Sys2Proof.Machine

abbrev Pre.spnFree (p : Nat) (s : State) : Prop := powered s = true ∧ p < 8 ∧ spEn s p = false

abbrev spnSet (s : State) (p : Nat) (v : Word) : State := rset s (spBase p) (v &&& 0x7FFFFF87)

abbrev poolCfg (s : State) (p : Nat) (v : Word) : State :=
  rset s (0x80100 + 16 * p) ((v &&& 0x3F01FFFF) ||| (rget s (0x80100 + 16 * p) &&& 0x40000000))

abbrev Pre.pool (p : Nat) (s : State) : Prop := powered s = true ∧ p < 4 ∧ poolUsed s p = 0

end Sys2Proof.Machine
open Sys2Proof Sys2Proof.Machine in
/-- Registers whose writes have conditions. While no lane is active, no web-time entry armed and no line trigger
armed, TMU_WT_SET_HI sets web time to the value written in both halves and ends the reverse debt and its saturation,
and TMU_DIV with a DEN other than 0 and a NUM of at most 16 x DEN keeps the published web time, its remainder
rounded down from the published fraction; otherwise both are discarded and logged. TMU_SH_PART takes a partition
that passes its conditions. SPn_CFG of a disabled port takes its fields, and EN if its checks pass, CFG_REJECT if
not; of an enabled port it may only clear EN, with no active lane on the port. KVM_POOLp_CFG of a pool without
frames takes its fields, and EN or CFG_REJECT by its checks; with frames it is discarded. (R56, R57, R64, R78, R174)
-/
def Obligations.UnitRegisters : Prop :=
  (∀ v s, powered s = true → wtSettable s = true → Gives (.tmuWtSetHiWrite v) s (fun t =>
    wt t = rg s 0x20028 + v.toNat * 2 ^ 32 ∧ t.tmu.rem = rg s 0x20028 % 65536 * max 1 (den s) / 65536 ∧
    t.tmu.debt = 0 ∧ t.tmu.sat = false ∧ { t with tmu := s.tmu, regs := s.regs } = s)) ∧
  (∀ v s, powered s = true → wtSettable s = false → exec (.tmuWtSetHiWrite v) s = .next (logUnsup s 0 0x2002C true)) ∧
  (∀ v s, powered s = true → wtSettable s = true → bits v.toNat 15 0 ≠ 0 → bits v.toNat 31 16 ≤ 16 * bits v.toNat 15 0 → Gives (.tmuDivWrite v) s (fun t =>
    wt t = wt s ∧ rget t 0x20014 = v ∧ t.tmu = { s.tmu with rem := s.tmu.frac * bits v.toNat 15 0 / 65536 } ∧
    { t with tmu := s.tmu, regs := s.regs } = s)) ∧
  (∀ v s, powered s = true → (wtSettable s = false ∨ bits v.toNat 15 0 = 0 ∨ 16 * bits v.toNat 15 0 < bits v.toNat 31 16) → exec (.tmuDivWrite v) s =
    .next (logUnsup s 0 0x20014 true)) ∧
  (∀ v s, powered s = true → exec (.tmuShPartWrite v) s = .next (
    if partOk s (bits v.toNat 10 0) then rsetN s 0x20040 (bits v.toNat 10 0) else logUnsup s 0 0x20040 true)) ∧
  (∀ p v s, Pre.spnFree p s → bit v.toNat 31 = true → portOk (spnSet s p v) p = true → Gives (.spnCfgEnable p v) s (fun t =>
    spEn t p = true ∧ { t with regs := s.regs } = s)) ∧
  (∀ p v s, Pre.spnFree p s → bit v.toNat 31 = true → portOk (spnSet s p v) p = false → Gives (.spnCfgEnable p v) s (fun t =>
    spEn t p = false ∧ bit (rg t (spBase p + 0x10)) 5 = true ∧ { t with regs := s.regs } = s)) ∧
  (∀ p v s, powered s = true → p < 8 → spEn s p = true → (bit v.toNat 31 = true ∨
      lanesMeet s (pixBase s p) (pixBase s p + mapped s p) = true) → exec (.spnCfgEnable p v) s = .next (logUnsup s 0 (spBase p) true)) ∧
  (∀ p v s, powered s = true → p < 8 → spEn s p = true → bit v.toNat 31 = false →
    lanesMeet s (pixBase s p) (pixBase s p + mapped s p) = false → Gives (.spnCfgEnable p v) s (fun t =>
      spEn t p = false ∧ { t with regs := s.regs, fe := s.fe } = s)) ∧
  (∀ p v s, Pre.pool p s → bit v.toNat 31 = true → Gives (.kvmPoolEnable p v) s (fun t =>
    poolEn t p = framePoolOk (poolCfg s p v) p ∧ bit (rg t (0x80100 + 16 * p)) 30 = !framePoolOk (poolCfg s p v) p ∧
    { t with regs := s.regs } = s)) ∧
  (∀ p v s, powered s = true → p < 4 → poolUsed s p ≠ 0 → exec (.kvmPoolEnable p v) s = .next (logUnsup s 0 (0x80100 + 16 * p) true))

namespace Sys2Proof.Machine

/-! ### Steps, acceptance and replies (chapter 15), and what every step keeps -/

end Sys2Proof.Machine
open Sys2Proof Sys2Proof.Machine in
/-- A step runs the front command, or lets a nanosecond pass. A step takes the command at the front of the queue and
is its effect on the state with the queue's rest; on an empty queue, by the model's choice (notes/assumptions/1.md),
device time of a powered device goes on by 1 ns and web time holds, and an unpowered device stays as it is. Every
step answers a next state. (R55, 95_what_each_step_holds.md) -/
def Obligations.Steps : Prop :=
  (∀ c l s, s.pending = c :: l → step s = exec c { s with pending := l }) ∧
  (∀ s, s.pending = [] → powered s = true → ∃ t, step s = .next t ∧ dt t = dt s + 1 ∧ wt t = wt s ∧ t.pending = []) ∧
  (∀ s, s.pending = [] → powered s = false → step s = .next s) ∧
  (∀ s, Safe s)

namespace Sys2Proof.Machine

abbrev Pre.reply (f : Flight) (r : SubRing) (q : CompRing) (s : State) : Prop :=
  f.c.dev = false ∧ sq s f.c.sq = some r ∧ cq s r.cq = some q ∧ q.wait = []

end Sys2Proof.Machine
open Sys2Proof Sys2Proof.Machine in
/-- Commands are accepted or refused, and reply. A packet that cannot be accepted now changes nothing; an accepted
packet with an opcode that is not listed replies BAD_OPCODE, one with an offending byte BAD_PARAM with the byte's
offset, one that must wait for ready replies STARTING and one refused out of service OUT_OF_SERVICE, each without
its effect. A completing command whose completion ring has room writes its 32 bytes at the ring's tail with the
phase, then signals DONE_MARK; a QUIET one with OK or DEFERRED writes nothing; with no room the reply waits and
CQ_FULL is set. (R276, R278, R279, R281, R284) -/
def Obligations.CommandProtocol : Prop :=
  (∀ c op chk body s, c.dev = false → acceptable s c = false → accept s c op chk body = s) ∧
  (∀ c op chk body s, c.dev = false → acceptable s c = true → badOpcode c = true →
    accept s c op chk body = complete (took c s) (flightOf c s) stBadOpcode 0 0) ∧
  (∀ c op chk body d s, c.dev = false → acceptable s c = true → badOpcode c = false → badByte chk c.rsv = some d →
    accept s c op chk body = complete (took c s) (flightOf c s) stBadParam d 0) ∧
  (∀ c op chk body s, c.dev = false → acceptable s c = true → badOpcode c = false → badByte chk c.rsv = none → isReady s = false → earlyOp op = false →
    accept s c op chk body = complete (took c s) (flightOf c s) stStarting 0 0) ∧
  (∀ c op chk body s, c.dev = false → acceptable s c = true → badOpcode c = false → badByte chk c.rsv = none → isReady s = true → s.flt.oos = true →
    oosOp op = false → accept s c op chk body = complete (took c s) (flightOf c s) stOos 0 0) ∧
  (∀ f r q st d res s, Pre.reply f r q s → cqRoom q = true → (f.c.quiet = false ∨ (st ≠ stOk ∧ st ≠ stDeferred)) →
    let t := complete s f st d res
    let bs := listSet (replyBytes st f.c.sq f.c.tag.toNat f.idx r.head d res (dt s)) 3 (BitVec.ofNat 8 (phase q.log2 q.wr))
    t.mem = memWrite s.mem (q.base + 32 * (q.wr % ringSize q.log2)) bs ∧ bs.length = 32 ∧
    cq t r.cq = some { q with wr := q.wr + 1 } ∧
    mark t f.c.doneMark = (if f.c.doneAdd = 0 then mark s f.c.doneMark else min (mark s f.c.doneMark + f.c.doneAdd) sat64)) ∧
  (∀ f r q st d res s, Pre.reply f r q s → f.c.quiet = true → (st = stOk ∨ st = stDeferred) →
    (complete s f st d res).mem = s.mem ∧ cq (complete s f st d res) r.cq = some q) ∧
  (∀ f r q st d res s, Pre.reply f r q s → cqRoom q = false → (f.c.quiet = false ∨ (st ≠ stOk ∧ st ≠ stDeferred)) →
    (complete s f st d res).mem = s.mem ∧ bit (rg (complete s f st d res) 0x50120) 4 = true ∧
    ∃ p, cq (complete s f st d res) r.cq = some { q with wait := [p] })

open Sys2Proof Sys2Proof.Machine in
/-- What reset leaves. At reset no command waits, memory has its canonical form with nothing listed, PERST_N is
asserted, every lane is STOPPED, every context and stream slot FREE, every job slot empty, every mark, web time and
device time 0, the debug lock LOCKED, the device in service, and TMU_SH_PART, TMU_ENC_CFG and FLT_CTRL hold their
reset values. (R35, R55, R64, R255, R258, R355, R363) -/
def Obligations.ResetState : Prop :=
  let s := State.reset
  s.pending = [] ∧ s.mem = [] ∧ Memory.wf s.mem = true ∧ s.pins.perst = true ∧ (∀ n, (lane s n).st = .stopped) ∧
  (∀ n, (ctx s n).st = .free) ∧ (∀ n, (stream s n).st = .free) ∧ (∀ n, (job s n).st = .empty) ∧ (∀ m, mark s m = 0) ∧
  wt s = 0 ∧ dt s = 0 ∧ s.dbg.lock = 0 ∧ s.flt.oos = false ∧ rg s 0x20040 = 64 ∧ rg s 0x20010 = 0x440502 ∧ rg s 0x30000 = 1

open Sys2Proof Sys2Proof.Machine in
/-- Every step keeps memory in its canonical form. If the addresses listed in memory rise strictly and no listed
byte is 0, what an unlisted byte reads as by the model's choice (notes/assumptions/7.md), then after any step they
still do; so equal memories are equal data. (R17, R117, R272) -/
def Obligations.MemoryForm : Prop :=
  (∀ s t, Memory.wf s.mem = true → step s = .next t → Memory.wf t.mem = true) ∧
  (∀ a b : Mem, Memory.wf a = true → Memory.wf b = true → (∀ k, tget 0 a k = tget 0 b k) → a = b)

open Sys2Proof Sys2Proof.Machine in
/-- What no command changes or only one may raise. No command touches the queue: after a step it is the rest of the
queue, in order. The speed, temperature and serial fuses never change and SVN_MIN never falls. The debug lock's
level rises only by a valid response, while DENY is clear. (R4, R5, R348, R355, 95_what_each_step_holds.md) -/
def Obligations.ProtectedState : Prop :=
  (∀ s t, step s = .next t → t.pending = s.pending.tail) ∧
  (∀ i s t, exec i s = .next t → t.fuse = { s.fuse with svnMin := t.fuse.svnMin } ∧ s.fuse.svnMin ≤ t.fuse.svnMin) ∧
  (∀ i s t, exec i s = .next t → s.dbg.lock < t.dbg.lock → ∃ n, i = .dbgResponse n true ∧ s.dbg.deny = false)
end

