-- ==== Sys2Proof/Laws/State.lean ====
section
/-! SUPPORT. One lemma for each field of the state and each named update: what the update leaves alone, and what it
writes. -/

namespace Sys2Proof.Machine

variable (s : State)

/-! ### useFresh -/

@[simp] theorem useFresh_pending : (useFresh s).pending = s.pending := rfl
@[simp] theorem useFresh_regs : (useFresh s).regs = s.regs := rfl
@[simp] theorem useFresh_latch : (useFresh s).latch = s.latch := rfl
@[simp] theorem useFresh_ctr : (useFresh s).ctr = s.ctr := rfl
@[simp] theorem useFresh_busData : (useFresh s).busData = s.busData := rfl
@[simp] theorem useFresh_busPoison : (useFresh s).busPoison = s.busPoison := rfl
@[simp] theorem useFresh_mem : (useFresh s).mem = s.mem := rfl
@[simp] theorem useFresh_poison : (useFresh s).poison = s.poison := rfl
@[simp] theorem useFresh_pins : (useFresh s).pins = s.pins := rfl
@[simp] theorem useFresh_boot : (useFresh s).boot = s.boot := rfl
@[simp] theorem useFresh_fuse : (useFresh s).fuse = s.fuse := rfl
@[simp] theorem useFresh_flash : (useFresh s).flash = s.flash := rfl
@[simp] theorem useFresh_board : (useFresh s).board = s.board := rfl
@[simp] theorem useFresh_sl : (useFresh s).sl = s.sl := rfl
@[simp] theorem useFresh_pwr : (useFresh s).pwr = s.pwr := rfl
@[simp] theorem useFresh_dbg : (useFresh s).dbg = s.dbg := rfl
@[simp] theorem useFresh_sal : (useFresh s).sal = s.sal := rfl
@[simp] theorem useFresh_tmu : (useFresh s).tmu = s.tmu := rfl
@[simp] theorem useFresh_sht : (useFresh s).sht = s.sht := rfl
@[simp] theorem useFresh_lanes : (useFresh s).lanes = s.lanes := rfl
@[simp] theorem useFresh_jobs : (useFresh s).jobs = s.jobs := rfl
@[simp] theorem useFresh_ctxs : (useFresh s).ctxs = s.ctxs := rfl
@[simp] theorem useFresh_marks : (useFresh s).marks = s.marks := rfl
@[simp] theorem useFresh_cores : (useFresh s).cores = s.cores := rfl
@[simp] theorem useFresh_hst : (useFresh s).hst = s.hst := rfl
@[simp] theorem useFresh_kv : (useFresh s).kv = s.kv := rfl
@[simp] theorem useFresh_ring : (useFresh s).ring = s.ring := rfl
@[simp] theorem useFresh_cap : (useFresh s).cap = s.cap := rfl
@[simp] theorem useFresh_fe : (useFresh s).fe = s.fe := rfl
@[simp] theorem useFresh_code : (useFresh s).code = s.code := rfl
@[simp] theorem useFresh_streams : (useFresh s).streams = s.streams := rfl
@[simp] theorem useFresh_hot : (useFresh s).hot = s.hot := rfl
@[simp] theorem useFresh_adapts : (useFresh s).adapts = s.adapts := rfl
@[simp] theorem useFresh_mc : (useFresh s).mc = s.mc := rfl
@[simp] theorem useFresh_flt : (useFresh s).flt = s.flt := rfl

/-! ### rset -/

@[simp] theorem rset_pending (off : Nat) (v : Word) : (rset s off v).pending = s.pending := rfl
@[simp] theorem rset_free (off : Nat) (v : Word) : (rset s off v).free = s.free := rfl
@[simp] theorem rset_latch (off : Nat) (v : Word) : (rset s off v).latch = s.latch := rfl
@[simp] theorem rset_ctr (off : Nat) (v : Word) : (rset s off v).ctr = s.ctr := rfl
@[simp] theorem rset_busData (off : Nat) (v : Word) : (rset s off v).busData = s.busData := rfl
@[simp] theorem rset_busPoison (off : Nat) (v : Word) : (rset s off v).busPoison = s.busPoison := rfl
@[simp] theorem rset_mem (off : Nat) (v : Word) : (rset s off v).mem = s.mem := rfl
@[simp] theorem rset_poison (off : Nat) (v : Word) : (rset s off v).poison = s.poison := rfl
@[simp] theorem rset_pins (off : Nat) (v : Word) : (rset s off v).pins = s.pins := rfl
@[simp] theorem rset_boot (off : Nat) (v : Word) : (rset s off v).boot = s.boot := rfl
@[simp] theorem rset_fuse (off : Nat) (v : Word) : (rset s off v).fuse = s.fuse := rfl
@[simp] theorem rset_flash (off : Nat) (v : Word) : (rset s off v).flash = s.flash := rfl
@[simp] theorem rset_board (off : Nat) (v : Word) : (rset s off v).board = s.board := rfl
@[simp] theorem rset_sl (off : Nat) (v : Word) : (rset s off v).sl = s.sl := rfl
@[simp] theorem rset_pwr (off : Nat) (v : Word) : (rset s off v).pwr = s.pwr := rfl
@[simp] theorem rset_dbg (off : Nat) (v : Word) : (rset s off v).dbg = s.dbg := rfl
@[simp] theorem rset_sal (off : Nat) (v : Word) : (rset s off v).sal = s.sal := rfl
@[simp] theorem rset_tmu (off : Nat) (v : Word) : (rset s off v).tmu = s.tmu := rfl
@[simp] theorem rset_sht (off : Nat) (v : Word) : (rset s off v).sht = s.sht := rfl
@[simp] theorem rset_lanes (off : Nat) (v : Word) : (rset s off v).lanes = s.lanes := rfl
@[simp] theorem rset_jobs (off : Nat) (v : Word) : (rset s off v).jobs = s.jobs := rfl
@[simp] theorem rset_ctxs (off : Nat) (v : Word) : (rset s off v).ctxs = s.ctxs := rfl
@[simp] theorem rset_marks (off : Nat) (v : Word) : (rset s off v).marks = s.marks := rfl
@[simp] theorem rset_cores (off : Nat) (v : Word) : (rset s off v).cores = s.cores := rfl
@[simp] theorem rset_hst (off : Nat) (v : Word) : (rset s off v).hst = s.hst := rfl
@[simp] theorem rset_kv (off : Nat) (v : Word) : (rset s off v).kv = s.kv := rfl
@[simp] theorem rset_ring (off : Nat) (v : Word) : (rset s off v).ring = s.ring := rfl
@[simp] theorem rset_cap (off : Nat) (v : Word) : (rset s off v).cap = s.cap := rfl
@[simp] theorem rset_fe (off : Nat) (v : Word) : (rset s off v).fe = s.fe := rfl
@[simp] theorem rset_code (off : Nat) (v : Word) : (rset s off v).code = s.code := rfl
@[simp] theorem rset_streams (off : Nat) (v : Word) : (rset s off v).streams = s.streams := rfl
@[simp] theorem rset_hot (off : Nat) (v : Word) : (rset s off v).hot = s.hot := rfl
@[simp] theorem rset_adapts (off : Nat) (v : Word) : (rset s off v).adapts = s.adapts := rfl
@[simp] theorem rset_mc (off : Nat) (v : Word) : (rset s off v).mc = s.mc := rfl
@[simp] theorem rset_flt (off : Nat) (v : Word) : (rset s off v).flt = s.flt := rfl

/-! ### cadd -/

@[simp] theorem cadd_pending (off n : Nat) : (cadd s off n).pending = s.pending := rfl
@[simp] theorem cadd_free (off n : Nat) : (cadd s off n).free = s.free := rfl
@[simp] theorem cadd_regs (off n : Nat) : (cadd s off n).regs = s.regs := rfl
@[simp] theorem cadd_latch (off n : Nat) : (cadd s off n).latch = s.latch := rfl
@[simp] theorem cadd_busData (off n : Nat) : (cadd s off n).busData = s.busData := rfl
@[simp] theorem cadd_busPoison (off n : Nat) : (cadd s off n).busPoison = s.busPoison := rfl
@[simp] theorem cadd_mem (off n : Nat) : (cadd s off n).mem = s.mem := rfl
@[simp] theorem cadd_poison (off n : Nat) : (cadd s off n).poison = s.poison := rfl
@[simp] theorem cadd_pins (off n : Nat) : (cadd s off n).pins = s.pins := rfl
@[simp] theorem cadd_boot (off n : Nat) : (cadd s off n).boot = s.boot := rfl
@[simp] theorem cadd_fuse (off n : Nat) : (cadd s off n).fuse = s.fuse := rfl
@[simp] theorem cadd_flash (off n : Nat) : (cadd s off n).flash = s.flash := rfl
@[simp] theorem cadd_board (off n : Nat) : (cadd s off n).board = s.board := rfl
@[simp] theorem cadd_sl (off n : Nat) : (cadd s off n).sl = s.sl := rfl
@[simp] theorem cadd_pwr (off n : Nat) : (cadd s off n).pwr = s.pwr := rfl
@[simp] theorem cadd_dbg (off n : Nat) : (cadd s off n).dbg = s.dbg := rfl
@[simp] theorem cadd_sal (off n : Nat) : (cadd s off n).sal = s.sal := rfl
@[simp] theorem cadd_tmu (off n : Nat) : (cadd s off n).tmu = s.tmu := rfl
@[simp] theorem cadd_sht (off n : Nat) : (cadd s off n).sht = s.sht := rfl
@[simp] theorem cadd_lanes (off n : Nat) : (cadd s off n).lanes = s.lanes := rfl
@[simp] theorem cadd_jobs (off n : Nat) : (cadd s off n).jobs = s.jobs := rfl
@[simp] theorem cadd_ctxs (off n : Nat) : (cadd s off n).ctxs = s.ctxs := rfl
@[simp] theorem cadd_marks (off n : Nat) : (cadd s off n).marks = s.marks := rfl
@[simp] theorem cadd_cores (off n : Nat) : (cadd s off n).cores = s.cores := rfl
@[simp] theorem cadd_hst (off n : Nat) : (cadd s off n).hst = s.hst := rfl
@[simp] theorem cadd_kv (off n : Nat) : (cadd s off n).kv = s.kv := rfl
@[simp] theorem cadd_ring (off n : Nat) : (cadd s off n).ring = s.ring := rfl
@[simp] theorem cadd_cap (off n : Nat) : (cadd s off n).cap = s.cap := rfl
@[simp] theorem cadd_fe (off n : Nat) : (cadd s off n).fe = s.fe := rfl
@[simp] theorem cadd_code (off n : Nat) : (cadd s off n).code = s.code := rfl
@[simp] theorem cadd_streams (off n : Nat) : (cadd s off n).streams = s.streams := rfl
@[simp] theorem cadd_hot (off n : Nat) : (cadd s off n).hot = s.hot := rfl
@[simp] theorem cadd_adapts (off n : Nat) : (cadd s off n).adapts = s.adapts := rfl
@[simp] theorem cadd_mc (off n : Nat) : (cadd s off n).mc = s.mc := rfl
@[simp] theorem cadd_flt (off n : Nat) : (cadd s off n).flt = s.flt := rfl

/-! ### mwr -/

@[simp] theorem mwr_pending (a : Nat) (b : Byte) : (mwr s a b).pending = s.pending := rfl
@[simp] theorem mwr_free (a : Nat) (b : Byte) : (mwr s a b).free = s.free := rfl
@[simp] theorem mwr_regs (a : Nat) (b : Byte) : (mwr s a b).regs = s.regs := rfl
@[simp] theorem mwr_latch (a : Nat) (b : Byte) : (mwr s a b).latch = s.latch := rfl
@[simp] theorem mwr_ctr (a : Nat) (b : Byte) : (mwr s a b).ctr = s.ctr := rfl
@[simp] theorem mwr_busData (a : Nat) (b : Byte) : (mwr s a b).busData = s.busData := rfl
@[simp] theorem mwr_busPoison (a : Nat) (b : Byte) : (mwr s a b).busPoison = s.busPoison := rfl
@[simp] theorem mwr_poison (a : Nat) (b : Byte) : (mwr s a b).poison = s.poison := rfl
@[simp] theorem mwr_pins (a : Nat) (b : Byte) : (mwr s a b).pins = s.pins := rfl
@[simp] theorem mwr_boot (a : Nat) (b : Byte) : (mwr s a b).boot = s.boot := rfl
@[simp] theorem mwr_fuse (a : Nat) (b : Byte) : (mwr s a b).fuse = s.fuse := rfl
@[simp] theorem mwr_flash (a : Nat) (b : Byte) : (mwr s a b).flash = s.flash := rfl
@[simp] theorem mwr_board (a : Nat) (b : Byte) : (mwr s a b).board = s.board := rfl
@[simp] theorem mwr_sl (a : Nat) (b : Byte) : (mwr s a b).sl = s.sl := rfl
@[simp] theorem mwr_pwr (a : Nat) (b : Byte) : (mwr s a b).pwr = s.pwr := rfl
@[simp] theorem mwr_dbg (a : Nat) (b : Byte) : (mwr s a b).dbg = s.dbg := rfl
@[simp] theorem mwr_sal (a : Nat) (b : Byte) : (mwr s a b).sal = s.sal := rfl
@[simp] theorem mwr_tmu (a : Nat) (b : Byte) : (mwr s a b).tmu = s.tmu := rfl
@[simp] theorem mwr_sht (a : Nat) (b : Byte) : (mwr s a b).sht = s.sht := rfl
@[simp] theorem mwr_lanes (a : Nat) (b : Byte) : (mwr s a b).lanes = s.lanes := rfl
@[simp] theorem mwr_jobs (a : Nat) (b : Byte) : (mwr s a b).jobs = s.jobs := rfl
@[simp] theorem mwr_ctxs (a : Nat) (b : Byte) : (mwr s a b).ctxs = s.ctxs := rfl
@[simp] theorem mwr_marks (a : Nat) (b : Byte) : (mwr s a b).marks = s.marks := rfl
@[simp] theorem mwr_cores (a : Nat) (b : Byte) : (mwr s a b).cores = s.cores := rfl
@[simp] theorem mwr_hst (a : Nat) (b : Byte) : (mwr s a b).hst = s.hst := rfl
@[simp] theorem mwr_kv (a : Nat) (b : Byte) : (mwr s a b).kv = s.kv := rfl
@[simp] theorem mwr_ring (a : Nat) (b : Byte) : (mwr s a b).ring = s.ring := rfl
@[simp] theorem mwr_cap (a : Nat) (b : Byte) : (mwr s a b).cap = s.cap := rfl
@[simp] theorem mwr_fe (a : Nat) (b : Byte) : (mwr s a b).fe = s.fe := rfl
@[simp] theorem mwr_code (a : Nat) (b : Byte) : (mwr s a b).code = s.code := rfl
@[simp] theorem mwr_streams (a : Nat) (b : Byte) : (mwr s a b).streams = s.streams := rfl
@[simp] theorem mwr_hot (a : Nat) (b : Byte) : (mwr s a b).hot = s.hot := rfl
@[simp] theorem mwr_adapts (a : Nat) (b : Byte) : (mwr s a b).adapts = s.adapts := rfl
@[simp] theorem mwr_mc (a : Nat) (b : Byte) : (mwr s a b).mc = s.mc := rfl
@[simp] theorem mwr_flt (a : Nat) (b : Byte) : (mwr s a b).flt = s.flt := rfl

/-! ### wrBytes -/

@[simp] theorem wrBytes_pending (a : Nat) (bs : List Byte) : (wrBytes s a bs).pending = s.pending := rfl
@[simp] theorem wrBytes_free (a : Nat) (bs : List Byte) : (wrBytes s a bs).free = s.free := rfl
@[simp] theorem wrBytes_regs (a : Nat) (bs : List Byte) : (wrBytes s a bs).regs = s.regs := rfl
@[simp] theorem wrBytes_latch (a : Nat) (bs : List Byte) : (wrBytes s a bs).latch = s.latch := rfl
@[simp] theorem wrBytes_ctr (a : Nat) (bs : List Byte) : (wrBytes s a bs).ctr = s.ctr := rfl
@[simp] theorem wrBytes_busData (a : Nat) (bs : List Byte) : (wrBytes s a bs).busData = s.busData := rfl
@[simp] theorem wrBytes_busPoison (a : Nat) (bs : List Byte) : (wrBytes s a bs).busPoison = s.busPoison := rfl
@[simp] theorem wrBytes_poison (a : Nat) (bs : List Byte) : (wrBytes s a bs).poison = s.poison := rfl
@[simp] theorem wrBytes_pins (a : Nat) (bs : List Byte) : (wrBytes s a bs).pins = s.pins := rfl
@[simp] theorem wrBytes_boot (a : Nat) (bs : List Byte) : (wrBytes s a bs).boot = s.boot := rfl
@[simp] theorem wrBytes_fuse (a : Nat) (bs : List Byte) : (wrBytes s a bs).fuse = s.fuse := rfl
@[simp] theorem wrBytes_flash (a : Nat) (bs : List Byte) : (wrBytes s a bs).flash = s.flash := rfl
@[simp] theorem wrBytes_board (a : Nat) (bs : List Byte) : (wrBytes s a bs).board = s.board := rfl
@[simp] theorem wrBytes_sl (a : Nat) (bs : List Byte) : (wrBytes s a bs).sl = s.sl := rfl
@[simp] theorem wrBytes_pwr (a : Nat) (bs : List Byte) : (wrBytes s a bs).pwr = s.pwr := rfl
@[simp] theorem wrBytes_dbg (a : Nat) (bs : List Byte) : (wrBytes s a bs).dbg = s.dbg := rfl
@[simp] theorem wrBytes_sal (a : Nat) (bs : List Byte) : (wrBytes s a bs).sal = s.sal := rfl
@[simp] theorem wrBytes_tmu (a : Nat) (bs : List Byte) : (wrBytes s a bs).tmu = s.tmu := rfl
@[simp] theorem wrBytes_sht (a : Nat) (bs : List Byte) : (wrBytes s a bs).sht = s.sht := rfl
@[simp] theorem wrBytes_lanes (a : Nat) (bs : List Byte) : (wrBytes s a bs).lanes = s.lanes := rfl
@[simp] theorem wrBytes_jobs (a : Nat) (bs : List Byte) : (wrBytes s a bs).jobs = s.jobs := rfl
@[simp] theorem wrBytes_ctxs (a : Nat) (bs : List Byte) : (wrBytes s a bs).ctxs = s.ctxs := rfl
@[simp] theorem wrBytes_marks (a : Nat) (bs : List Byte) : (wrBytes s a bs).marks = s.marks := rfl
@[simp] theorem wrBytes_cores (a : Nat) (bs : List Byte) : (wrBytes s a bs).cores = s.cores := rfl
@[simp] theorem wrBytes_hst (a : Nat) (bs : List Byte) : (wrBytes s a bs).hst = s.hst := rfl
@[simp] theorem wrBytes_kv (a : Nat) (bs : List Byte) : (wrBytes s a bs).kv = s.kv := rfl
@[simp] theorem wrBytes_ring (a : Nat) (bs : List Byte) : (wrBytes s a bs).ring = s.ring := rfl
@[simp] theorem wrBytes_cap (a : Nat) (bs : List Byte) : (wrBytes s a bs).cap = s.cap := rfl
@[simp] theorem wrBytes_fe (a : Nat) (bs : List Byte) : (wrBytes s a bs).fe = s.fe := rfl
@[simp] theorem wrBytes_code (a : Nat) (bs : List Byte) : (wrBytes s a bs).code = s.code := rfl
@[simp] theorem wrBytes_streams (a : Nat) (bs : List Byte) : (wrBytes s a bs).streams = s.streams := rfl
@[simp] theorem wrBytes_hot (a : Nat) (bs : List Byte) : (wrBytes s a bs).hot = s.hot := rfl
@[simp] theorem wrBytes_adapts (a : Nat) (bs : List Byte) : (wrBytes s a bs).adapts = s.adapts := rfl
@[simp] theorem wrBytes_mc (a : Nat) (bs : List Byte) : (wrBytes s a bs).mc = s.mc := rfl
@[simp] theorem wrBytes_flt (a : Nat) (bs : List Byte) : (wrBytes s a bs).flt = s.flt := rfl

/-! ### clearPoison -/

@[simp] theorem clearPoison_pending (a len : Nat) : (clearPoison s a len).pending = s.pending := rfl
@[simp] theorem clearPoison_free (a len : Nat) : (clearPoison s a len).free = s.free := rfl
@[simp] theorem clearPoison_regs (a len : Nat) : (clearPoison s a len).regs = s.regs := rfl
@[simp] theorem clearPoison_latch (a len : Nat) : (clearPoison s a len).latch = s.latch := rfl
@[simp] theorem clearPoison_ctr (a len : Nat) : (clearPoison s a len).ctr = s.ctr := rfl
@[simp] theorem clearPoison_busData (a len : Nat) : (clearPoison s a len).busData = s.busData := rfl
@[simp] theorem clearPoison_busPoison (a len : Nat) : (clearPoison s a len).busPoison = s.busPoison := rfl
@[simp] theorem clearPoison_mem (a len : Nat) : (clearPoison s a len).mem = s.mem := rfl
@[simp] theorem clearPoison_pins (a len : Nat) : (clearPoison s a len).pins = s.pins := rfl
@[simp] theorem clearPoison_boot (a len : Nat) : (clearPoison s a len).boot = s.boot := rfl
@[simp] theorem clearPoison_fuse (a len : Nat) : (clearPoison s a len).fuse = s.fuse := rfl
@[simp] theorem clearPoison_flash (a len : Nat) : (clearPoison s a len).flash = s.flash := rfl
@[simp] theorem clearPoison_board (a len : Nat) : (clearPoison s a len).board = s.board := rfl
@[simp] theorem clearPoison_sl (a len : Nat) : (clearPoison s a len).sl = s.sl := rfl
@[simp] theorem clearPoison_pwr (a len : Nat) : (clearPoison s a len).pwr = s.pwr := rfl
@[simp] theorem clearPoison_dbg (a len : Nat) : (clearPoison s a len).dbg = s.dbg := rfl
@[simp] theorem clearPoison_sal (a len : Nat) : (clearPoison s a len).sal = s.sal := rfl
@[simp] theorem clearPoison_tmu (a len : Nat) : (clearPoison s a len).tmu = s.tmu := rfl
@[simp] theorem clearPoison_sht (a len : Nat) : (clearPoison s a len).sht = s.sht := rfl
@[simp] theorem clearPoison_lanes (a len : Nat) : (clearPoison s a len).lanes = s.lanes := rfl
@[simp] theorem clearPoison_jobs (a len : Nat) : (clearPoison s a len).jobs = s.jobs := rfl
@[simp] theorem clearPoison_ctxs (a len : Nat) : (clearPoison s a len).ctxs = s.ctxs := rfl
@[simp] theorem clearPoison_marks (a len : Nat) : (clearPoison s a len).marks = s.marks := rfl
@[simp] theorem clearPoison_cores (a len : Nat) : (clearPoison s a len).cores = s.cores := rfl
@[simp] theorem clearPoison_hst (a len : Nat) : (clearPoison s a len).hst = s.hst := rfl
@[simp] theorem clearPoison_kv (a len : Nat) : (clearPoison s a len).kv = s.kv := rfl
@[simp] theorem clearPoison_ring (a len : Nat) : (clearPoison s a len).ring = s.ring := rfl
@[simp] theorem clearPoison_cap (a len : Nat) : (clearPoison s a len).cap = s.cap := rfl
@[simp] theorem clearPoison_fe (a len : Nat) : (clearPoison s a len).fe = s.fe := rfl
@[simp] theorem clearPoison_code (a len : Nat) : (clearPoison s a len).code = s.code := rfl
@[simp] theorem clearPoison_streams (a len : Nat) : (clearPoison s a len).streams = s.streams := rfl
@[simp] theorem clearPoison_hot (a len : Nat) : (clearPoison s a len).hot = s.hot := rfl
@[simp] theorem clearPoison_adapts (a len : Nat) : (clearPoison s a len).adapts = s.adapts := rfl
@[simp] theorem clearPoison_mc (a len : Nat) : (clearPoison s a len).mc = s.mc := rfl
@[simp] theorem clearPoison_flt (a len : Nat) : (clearPoison s a len).flt = s.flt := rfl

/-! ### setLane -/

@[simp] theorem setLane_pending (n : Nat) (l : Lane) : (setLane s n l).pending = s.pending := rfl
@[simp] theorem setLane_free (n : Nat) (l : Lane) : (setLane s n l).free = s.free := rfl
@[simp] theorem setLane_regs (n : Nat) (l : Lane) : (setLane s n l).regs = s.regs := rfl
@[simp] theorem setLane_latch (n : Nat) (l : Lane) : (setLane s n l).latch = s.latch := rfl
@[simp] theorem setLane_ctr (n : Nat) (l : Lane) : (setLane s n l).ctr = s.ctr := rfl
@[simp] theorem setLane_busData (n : Nat) (l : Lane) : (setLane s n l).busData = s.busData := rfl
@[simp] theorem setLane_busPoison (n : Nat) (l : Lane) : (setLane s n l).busPoison = s.busPoison := rfl
@[simp] theorem setLane_mem (n : Nat) (l : Lane) : (setLane s n l).mem = s.mem := rfl
@[simp] theorem setLane_poison (n : Nat) (l : Lane) : (setLane s n l).poison = s.poison := rfl
@[simp] theorem setLane_pins (n : Nat) (l : Lane) : (setLane s n l).pins = s.pins := rfl
@[simp] theorem setLane_boot (n : Nat) (l : Lane) : (setLane s n l).boot = s.boot := rfl
@[simp] theorem setLane_fuse (n : Nat) (l : Lane) : (setLane s n l).fuse = s.fuse := rfl
@[simp] theorem setLane_flash (n : Nat) (l : Lane) : (setLane s n l).flash = s.flash := rfl
@[simp] theorem setLane_board (n : Nat) (l : Lane) : (setLane s n l).board = s.board := rfl
@[simp] theorem setLane_sl (n : Nat) (l : Lane) : (setLane s n l).sl = s.sl := rfl
@[simp] theorem setLane_pwr (n : Nat) (l : Lane) : (setLane s n l).pwr = s.pwr := rfl
@[simp] theorem setLane_dbg (n : Nat) (l : Lane) : (setLane s n l).dbg = s.dbg := rfl
@[simp] theorem setLane_sal (n : Nat) (l : Lane) : (setLane s n l).sal = s.sal := rfl
@[simp] theorem setLane_tmu (n : Nat) (l : Lane) : (setLane s n l).tmu = s.tmu := rfl
@[simp] theorem setLane_sht (n : Nat) (l : Lane) : (setLane s n l).sht = s.sht := rfl
@[simp] theorem setLane_jobs (n : Nat) (l : Lane) : (setLane s n l).jobs = s.jobs := rfl
@[simp] theorem setLane_ctxs (n : Nat) (l : Lane) : (setLane s n l).ctxs = s.ctxs := rfl
@[simp] theorem setLane_marks (n : Nat) (l : Lane) : (setLane s n l).marks = s.marks := rfl
@[simp] theorem setLane_cores (n : Nat) (l : Lane) : (setLane s n l).cores = s.cores := rfl
@[simp] theorem setLane_hst (n : Nat) (l : Lane) : (setLane s n l).hst = s.hst := rfl
@[simp] theorem setLane_kv (n : Nat) (l : Lane) : (setLane s n l).kv = s.kv := rfl
@[simp] theorem setLane_ring (n : Nat) (l : Lane) : (setLane s n l).ring = s.ring := rfl
@[simp] theorem setLane_cap (n : Nat) (l : Lane) : (setLane s n l).cap = s.cap := rfl
@[simp] theorem setLane_fe (n : Nat) (l : Lane) : (setLane s n l).fe = s.fe := rfl
@[simp] theorem setLane_code (n : Nat) (l : Lane) : (setLane s n l).code = s.code := rfl
@[simp] theorem setLane_streams (n : Nat) (l : Lane) : (setLane s n l).streams = s.streams := rfl
@[simp] theorem setLane_hot (n : Nat) (l : Lane) : (setLane s n l).hot = s.hot := rfl
@[simp] theorem setLane_adapts (n : Nat) (l : Lane) : (setLane s n l).adapts = s.adapts := rfl
@[simp] theorem setLane_mc (n : Nat) (l : Lane) : (setLane s n l).mc = s.mc := rfl
@[simp] theorem setLane_flt (n : Nat) (l : Lane) : (setLane s n l).flt = s.flt := rfl

/-! ### setCtx -/

@[simp] theorem setCtx_pending (n : Nat) (x : Ctx) : (setCtx s n x).pending = s.pending := rfl
@[simp] theorem setCtx_free (n : Nat) (x : Ctx) : (setCtx s n x).free = s.free := rfl
@[simp] theorem setCtx_regs (n : Nat) (x : Ctx) : (setCtx s n x).regs = s.regs := rfl
@[simp] theorem setCtx_latch (n : Nat) (x : Ctx) : (setCtx s n x).latch = s.latch := rfl
@[simp] theorem setCtx_ctr (n : Nat) (x : Ctx) : (setCtx s n x).ctr = s.ctr := rfl
@[simp] theorem setCtx_busData (n : Nat) (x : Ctx) : (setCtx s n x).busData = s.busData := rfl
@[simp] theorem setCtx_busPoison (n : Nat) (x : Ctx) : (setCtx s n x).busPoison = s.busPoison := rfl
@[simp] theorem setCtx_mem (n : Nat) (x : Ctx) : (setCtx s n x).mem = s.mem := rfl
@[simp] theorem setCtx_poison (n : Nat) (x : Ctx) : (setCtx s n x).poison = s.poison := rfl
@[simp] theorem setCtx_pins (n : Nat) (x : Ctx) : (setCtx s n x).pins = s.pins := rfl
@[simp] theorem setCtx_boot (n : Nat) (x : Ctx) : (setCtx s n x).boot = s.boot := rfl
@[simp] theorem setCtx_fuse (n : Nat) (x : Ctx) : (setCtx s n x).fuse = s.fuse := rfl
@[simp] theorem setCtx_flash (n : Nat) (x : Ctx) : (setCtx s n x).flash = s.flash := rfl
@[simp] theorem setCtx_board (n : Nat) (x : Ctx) : (setCtx s n x).board = s.board := rfl
@[simp] theorem setCtx_sl (n : Nat) (x : Ctx) : (setCtx s n x).sl = s.sl := rfl
@[simp] theorem setCtx_pwr (n : Nat) (x : Ctx) : (setCtx s n x).pwr = s.pwr := rfl
@[simp] theorem setCtx_dbg (n : Nat) (x : Ctx) : (setCtx s n x).dbg = s.dbg := rfl
@[simp] theorem setCtx_sal (n : Nat) (x : Ctx) : (setCtx s n x).sal = s.sal := rfl
@[simp] theorem setCtx_tmu (n : Nat) (x : Ctx) : (setCtx s n x).tmu = s.tmu := rfl
@[simp] theorem setCtx_sht (n : Nat) (x : Ctx) : (setCtx s n x).sht = s.sht := rfl
@[simp] theorem setCtx_lanes (n : Nat) (x : Ctx) : (setCtx s n x).lanes = s.lanes := rfl
@[simp] theorem setCtx_jobs (n : Nat) (x : Ctx) : (setCtx s n x).jobs = s.jobs := rfl
@[simp] theorem setCtx_marks (n : Nat) (x : Ctx) : (setCtx s n x).marks = s.marks := rfl
@[simp] theorem setCtx_cores (n : Nat) (x : Ctx) : (setCtx s n x).cores = s.cores := rfl
@[simp] theorem setCtx_hst (n : Nat) (x : Ctx) : (setCtx s n x).hst = s.hst := rfl
@[simp] theorem setCtx_kv (n : Nat) (x : Ctx) : (setCtx s n x).kv = s.kv := rfl
@[simp] theorem setCtx_ring (n : Nat) (x : Ctx) : (setCtx s n x).ring = s.ring := rfl
@[simp] theorem setCtx_cap (n : Nat) (x : Ctx) : (setCtx s n x).cap = s.cap := rfl
@[simp] theorem setCtx_fe (n : Nat) (x : Ctx) : (setCtx s n x).fe = s.fe := rfl
@[simp] theorem setCtx_code (n : Nat) (x : Ctx) : (setCtx s n x).code = s.code := rfl
@[simp] theorem setCtx_streams (n : Nat) (x : Ctx) : (setCtx s n x).streams = s.streams := rfl
@[simp] theorem setCtx_hot (n : Nat) (x : Ctx) : (setCtx s n x).hot = s.hot := rfl
@[simp] theorem setCtx_adapts (n : Nat) (x : Ctx) : (setCtx s n x).adapts = s.adapts := rfl
@[simp] theorem setCtx_mc (n : Nat) (x : Ctx) : (setCtx s n x).mc = s.mc := rfl
@[simp] theorem setCtx_flt (n : Nat) (x : Ctx) : (setCtx s n x).flt = s.flt := rfl

/-! ### setJob -/

@[simp] theorem setJob_pending (n : Nat) (j : Job) : (setJob s n j).pending = s.pending := rfl
@[simp] theorem setJob_free (n : Nat) (j : Job) : (setJob s n j).free = s.free := rfl
@[simp] theorem setJob_regs (n : Nat) (j : Job) : (setJob s n j).regs = s.regs := rfl
@[simp] theorem setJob_latch (n : Nat) (j : Job) : (setJob s n j).latch = s.latch := rfl
@[simp] theorem setJob_ctr (n : Nat) (j : Job) : (setJob s n j).ctr = s.ctr := rfl
@[simp] theorem setJob_busData (n : Nat) (j : Job) : (setJob s n j).busData = s.busData := rfl
@[simp] theorem setJob_busPoison (n : Nat) (j : Job) : (setJob s n j).busPoison = s.busPoison := rfl
@[simp] theorem setJob_mem (n : Nat) (j : Job) : (setJob s n j).mem = s.mem := rfl
@[simp] theorem setJob_poison (n : Nat) (j : Job) : (setJob s n j).poison = s.poison := rfl
@[simp] theorem setJob_pins (n : Nat) (j : Job) : (setJob s n j).pins = s.pins := rfl
@[simp] theorem setJob_boot (n : Nat) (j : Job) : (setJob s n j).boot = s.boot := rfl
@[simp] theorem setJob_fuse (n : Nat) (j : Job) : (setJob s n j).fuse = s.fuse := rfl
@[simp] theorem setJob_flash (n : Nat) (j : Job) : (setJob s n j).flash = s.flash := rfl
@[simp] theorem setJob_board (n : Nat) (j : Job) : (setJob s n j).board = s.board := rfl
@[simp] theorem setJob_sl (n : Nat) (j : Job) : (setJob s n j).sl = s.sl := rfl
@[simp] theorem setJob_pwr (n : Nat) (j : Job) : (setJob s n j).pwr = s.pwr := rfl
@[simp] theorem setJob_dbg (n : Nat) (j : Job) : (setJob s n j).dbg = s.dbg := rfl
@[simp] theorem setJob_sal (n : Nat) (j : Job) : (setJob s n j).sal = s.sal := rfl
@[simp] theorem setJob_tmu (n : Nat) (j : Job) : (setJob s n j).tmu = s.tmu := rfl
@[simp] theorem setJob_sht (n : Nat) (j : Job) : (setJob s n j).sht = s.sht := rfl
@[simp] theorem setJob_lanes (n : Nat) (j : Job) : (setJob s n j).lanes = s.lanes := rfl
@[simp] theorem setJob_ctxs (n : Nat) (j : Job) : (setJob s n j).ctxs = s.ctxs := rfl
@[simp] theorem setJob_marks (n : Nat) (j : Job) : (setJob s n j).marks = s.marks := rfl
@[simp] theorem setJob_cores (n : Nat) (j : Job) : (setJob s n j).cores = s.cores := rfl
@[simp] theorem setJob_hst (n : Nat) (j : Job) : (setJob s n j).hst = s.hst := rfl
@[simp] theorem setJob_kv (n : Nat) (j : Job) : (setJob s n j).kv = s.kv := rfl
@[simp] theorem setJob_ring (n : Nat) (j : Job) : (setJob s n j).ring = s.ring := rfl
@[simp] theorem setJob_cap (n : Nat) (j : Job) : (setJob s n j).cap = s.cap := rfl
@[simp] theorem setJob_fe (n : Nat) (j : Job) : (setJob s n j).fe = s.fe := rfl
@[simp] theorem setJob_code (n : Nat) (j : Job) : (setJob s n j).code = s.code := rfl
@[simp] theorem setJob_streams (n : Nat) (j : Job) : (setJob s n j).streams = s.streams := rfl
@[simp] theorem setJob_hot (n : Nat) (j : Job) : (setJob s n j).hot = s.hot := rfl
@[simp] theorem setJob_adapts (n : Nat) (j : Job) : (setJob s n j).adapts = s.adapts := rfl
@[simp] theorem setJob_mc (n : Nat) (j : Job) : (setJob s n j).mc = s.mc := rfl
@[simp] theorem setJob_flt (n : Nat) (j : Job) : (setJob s n j).flt = s.flt := rfl

/-! ### setEnt -/

@[simp] theorem setEnt_pending (n : Nat) (e : Entry) : (setEnt s n e).pending = s.pending := rfl
@[simp] theorem setEnt_free (n : Nat) (e : Entry) : (setEnt s n e).free = s.free := rfl
@[simp] theorem setEnt_regs (n : Nat) (e : Entry) : (setEnt s n e).regs = s.regs := rfl
@[simp] theorem setEnt_latch (n : Nat) (e : Entry) : (setEnt s n e).latch = s.latch := rfl
@[simp] theorem setEnt_ctr (n : Nat) (e : Entry) : (setEnt s n e).ctr = s.ctr := rfl
@[simp] theorem setEnt_busData (n : Nat) (e : Entry) : (setEnt s n e).busData = s.busData := rfl
@[simp] theorem setEnt_busPoison (n : Nat) (e : Entry) : (setEnt s n e).busPoison = s.busPoison := rfl
@[simp] theorem setEnt_mem (n : Nat) (e : Entry) : (setEnt s n e).mem = s.mem := rfl
@[simp] theorem setEnt_poison (n : Nat) (e : Entry) : (setEnt s n e).poison = s.poison := rfl
@[simp] theorem setEnt_pins (n : Nat) (e : Entry) : (setEnt s n e).pins = s.pins := rfl
@[simp] theorem setEnt_boot (n : Nat) (e : Entry) : (setEnt s n e).boot = s.boot := rfl
@[simp] theorem setEnt_fuse (n : Nat) (e : Entry) : (setEnt s n e).fuse = s.fuse := rfl
@[simp] theorem setEnt_flash (n : Nat) (e : Entry) : (setEnt s n e).flash = s.flash := rfl
@[simp] theorem setEnt_board (n : Nat) (e : Entry) : (setEnt s n e).board = s.board := rfl
@[simp] theorem setEnt_sl (n : Nat) (e : Entry) : (setEnt s n e).sl = s.sl := rfl
@[simp] theorem setEnt_pwr (n : Nat) (e : Entry) : (setEnt s n e).pwr = s.pwr := rfl
@[simp] theorem setEnt_dbg (n : Nat) (e : Entry) : (setEnt s n e).dbg = s.dbg := rfl
@[simp] theorem setEnt_sal (n : Nat) (e : Entry) : (setEnt s n e).sal = s.sal := rfl
@[simp] theorem setEnt_tmu (n : Nat) (e : Entry) : (setEnt s n e).tmu = s.tmu := rfl
@[simp] theorem setEnt_lanes (n : Nat) (e : Entry) : (setEnt s n e).lanes = s.lanes := rfl
@[simp] theorem setEnt_jobs (n : Nat) (e : Entry) : (setEnt s n e).jobs = s.jobs := rfl
@[simp] theorem setEnt_ctxs (n : Nat) (e : Entry) : (setEnt s n e).ctxs = s.ctxs := rfl
@[simp] theorem setEnt_marks (n : Nat) (e : Entry) : (setEnt s n e).marks = s.marks := rfl
@[simp] theorem setEnt_cores (n : Nat) (e : Entry) : (setEnt s n e).cores = s.cores := rfl
@[simp] theorem setEnt_hst (n : Nat) (e : Entry) : (setEnt s n e).hst = s.hst := rfl
@[simp] theorem setEnt_kv (n : Nat) (e : Entry) : (setEnt s n e).kv = s.kv := rfl
@[simp] theorem setEnt_ring (n : Nat) (e : Entry) : (setEnt s n e).ring = s.ring := rfl
@[simp] theorem setEnt_cap (n : Nat) (e : Entry) : (setEnt s n e).cap = s.cap := rfl
@[simp] theorem setEnt_fe (n : Nat) (e : Entry) : (setEnt s n e).fe = s.fe := rfl
@[simp] theorem setEnt_code (n : Nat) (e : Entry) : (setEnt s n e).code = s.code := rfl
@[simp] theorem setEnt_streams (n : Nat) (e : Entry) : (setEnt s n e).streams = s.streams := rfl
@[simp] theorem setEnt_hot (n : Nat) (e : Entry) : (setEnt s n e).hot = s.hot := rfl
@[simp] theorem setEnt_adapts (n : Nat) (e : Entry) : (setEnt s n e).adapts = s.adapts := rfl
@[simp] theorem setEnt_mc (n : Nat) (e : Entry) : (setEnt s n e).mc = s.mc := rfl
@[simp] theorem setEnt_flt (n : Nat) (e : Entry) : (setEnt s n e).flt = s.flt := rfl

/-! ### setSq -/

@[simp] theorem setSq_pending (n : Nat) (r : Option SubRing) : (setSq s n r).pending = s.pending := rfl
@[simp] theorem setSq_free (n : Nat) (r : Option SubRing) : (setSq s n r).free = s.free := rfl
@[simp] theorem setSq_regs (n : Nat) (r : Option SubRing) : (setSq s n r).regs = s.regs := rfl
@[simp] theorem setSq_latch (n : Nat) (r : Option SubRing) : (setSq s n r).latch = s.latch := rfl
@[simp] theorem setSq_ctr (n : Nat) (r : Option SubRing) : (setSq s n r).ctr = s.ctr := rfl
@[simp] theorem setSq_busData (n : Nat) (r : Option SubRing) : (setSq s n r).busData = s.busData := rfl
@[simp] theorem setSq_busPoison (n : Nat) (r : Option SubRing) : (setSq s n r).busPoison = s.busPoison := rfl
@[simp] theorem setSq_mem (n : Nat) (r : Option SubRing) : (setSq s n r).mem = s.mem := rfl
@[simp] theorem setSq_poison (n : Nat) (r : Option SubRing) : (setSq s n r).poison = s.poison := rfl
@[simp] theorem setSq_pins (n : Nat) (r : Option SubRing) : (setSq s n r).pins = s.pins := rfl
@[simp] theorem setSq_boot (n : Nat) (r : Option SubRing) : (setSq s n r).boot = s.boot := rfl
@[simp] theorem setSq_fuse (n : Nat) (r : Option SubRing) : (setSq s n r).fuse = s.fuse := rfl
@[simp] theorem setSq_flash (n : Nat) (r : Option SubRing) : (setSq s n r).flash = s.flash := rfl
@[simp] theorem setSq_board (n : Nat) (r : Option SubRing) : (setSq s n r).board = s.board := rfl
@[simp] theorem setSq_sl (n : Nat) (r : Option SubRing) : (setSq s n r).sl = s.sl := rfl
@[simp] theorem setSq_pwr (n : Nat) (r : Option SubRing) : (setSq s n r).pwr = s.pwr := rfl
@[simp] theorem setSq_dbg (n : Nat) (r : Option SubRing) : (setSq s n r).dbg = s.dbg := rfl
@[simp] theorem setSq_tmu (n : Nat) (r : Option SubRing) : (setSq s n r).tmu = s.tmu := rfl
@[simp] theorem setSq_sht (n : Nat) (r : Option SubRing) : (setSq s n r).sht = s.sht := rfl
@[simp] theorem setSq_lanes (n : Nat) (r : Option SubRing) : (setSq s n r).lanes = s.lanes := rfl
@[simp] theorem setSq_jobs (n : Nat) (r : Option SubRing) : (setSq s n r).jobs = s.jobs := rfl
@[simp] theorem setSq_ctxs (n : Nat) (r : Option SubRing) : (setSq s n r).ctxs = s.ctxs := rfl
@[simp] theorem setSq_marks (n : Nat) (r : Option SubRing) : (setSq s n r).marks = s.marks := rfl
@[simp] theorem setSq_cores (n : Nat) (r : Option SubRing) : (setSq s n r).cores = s.cores := rfl
@[simp] theorem setSq_hst (n : Nat) (r : Option SubRing) : (setSq s n r).hst = s.hst := rfl
@[simp] theorem setSq_kv (n : Nat) (r : Option SubRing) : (setSq s n r).kv = s.kv := rfl
@[simp] theorem setSq_ring (n : Nat) (r : Option SubRing) : (setSq s n r).ring = s.ring := rfl
@[simp] theorem setSq_cap (n : Nat) (r : Option SubRing) : (setSq s n r).cap = s.cap := rfl
@[simp] theorem setSq_fe (n : Nat) (r : Option SubRing) : (setSq s n r).fe = s.fe := rfl
@[simp] theorem setSq_code (n : Nat) (r : Option SubRing) : (setSq s n r).code = s.code := rfl
@[simp] theorem setSq_streams (n : Nat) (r : Option SubRing) : (setSq s n r).streams = s.streams := rfl
@[simp] theorem setSq_hot (n : Nat) (r : Option SubRing) : (setSq s n r).hot = s.hot := rfl
@[simp] theorem setSq_adapts (n : Nat) (r : Option SubRing) : (setSq s n r).adapts = s.adapts := rfl
@[simp] theorem setSq_mc (n : Nat) (r : Option SubRing) : (setSq s n r).mc = s.mc := rfl
@[simp] theorem setSq_flt (n : Nat) (r : Option SubRing) : (setSq s n r).flt = s.flt := rfl

/-! ### setCq -/

@[simp] theorem setCq_pending (n : Nat) (r : Option CompRing) : (setCq s n r).pending = s.pending := rfl
@[simp] theorem setCq_free (n : Nat) (r : Option CompRing) : (setCq s n r).free = s.free := rfl
@[simp] theorem setCq_regs (n : Nat) (r : Option CompRing) : (setCq s n r).regs = s.regs := rfl
@[simp] theorem setCq_latch (n : Nat) (r : Option CompRing) : (setCq s n r).latch = s.latch := rfl
@[simp] theorem setCq_ctr (n : Nat) (r : Option CompRing) : (setCq s n r).ctr = s.ctr := rfl
@[simp] theorem setCq_busData (n : Nat) (r : Option CompRing) : (setCq s n r).busData = s.busData := rfl
@[simp] theorem setCq_busPoison (n : Nat) (r : Option CompRing) : (setCq s n r).busPoison = s.busPoison := rfl
@[simp] theorem setCq_mem (n : Nat) (r : Option CompRing) : (setCq s n r).mem = s.mem := rfl
@[simp] theorem setCq_poison (n : Nat) (r : Option CompRing) : (setCq s n r).poison = s.poison := rfl
@[simp] theorem setCq_pins (n : Nat) (r : Option CompRing) : (setCq s n r).pins = s.pins := rfl
@[simp] theorem setCq_boot (n : Nat) (r : Option CompRing) : (setCq s n r).boot = s.boot := rfl
@[simp] theorem setCq_fuse (n : Nat) (r : Option CompRing) : (setCq s n r).fuse = s.fuse := rfl
@[simp] theorem setCq_flash (n : Nat) (r : Option CompRing) : (setCq s n r).flash = s.flash := rfl
@[simp] theorem setCq_board (n : Nat) (r : Option CompRing) : (setCq s n r).board = s.board := rfl
@[simp] theorem setCq_sl (n : Nat) (r : Option CompRing) : (setCq s n r).sl = s.sl := rfl
@[simp] theorem setCq_pwr (n : Nat) (r : Option CompRing) : (setCq s n r).pwr = s.pwr := rfl
@[simp] theorem setCq_dbg (n : Nat) (r : Option CompRing) : (setCq s n r).dbg = s.dbg := rfl
@[simp] theorem setCq_tmu (n : Nat) (r : Option CompRing) : (setCq s n r).tmu = s.tmu := rfl
@[simp] theorem setCq_sht (n : Nat) (r : Option CompRing) : (setCq s n r).sht = s.sht := rfl
@[simp] theorem setCq_lanes (n : Nat) (r : Option CompRing) : (setCq s n r).lanes = s.lanes := rfl
@[simp] theorem setCq_jobs (n : Nat) (r : Option CompRing) : (setCq s n r).jobs = s.jobs := rfl
@[simp] theorem setCq_ctxs (n : Nat) (r : Option CompRing) : (setCq s n r).ctxs = s.ctxs := rfl
@[simp] theorem setCq_marks (n : Nat) (r : Option CompRing) : (setCq s n r).marks = s.marks := rfl
@[simp] theorem setCq_cores (n : Nat) (r : Option CompRing) : (setCq s n r).cores = s.cores := rfl
@[simp] theorem setCq_hst (n : Nat) (r : Option CompRing) : (setCq s n r).hst = s.hst := rfl
@[simp] theorem setCq_kv (n : Nat) (r : Option CompRing) : (setCq s n r).kv = s.kv := rfl
@[simp] theorem setCq_ring (n : Nat) (r : Option CompRing) : (setCq s n r).ring = s.ring := rfl
@[simp] theorem setCq_cap (n : Nat) (r : Option CompRing) : (setCq s n r).cap = s.cap := rfl
@[simp] theorem setCq_fe (n : Nat) (r : Option CompRing) : (setCq s n r).fe = s.fe := rfl
@[simp] theorem setCq_code (n : Nat) (r : Option CompRing) : (setCq s n r).code = s.code := rfl
@[simp] theorem setCq_streams (n : Nat) (r : Option CompRing) : (setCq s n r).streams = s.streams := rfl
@[simp] theorem setCq_hot (n : Nat) (r : Option CompRing) : (setCq s n r).hot = s.hot := rfl
@[simp] theorem setCq_adapts (n : Nat) (r : Option CompRing) : (setCq s n r).adapts = s.adapts := rfl
@[simp] theorem setCq_mc (n : Nat) (r : Option CompRing) : (setCq s n r).mc = s.mc := rfl
@[simp] theorem setCq_flt (n : Nat) (r : Option CompRing) : (setCq s n r).flt = s.flt := rfl

/-! ### setRq -/

@[simp] theorem setRq_pending (n : Nat) (r : Option RepRing) : (setRq s n r).pending = s.pending := rfl
@[simp] theorem setRq_free (n : Nat) (r : Option RepRing) : (setRq s n r).free = s.free := rfl
@[simp] theorem setRq_regs (n : Nat) (r : Option RepRing) : (setRq s n r).regs = s.regs := rfl
@[simp] theorem setRq_latch (n : Nat) (r : Option RepRing) : (setRq s n r).latch = s.latch := rfl
@[simp] theorem setRq_ctr (n : Nat) (r : Option RepRing) : (setRq s n r).ctr = s.ctr := rfl
@[simp] theorem setRq_busData (n : Nat) (r : Option RepRing) : (setRq s n r).busData = s.busData := rfl
@[simp] theorem setRq_busPoison (n : Nat) (r : Option RepRing) : (setRq s n r).busPoison = s.busPoison := rfl
@[simp] theorem setRq_mem (n : Nat) (r : Option RepRing) : (setRq s n r).mem = s.mem := rfl
@[simp] theorem setRq_poison (n : Nat) (r : Option RepRing) : (setRq s n r).poison = s.poison := rfl
@[simp] theorem setRq_pins (n : Nat) (r : Option RepRing) : (setRq s n r).pins = s.pins := rfl
@[simp] theorem setRq_boot (n : Nat) (r : Option RepRing) : (setRq s n r).boot = s.boot := rfl
@[simp] theorem setRq_fuse (n : Nat) (r : Option RepRing) : (setRq s n r).fuse = s.fuse := rfl
@[simp] theorem setRq_flash (n : Nat) (r : Option RepRing) : (setRq s n r).flash = s.flash := rfl
@[simp] theorem setRq_board (n : Nat) (r : Option RepRing) : (setRq s n r).board = s.board := rfl
@[simp] theorem setRq_sl (n : Nat) (r : Option RepRing) : (setRq s n r).sl = s.sl := rfl
@[simp] theorem setRq_pwr (n : Nat) (r : Option RepRing) : (setRq s n r).pwr = s.pwr := rfl
@[simp] theorem setRq_dbg (n : Nat) (r : Option RepRing) : (setRq s n r).dbg = s.dbg := rfl
@[simp] theorem setRq_tmu (n : Nat) (r : Option RepRing) : (setRq s n r).tmu = s.tmu := rfl
@[simp] theorem setRq_sht (n : Nat) (r : Option RepRing) : (setRq s n r).sht = s.sht := rfl
@[simp] theorem setRq_lanes (n : Nat) (r : Option RepRing) : (setRq s n r).lanes = s.lanes := rfl
@[simp] theorem setRq_jobs (n : Nat) (r : Option RepRing) : (setRq s n r).jobs = s.jobs := rfl
@[simp] theorem setRq_ctxs (n : Nat) (r : Option RepRing) : (setRq s n r).ctxs = s.ctxs := rfl
@[simp] theorem setRq_marks (n : Nat) (r : Option RepRing) : (setRq s n r).marks = s.marks := rfl
@[simp] theorem setRq_cores (n : Nat) (r : Option RepRing) : (setRq s n r).cores = s.cores := rfl
@[simp] theorem setRq_hst (n : Nat) (r : Option RepRing) : (setRq s n r).hst = s.hst := rfl
@[simp] theorem setRq_kv (n : Nat) (r : Option RepRing) : (setRq s n r).kv = s.kv := rfl
@[simp] theorem setRq_ring (n : Nat) (r : Option RepRing) : (setRq s n r).ring = s.ring := rfl
@[simp] theorem setRq_cap (n : Nat) (r : Option RepRing) : (setRq s n r).cap = s.cap := rfl
@[simp] theorem setRq_fe (n : Nat) (r : Option RepRing) : (setRq s n r).fe = s.fe := rfl
@[simp] theorem setRq_code (n : Nat) (r : Option RepRing) : (setRq s n r).code = s.code := rfl
@[simp] theorem setRq_streams (n : Nat) (r : Option RepRing) : (setRq s n r).streams = s.streams := rfl
@[simp] theorem setRq_hot (n : Nat) (r : Option RepRing) : (setRq s n r).hot = s.hot := rfl
@[simp] theorem setRq_adapts (n : Nat) (r : Option RepRing) : (setRq s n r).adapts = s.adapts := rfl
@[simp] theorem setRq_mc (n : Nat) (r : Option RepRing) : (setRq s n r).mc = s.mc := rfl
@[simp] theorem setRq_flt (n : Nat) (r : Option RepRing) : (setRq s n r).flt = s.flt := rfl

/-! ### defer -/

@[simp] theorem defer_pending (f : Flight) (a : Await) (xs : List Nat) : (defer s f a xs).pending = s.pending := rfl
@[simp] theorem defer_free (f : Flight) (a : Await) (xs : List Nat) : (defer s f a xs).free = s.free := rfl
@[simp] theorem defer_regs (f : Flight) (a : Await) (xs : List Nat) : (defer s f a xs).regs = s.regs := rfl
@[simp] theorem defer_latch (f : Flight) (a : Await) (xs : List Nat) : (defer s f a xs).latch = s.latch := rfl
@[simp] theorem defer_ctr (f : Flight) (a : Await) (xs : List Nat) : (defer s f a xs).ctr = s.ctr := rfl
@[simp] theorem defer_busData (f : Flight) (a : Await) (xs : List Nat) : (defer s f a xs).busData = s.busData := rfl
@[simp] theorem defer_busPoison (f : Flight) (a : Await) (xs : List Nat) : (defer s f a xs).busPoison = s.busPoison := rfl
@[simp] theorem defer_mem (f : Flight) (a : Await) (xs : List Nat) : (defer s f a xs).mem = s.mem := rfl
@[simp] theorem defer_poison (f : Flight) (a : Await) (xs : List Nat) : (defer s f a xs).poison = s.poison := rfl
@[simp] theorem defer_pins (f : Flight) (a : Await) (xs : List Nat) : (defer s f a xs).pins = s.pins := rfl
@[simp] theorem defer_boot (f : Flight) (a : Await) (xs : List Nat) : (defer s f a xs).boot = s.boot := rfl
@[simp] theorem defer_fuse (f : Flight) (a : Await) (xs : List Nat) : (defer s f a xs).fuse = s.fuse := rfl
@[simp] theorem defer_flash (f : Flight) (a : Await) (xs : List Nat) : (defer s f a xs).flash = s.flash := rfl
@[simp] theorem defer_board (f : Flight) (a : Await) (xs : List Nat) : (defer s f a xs).board = s.board := rfl
@[simp] theorem defer_sl (f : Flight) (a : Await) (xs : List Nat) : (defer s f a xs).sl = s.sl := rfl
@[simp] theorem defer_pwr (f : Flight) (a : Await) (xs : List Nat) : (defer s f a xs).pwr = s.pwr := rfl
@[simp] theorem defer_dbg (f : Flight) (a : Await) (xs : List Nat) : (defer s f a xs).dbg = s.dbg := rfl
@[simp] theorem defer_tmu (f : Flight) (a : Await) (xs : List Nat) : (defer s f a xs).tmu = s.tmu := rfl
@[simp] theorem defer_sht (f : Flight) (a : Await) (xs : List Nat) : (defer s f a xs).sht = s.sht := rfl
@[simp] theorem defer_lanes (f : Flight) (a : Await) (xs : List Nat) : (defer s f a xs).lanes = s.lanes := rfl
@[simp] theorem defer_jobs (f : Flight) (a : Await) (xs : List Nat) : (defer s f a xs).jobs = s.jobs := rfl
@[simp] theorem defer_ctxs (f : Flight) (a : Await) (xs : List Nat) : (defer s f a xs).ctxs = s.ctxs := rfl
@[simp] theorem defer_marks (f : Flight) (a : Await) (xs : List Nat) : (defer s f a xs).marks = s.marks := rfl
@[simp] theorem defer_cores (f : Flight) (a : Await) (xs : List Nat) : (defer s f a xs).cores = s.cores := rfl
@[simp] theorem defer_hst (f : Flight) (a : Await) (xs : List Nat) : (defer s f a xs).hst = s.hst := rfl
@[simp] theorem defer_kv (f : Flight) (a : Await) (xs : List Nat) : (defer s f a xs).kv = s.kv := rfl
@[simp] theorem defer_ring (f : Flight) (a : Await) (xs : List Nat) : (defer s f a xs).ring = s.ring := rfl
@[simp] theorem defer_cap (f : Flight) (a : Await) (xs : List Nat) : (defer s f a xs).cap = s.cap := rfl
@[simp] theorem defer_fe (f : Flight) (a : Await) (xs : List Nat) : (defer s f a xs).fe = s.fe := rfl
@[simp] theorem defer_code (f : Flight) (a : Await) (xs : List Nat) : (defer s f a xs).code = s.code := rfl
@[simp] theorem defer_streams (f : Flight) (a : Await) (xs : List Nat) : (defer s f a xs).streams = s.streams := rfl
@[simp] theorem defer_hot (f : Flight) (a : Await) (xs : List Nat) : (defer s f a xs).hot = s.hot := rfl
@[simp] theorem defer_adapts (f : Flight) (a : Await) (xs : List Nat) : (defer s f a xs).adapts = s.adapts := rfl
@[simp] theorem defer_mc (f : Flight) (a : Await) (xs : List Nat) : (defer s f a xs).mc = s.mc := rfl
@[simp] theorem defer_flt (f : Flight) (a : Await) (xs : List Nat) : (defer s f a xs).flt = s.flt := rfl

/-! ### advanceHead -/

@[simp] theorem advanceHead_pending (n : Nat) : (advanceHead s n).pending = s.pending := by unfold advanceHead; split <;> rfl
@[simp] theorem advanceHead_free (n : Nat) : (advanceHead s n).free = s.free := by unfold advanceHead; split <;> rfl
@[simp] theorem advanceHead_regs (n : Nat) : (advanceHead s n).regs = s.regs := by unfold advanceHead; split <;> rfl
@[simp] theorem advanceHead_latch (n : Nat) : (advanceHead s n).latch = s.latch := by unfold advanceHead; split <;> rfl
@[simp] theorem advanceHead_ctr (n : Nat) : (advanceHead s n).ctr = s.ctr := by unfold advanceHead; split <;> rfl
@[simp] theorem advanceHead_busData (n : Nat) : (advanceHead s n).busData = s.busData := by unfold advanceHead; split <;> rfl
@[simp] theorem advanceHead_busPoison (n : Nat) : (advanceHead s n).busPoison = s.busPoison := by unfold advanceHead; split <;> rfl
@[simp] theorem advanceHead_mem (n : Nat) : (advanceHead s n).mem = s.mem := by unfold advanceHead; split <;> rfl
@[simp] theorem advanceHead_poison (n : Nat) : (advanceHead s n).poison = s.poison := by unfold advanceHead; split <;> rfl
@[simp] theorem advanceHead_pins (n : Nat) : (advanceHead s n).pins = s.pins := by unfold advanceHead; split <;> rfl
@[simp] theorem advanceHead_boot (n : Nat) : (advanceHead s n).boot = s.boot := by unfold advanceHead; split <;> rfl
@[simp] theorem advanceHead_fuse (n : Nat) : (advanceHead s n).fuse = s.fuse := by unfold advanceHead; split <;> rfl
@[simp] theorem advanceHead_flash (n : Nat) : (advanceHead s n).flash = s.flash := by unfold advanceHead; split <;> rfl
@[simp] theorem advanceHead_board (n : Nat) : (advanceHead s n).board = s.board := by unfold advanceHead; split <;> rfl
@[simp] theorem advanceHead_sl (n : Nat) : (advanceHead s n).sl = s.sl := by unfold advanceHead; split <;> rfl
@[simp] theorem advanceHead_pwr (n : Nat) : (advanceHead s n).pwr = s.pwr := by unfold advanceHead; split <;> rfl
@[simp] theorem advanceHead_dbg (n : Nat) : (advanceHead s n).dbg = s.dbg := by unfold advanceHead; split <;> rfl
@[simp] theorem advanceHead_tmu (n : Nat) : (advanceHead s n).tmu = s.tmu := by unfold advanceHead; split <;> rfl
@[simp] theorem advanceHead_sht (n : Nat) : (advanceHead s n).sht = s.sht := by unfold advanceHead; split <;> rfl
@[simp] theorem advanceHead_lanes (n : Nat) : (advanceHead s n).lanes = s.lanes := by unfold advanceHead; split <;> rfl
@[simp] theorem advanceHead_jobs (n : Nat) : (advanceHead s n).jobs = s.jobs := by unfold advanceHead; split <;> rfl
@[simp] theorem advanceHead_ctxs (n : Nat) : (advanceHead s n).ctxs = s.ctxs := by unfold advanceHead; split <;> rfl
@[simp] theorem advanceHead_marks (n : Nat) : (advanceHead s n).marks = s.marks := by unfold advanceHead; split <;> rfl
@[simp] theorem advanceHead_cores (n : Nat) : (advanceHead s n).cores = s.cores := by unfold advanceHead; split <;> rfl
@[simp] theorem advanceHead_hst (n : Nat) : (advanceHead s n).hst = s.hst := by unfold advanceHead; split <;> rfl
@[simp] theorem advanceHead_kv (n : Nat) : (advanceHead s n).kv = s.kv := by unfold advanceHead; split <;> rfl
@[simp] theorem advanceHead_ring (n : Nat) : (advanceHead s n).ring = s.ring := by unfold advanceHead; split <;> rfl
@[simp] theorem advanceHead_cap (n : Nat) : (advanceHead s n).cap = s.cap := by unfold advanceHead; split <;> rfl
@[simp] theorem advanceHead_fe (n : Nat) : (advanceHead s n).fe = s.fe := by unfold advanceHead; split <;> rfl
@[simp] theorem advanceHead_code (n : Nat) : (advanceHead s n).code = s.code := by unfold advanceHead; split <;> rfl
@[simp] theorem advanceHead_streams (n : Nat) : (advanceHead s n).streams = s.streams := by unfold advanceHead; split <;> rfl
@[simp] theorem advanceHead_hot (n : Nat) : (advanceHead s n).hot = s.hot := by unfold advanceHead; split <;> rfl
@[simp] theorem advanceHead_adapts (n : Nat) : (advanceHead s n).adapts = s.adapts := by unfold advanceHead; split <;> rfl
@[simp] theorem advanceHead_mc (n : Nat) : (advanceHead s n).mc = s.mc := by unfold advanceHead; split <;> rfl
@[simp] theorem advanceHead_flt (n : Nat) : (advanceHead s n).flt = s.flt := by unfold advanceHead; split <;> rfl
@[simp] theorem advanceHead_sal_cq (n : Nat) : (advanceHead s n).sal.cq = s.sal.cq := by unfold advanceHead; split <;> rfl
@[simp] theorem advanceHead_sal_rq (n : Nat) : (advanceHead s n).sal.rq = s.sal.rq := by unfold advanceHead; split <;> rfl
@[simp] theorem advanceHead_sal_flights (n : Nat) : (advanceHead s n).sal.flights = s.sal.flights := by unfold advanceHead; split <;> rfl
@[simp] theorem advanceHead_sal_irqs (n : Nat) : (advanceHead s n).sal.irqs = s.sal.irqs := by unfold advanceHead; split <;> rfl

end Sys2Proof.Machine
end

