-- ==== Sys2Proof/Laws/Tab.lean ====
section
/-! SUPPORT. Laws of sparse tables: a read after a write, writes to other keys, the canonical form; and of byte
memory, which is a sparse table of bytes. -/

namespace Sys2Proof.Machine

variable {α : Type}

theorem tget_tdel_self (d : α) (t : Tab α) (k : Nat) : tget d (tdel t k) k = d := by
  induction t with
  | nil => rfl
  | cons e t ih =>
    obtain ⟨j, v⟩ := e
    by_cases h : j = k <;> simp [tdel, tget, h, ih]

theorem tget_tdel_ne (d : α) (t : Tab α) (k j : Nat) (h : j ≠ k) : tget d (tdel t k) j = tget d t j := by
  induction t with
  | nil => rfl
  | cons e t ih =>
    obtain ⟨i, v⟩ := e
    by_cases hi : i = k
    · subst hi; simp [tdel, tget, ih, Ne.symm h]
    · simp only [tdel, if_neg hi, tget, ih]

theorem tdel_keys (t : Tab α) (k : Nat) : ∀ e ∈ tdel t k, e.1 ≠ k := by
  induction t with
  | nil => simp [tdel]
  | cons e t ih =>
    obtain ⟨j, v⟩ := e
    by_cases h : j = k
    · simpa [tdel, h] using ih
    · simp only [tdel, if_neg h, List.mem_cons]
      rintro e (rfl | he)
      · exact h
      · exact ih e he

theorem tget_tins (d : α) (t : Tab α) (k j : Nat) (v : α) (hk : ∀ e ∈ t, e.1 ≠ k) :
    tget d (tins t k v) j = if k = j then v else tget d t j := by
  induction t with
  | nil => rfl
  | cons e t ih =>
    obtain ⟨i, u⟩ := e
    have hi : i ≠ k := hk (i, u) (by simp)
    have ih := ih (fun e he => hk e (by simp [he]))
    by_cases hlt : k < i
    · simp [tins, hlt, tget]
    · simp only [tins, if_neg hlt, tget, ih]
      by_cases hj : i = j
      · subst hj; simp [Ne.symm hi]
      · simp [hj]

theorem tget_tset [DecidableEq α] (d : α) (t : Tab α) (k j : Nat) (v : α) :
    tget d (tset d t k v) j = if k = j then v else tget d t j := by
  by_cases hv : v = d
  · subst hv
    by_cases h : k = j
    · subst h; simp [tset, tget_tdel_self]
    · simp [tset, h, tget_tdel_ne v t k j (Ne.symm h)]
  · simp only [tset, if_neg hv, tget_tins d _ k j v (tdel_keys t k)]
    by_cases h : k = j
    · simp [h]
    · simp [h, tget_tdel_ne d t k j (Ne.symm h)]

@[simp] theorem tget_tset_self [DecidableEq α] (d : α) (t : Tab α) (k : Nat) (v : α) :
    tget d (tset d t k v) k = v := by simp [tget_tset]

theorem tget_tset_ne [DecidableEq α] (d : α) (t : Tab α) (k j : Nat) (v : α) (h : k ≠ j) :
    tget d (tset d t k v) j = tget d t j := by simp [tget_tset, h]

/-- Key `k` lies above the bound `b`. -/
def above (b : Option Nat) (k : Nat) : Prop := match b with | none => True | some n => n < k

theorem twfAbove_cons [DecidableEq α] (d : α) (b : Option Nat) (k : Nat) (v : α) (t : Tab α) :
    twfAbove d b ((k, v) :: t) = true ↔ above b k ∧ v ≠ d ∧ twfAbove d (some k) t = true := by
  cases b <;> simp [twfAbove, above, and_assoc]

theorem twfAbove_weaken [DecidableEq α] (d : α) (t : Tab α) (b c : Option Nat)
    (h : ∀ k, above c k → above b k) (hw : twfAbove d c t = true) : twfAbove d b t = true := by
  cases t with
  | nil => rfl
  | cons e t =>
    obtain ⟨k, v⟩ := e
    rw [twfAbove_cons] at hw ⊢
    exact ⟨h k hw.1, hw.2⟩

theorem twfAbove_tdel [DecidableEq α] (d : α) (t : Tab α) (b : Option Nat) (k : Nat)
    (h : twfAbove d b t = true) : twfAbove d b (tdel t k) = true := by
  induction t generalizing b with
  | nil => rfl
  | cons e t ih =>
    obtain ⟨j, v⟩ := e
    rw [twfAbove_cons] at h
    by_cases hj : j = k
    · simp only [tdel, if_pos hj]
      refine ih b (twfAbove_weaken d t b (some j) ?_ h.2.2)
      intro i hi
      cases b with
      | none => trivial
      | some n => exact Nat.lt_trans h.1 hi
    · simp only [tdel, if_neg hj]
      rw [twfAbove_cons]
      exact ⟨h.1, h.2.1, ih _ h.2.2⟩

theorem twfAbove_tins [DecidableEq α] (d : α) (t : Tab α) (b : Option Nat) (k : Nat) (v : α)
    (hk : ∀ e ∈ t, e.1 ≠ k) (hb : above b k) (hv : v ≠ d) (h : twfAbove d b t = true) :
    twfAbove d b (tins t k v) = true := by
  induction t generalizing b with
  | nil => rw [tins, twfAbove_cons]; exact ⟨hb, hv, rfl⟩
  | cons e t ih =>
    obtain ⟨j, u⟩ := e
    have hj : j ≠ k := hk (j, u) (by simp)
    rw [twfAbove_cons] at h
    by_cases hlt : k < j
    · simp only [tins, if_pos hlt, twfAbove_cons]
      exact ⟨hb, hv, hlt, h.2⟩
    · simp only [tins, if_neg hlt, twfAbove_cons]
      refine ⟨h.1, h.2.1, ih (some j) (fun e he => hk e (by simp [he])) ?_ h.2.2⟩
      show j < k
      omega

/-- A write keeps the canonical form. -/
theorem twf_tset [DecidableEq α] (d : α) (t : Tab α) (k : Nat) (v : α) (h : twf d t = true) :
    twf d (tset d t k v) = true := by
  unfold tset
  split
  · exact twfAbove_tdel d t none k h
  · rename_i hv
    exact twfAbove_tins d _ none k v (tdel_keys t k) trivial hv (twfAbove_tdel d t none k h)

theorem twf_tmod [DecidableEq α] (d : α) (t : Tab α) (k : Nat) (f : α → α) (h : twf d t = true) :
    twf d (tmod d t k f) = true := twf_tset d t k _ h

/-- Storing bytes keeps the canonical form of memory. -/
theorem wf_memWrite (bs : List Byte) : ∀ (m : Mem) (a : Nat), Memory.wf m = true → Memory.wf (memWrite m a bs) = true := by
  induction bs with
  | nil => intro m a h; exact h
  | cons b t ih => intro m a h; exact ih _ _ (twf_tset 0 m a b h)

/-- A byte outside the bytes stored is unchanged. -/
theorem tget_memWrite_out (bs : List Byte) : ∀ (m : Mem) (a x : Nat), (x < a ∨ a + bs.length ≤ x) →
    tget 0 (memWrite m a bs) x = tget 0 m x := by
  induction bs with
  | nil => intro m a x _; rfl
  | cons b t ih =>
    intro m a x h
    simp only [List.length_cons] at h
    simp only [memWrite]
    rw [ih _ _ _ (by omega), tget_tset_ne]
    omega

/-- A byte inside the bytes stored is the byte stored there. -/
theorem tget_memWrite_in (bs : List Byte) : ∀ (m : Mem) (a i : Nat), (h : i < bs.length) →
    tget 0 (memWrite m a bs) (a + i) = bs[i] := by
  induction bs with
  | nil => intro m a i h; simp at h
  | cons b t ih =>
    intro m a i h
    cases i with
    | zero => simp only [memWrite, Nat.add_zero, List.getElem_cons_zero]; rw [tget_memWrite_out _ _ _ _ (by omega)]; simp
    | succ i =>
      have := ih (tset 0 m a b) (a + 1) i (by simpa using h)
      simpa [memWrite, Nat.add_assoc, Nat.add_comm 1 i] using this

theorem rdBytes_wrBytes (bs : List Byte) : ∀ (s : State) (a : Nat), rdBytes (wrBytes s a bs) a bs.length = bs := by
  have go : ∀ (k : Nat) (t : State) (a : Nat) (l : List Byte), l.length = k →
      (∀ i, (h : i < l.length) → mrd t (a + i) = l[i]) → rdBytes t a k = l := by
    intro k
    induction k with
    | zero => intro t a l hl _; cases l <;> simp_all [rdBytes]
    | succ k ih =>
      intro t a l hl h
      cases l with
      | nil => simp at hl
      | cons b l =>
        simp only [rdBytes]
        have h0 := h 0 (by simp)
        simp only [Nat.add_zero, List.getElem_cons_zero] at h0
        rw [h0, ih t (a + 1) l (by simpa using hl)]
        intro i hi
        have := h (i + 1) (by simpa using hi)
        simpa [Nat.add_assoc, Nat.add_comm 1 i] using this
  intro s a
  exact go _ _ _ _ rfl (fun i h => tget_memWrite_in bs s.mem a i h)

end Sys2Proof.Machine
end

