-- ==== Sys2Proof/Laws/Ops.lean ====
section
/-! SUPPORT. Laws of the shared operations: what each reads after an update, and what accepting a packet does. -/

namespace Sys2Proof.Machine

variable (s : State)

/-! ### Parts of the state by number -/

theorem lane_setLane (n k : Nat) (l : Lane) : lane (setLane s n l) k = if n = k then l else lane s k := tget_tset ..
theorem ctx_setCtx (n k : Nat) (x : Ctx) : ctx (setCtx s n x) k = if n = k then x else ctx s k := tget_tset ..
theorem job_setJob (n k : Nat) (j : Job) : job (setJob s n j) k = if n = k then j else job s k := tget_tset ..
theorem ent_setEnt (n k : Nat) (e : Entry) : ent (setEnt s n e) k = if n = k then e else ent s k := tget_tset ..
theorem sq_setSq (n k : Nat) (r : Option SubRing) : sq (setSq s n r) k = if n = k then r else sq s k := tget_tset ..
theorem cq_setCq (n k : Nat) (r : Option CompRing) : cq (setCq s n r) k = if n = k then r else cq s k := tget_tset ..
theorem rq_setRq (n k : Nat) (r : Option RepRing) : rq (setRq s n r) k = if n = k then r else rq s k := tget_tset ..
theorem rget_rset (o k : Nat) (v : Word) : rget (rset s o v) k = if o = k then v else rget s k := tget_tset ..
theorem mrd_mwr (a k : Nat) (b : Byte) : mrd (mwr s a b) k = if a = k then b else mrd s k := tget_tset ..

@[simp] theorem lane_setLane_self (n : Nat) (l : Lane) : lane (setLane s n l) n = l := by simp [lane_setLane]
@[simp] theorem ctx_setCtx_self (n : Nat) (x : Ctx) : ctx (setCtx s n x) n = x := by simp [ctx_setCtx]
@[simp] theorem job_setJob_self (n : Nat) (j : Job) : job (setJob s n j) n = j := by simp [job_setJob]
@[simp] theorem ent_setEnt_self (n : Nat) (e : Entry) : ent (setEnt s n e) n = e := by simp [ent_setEnt]
@[simp] theorem sq_setSq_self (n : Nat) (r : Option SubRing) : sq (setSq s n r) n = r := by simp [sq_setSq]
@[simp] theorem cq_setCq_self (n : Nat) (r : Option CompRing) : cq (setCq s n r) n = r := by simp [cq_setCq]
@[simp] theorem rq_setRq_self (n : Nat) (r : Option RepRing) : rq (setRq s n r) n = r := by simp [rq_setRq]
@[simp] theorem rget_rset_self (o : Nat) (v : Word) : rget (rset s o v) o = v := by simp [rget_rset]
@[simp] theorem mrd_mwr_self (a : Nat) (b : Byte) : mrd (mwr s a b) a = b := by simp [mrd_mwr]

/-- A byte outside the bytes stored is unchanged. -/
theorem mrd_wrBytes_out (a x : Nat) (bs : List Byte) (h : x < a ∨ a + bs.length ≤ x) :
    mrd (wrBytes s a bs) x = mrd s x := tget_memWrite_out bs s.mem a x h

/-- A byte inside the bytes stored is the byte stored there. -/
theorem mrd_wrBytes_in (a i : Nat) (bs : List Byte) (h : i < bs.length) : mrd (wrBytes s a bs) (a + i) = bs[i] :=
  tget_memWrite_in bs s.mem a i h

theorem wf_wrBytes (a : Nat) (bs : List Byte) (h : Memory.wf s.mem = true) : Memory.wf (wrBytes s a bs).mem = true :=
  wf_memWrite bs s.mem a h

theorem wf_mwr (a : Nat) (b : Byte) (h : Memory.wf s.mem = true) : Memory.wf (mwr s a b).mem = true := twf_tset 0 s.mem a b h

/-! ### What moving a ring's head leaves -/

@[simp] theorem advanceHead_lane (n k : Nat) : lane (advanceHead s n) k = lane s k := by simp [lane]
@[simp] theorem advanceHead_ctx (n k : Nat) : ctx (advanceHead s n) k = ctx s k := by simp [ctx]
@[simp] theorem advanceHead_job (n k : Nat) : job (advanceHead s n) k = job s k := by simp [job]
@[simp] theorem advanceHead_ent (n k : Nat) : ent (advanceHead s n) k = ent s k := by simp [ent]
@[simp] theorem advanceHead_cq (n k : Nat) : cq (advanceHead s n) k = cq s k := by simp [cq]
@[simp] theorem advanceHead_rq (n k : Nat) : rq (advanceHead s n) k = rq s k := by simp [rq]
@[simp] theorem advanceHead_mrd (n a : Nat) : mrd (advanceHead s n) a = mrd s a := by simp [mrd]
@[simp] theorem advanceHead_rget (n o : Nat) : rget (advanceHead s n) o = rget s o := by simp [rget]
@[simp] theorem advanceHead_rg (n o : Nat) : rg (advanceHead s n) o = rg s o := by simp [rg]
@[simp] theorem advanceHead_rf (n o h l : Nat) : rf (advanceHead s n) o h l = rf s o h l := by simp [rf]
@[simp] theorem advanceHead_wt (n : Nat) : wt (advanceHead s n) = wt s := by simp [wt]
@[simp] theorem advanceHead_dt (n : Nat) : dt (advanceHead s n) = dt s := by simp [dt]
@[simp] theorem advanceHead_powered (n : Nat) : powered (advanceHead s n) = powered s := by simp [powered]
@[simp] theorem advanceHead_isReady (n : Nat) : isReady (advanceHead s n) = isReady s := by simp [isReady]
@[simp] theorem advanceHead_regionEnd (n a : Nat) : regionEnd (advanceHead s n) a = regionEnd s a := by
  unfold regionEnd
  rw [show dramSize (advanceHead s n) = dramSize s by simp [dramSize]]
@[simp] theorem advanceHead_rangeOk (n a k : Nat) : rangeOk (advanceHead s n) a k = rangeOk s a k := by
  unfold rangeOk; rw [advanceHead_regionEnd]

theorem sq_advanceHead_ne (n k : Nat) (h : k ≠ n) : sq (advanceHead s n) k = sq s k := by
  unfold advanceHead
  split
  · rfl
  · rw [sq_setSq, if_neg (Ne.symm h)]; rfl

theorem sq_advanceHead_self (n : Nat) (r : SubRing) (h : sq s n = some r) :
    sq (advanceHead s n) n = some { r with head := (r.head + 1) % ringSize r.log2 } := by
  unfold advanceHead
  simp [h]

theorem sq_advanceHead_isSome (n k : Nat) : (sq (advanceHead s n) k).isSome = (sq s k).isSome := by
  by_cases h : k = n
  · subst h
    cases hs : sq s k with
    | none => simp [advanceHead, hs]
    | some r => simp [sq_advanceHead_self s k r hs]
  · rw [sq_advanceHead_ne s n k h]

/-! ### Accepting a packet (R276) -/

theorem acceptable_sq (c : Cmd) (h : acceptable s c = true) : ∃ r, sq s c.sq = some r := by
  simp only [acceptable, Bool.and_eq_true] at h
  obtain ⟨⟨⟨-, h⟩, -⟩, -⟩ := h
  unfold ringOffers at h
  split at h
  · exact absurd h (by decide)
  · rename_i r hr; exact ⟨r, hr⟩

/-- A packet that is taken and whose parameters are all in range has the effect of its command, on a state whose ring
head has moved past it. -/
theorem accept_taken (c : Cmd) (op : Nat) (chk : List (Bool × Nat)) (body : State → Flight → State)
    (h : Taken c s) (hk : badByte chk none = none) :
    accept s c op chk body = body (advanceHead s c.sq) (flightOf c s) := by
  obtain ⟨hd, ha, hr, hp, hi, ho⟩ := h
  obtain ⟨r, hs⟩ := acceptable_sq s c ha
  simp [accept, badOpcode, hd, ha, hs, hr, hp, hk, hi, ho, flightOf]

/-- A command the device gives itself has its effect at once, with no packet. -/
theorem accept_internal (c : Cmd) (op : Nat) (chk : List (Bool × Nat)) (body : State → Flight → State)
    (h : Internal c s) : accept s c op chk body = body s (flightOf c s) := by
  simp [accept, h.1, h.2, flightOf]

/-- A packet that cannot be accepted leaves the state as it is. -/
theorem accept_not (c : Cmd) (op : Nat) (chk : List (Bool × Nat)) (body : State → Flight → State)
    (hd : c.dev = false) (h : acceptable s c = false) : accept s c op chk body = s := by
  simp [accept, hd, h]

/-- The reply of a command that the device gives itself goes nowhere. -/
@[simp] theorem complete_internal (f : Flight) (a b r : Nat) (h : f.c.dev = true) : complete s f a b r = s := by
  simp [complete, h]

end Sys2Proof.Machine
end

