-- ==== Sys2Proof/Tests/Slice0.lean ====
section
/-! SUPPORT. Witnesses that the hypotheses of the statements can be met, each clause at a bound of its range where it has
one, the checks of WellFormed on ill-formed commands, and one or two steps of commands with values worked out from the spec. -/

namespace Sys2Proof.Machine.Tests
set_option Elab.async false

/-- A device that has started, with one submission ring (a packet waiting) on one completion ring. -/
def up : State :=
  { State.reset with
    pins := { perst := false }
    boot := { stage := 6, everReady := true }
    sl := { running := true }
    sal := { sq := [(0, some { base := 0x1000, log2 := 4, tail := 1, cq := 0, prio := 0 })]
             cq := [(0, some { base := 0x2000, log2 := 4 })] } }

/-- The packet at the head of ring 0. -/
def pk : Cmd := { tag := 7, doneMark := 5, doneAdd := 2 }

/-- `s` with these bytes at `a`. -/
def poke (s : State) (a : Nat) (bs : List Nat) : State := { s with mem := memWrite s.mem a (bs.map (BitVec.ofNat 8)) }

/-! ### Rings -/

def rings : State :=
  { up with sal := { up.sal with
      sq := up.sal.sq ++ [(255, some { base := 0x4000, log2 := 16, cq := 0, prio := 3 })]
      cq := up.sal.cq ++ [(255, some { base := 0x8000, log2 := 4, wr := 16 })]
      rq := [(15, some { base := 0x10000, log2 := 4, lanes := 1, cats := 1, hold := 1, wr := 2, unread := [0, 3] })] }
            tmu := { dt := 1000 } }

theorem wit_SubmissionRings : Pre.sqCreate pk 0x3000 255 16 0 3 up ∧ Pre.sqCreate pk 0x3000 1 4 0 0 up ∧
    Pre.sqDelete pk 255 { base := 0x4000, log2 := 16, cq := 0, prio := 3 } rings ∧
    Pre.sqTail 255 65535 { base := 0x4000, log2 := 16, cq := 0, prio := 3 } rings ∧
    Pre.sqTailBad 0 16 rings ∧ Pre.sqTailBad 254 0 rings := by
  and_intros <;> decide +kernel

theorem wit_CompletionRings : Pre.cqCreate pk 0x3000 0xFFFF 255 16 up ∧ Pre.cqCreate pk 0x3000 2047 1 4 up ∧
    Pre.cqDelete pk 255 rings ∧ Pre.cqHead 255 16 { base := 0x8000, log2 := 4, wr := 16 } rings ∧
    Pre.cqHead 255 1 { base := 0x8000, log2 := 4, wr := 16 } rings := by
  and_intros <;> decide +kernel

theorem wit_ReportRings : Pre.rqCreate pk 0x3000 0xFFFFFFFF 0xFFFF 0xFFFF 65535 65535 15 6 up ∧
    Pre.rqCreate pk 0x3000 1 1 0 0 0 0 4 up ∧
    Pre.rqDelete pk 15 { base := 0x10000, log2 := 4, lanes := 1, cats := 1, hold := 1, wr := 2, unread := [0, 3] } rings ∧
    Pre.rqHead 15 2 { base := 0x10000, log2 := 4, lanes := 1, cats := 1, hold := 1, wr := 2, unread := [0, 3] } rings ∧
    Pre.rqHold 15 0 { base := 0x10000, log2 := 4, lanes := 1, cats := 1, hold := 1, wr := 2, unread := [0, 3] } rings := by
  and_intros <;> decide +kernel

theorem wit_MarkSignals : Pre.markSignal pk (2 ^ 64 - 1) 65535 up ∧ Pre.markHi 65535 up := by
  and_intros <;> decide +kernel

/-- Class 4 has used up its DRAM bandwidth of the period. -/
def drained : State := { up with hst := { dram := [(4, 2 ^ 62)] } }

theorem wit_MemoryCommands : Pre.dmaCopy pk 0x40000 0x80000 64 [(0x40000, false)] up ∧ Pre.dmaCopy pk 0x80000 0x80001 0 [] up ∧
    Pre.memFill pk 0x40000 (2 ^ 64 - 1) 7 up ∧ Pre.fltRead pk 0x40000 63 up ∧ Taken pk up ∧
    Pre.copyWaits pk 0x40000 0x80000 64 drained ∧ Pre.fillWaits pk 0x40000 7 64 drained := by
  and_intros <;> decide +kernel

/-! ### Web time and the Shutter table -/

/-- Web time at line 100, device time 50,000 ns; a marker pulse due, one that has fired and ended, a deadline of object 9 of
lane 31, and the lane with its start and stop lines reached. -/
def shutter : State :=
  let o : Obj := { key := 12, seq := 9, origin := 0, endLine := 65536, cfg := {}, job := 0, entry := some 4095 }
  { up with
    tmu := { line := 100, dt := 50000 }
    sht := [(0, { owner := .host, armed := true, target := 6553600, len := 3 }),
            (1, { owner := .host, armed := true, target := 6553600, dev := true, asserted := true, fired := true }),
            (2, { owner := .host, armed := true, dev := true, target := 0, len := 500, asserted := true, fired := true }),
            (4095, { owner := .lane 31, armed := true, typ := 6, lane := 31, target := 6553600 })]
    lanes := [(0, { st := .running, act := {}, stopPend := true, stopLine := 6553600, startPend := true, startLine := 6553600 }),
              (30, { st := .acquiring, startPend := true, startLine := 6553600 }),
              (31, { st := .running, act := {}, objs := [o], entries := [4095], stopPend := true, stopLine := 6553600 })] }

theorem wit_EncoderCounts : Pre.forward up ∧ Pre.repay { up with tmu := { debt := 1 } } ∧ Pre.reverse up ∧
    Pre.reverse { up with tmu := { debt := 1048575 } } ∧ powered up = true := by
  and_intros <;> decide +kernel

theorem wit_ShutterArming : Pre.arm 63 0x80000000 up ∧ Pre.arm 0 0x8C000000 up ∧
    Pre.disarm 63 0 up ∧ Pre.armBad 64 0x80000000 up ∧ Pre.armBad 1 0 shutter ∧ Pre.armBad 63 0x84000000 up := by
  and_intros <;> decide +kernel

theorem wit_MarkerPulses : Pre.assert 0 shutter ∧ Pre.pulse 0 shutter ∧ Pre.deassert 2 shutter ∧
    ((2, ent shutter 2) ∈ shutter.sht ∧ (ent shutter 2).asserted = true) := by
  and_intros <;> decide +kernel

theorem wit_TimedLaneActions :
    Pre.deadline 4095 { key := 12, seq := 9, origin := 0, endLine := 65536, cfg := {}, job := 0, entry := some 4095 } shutter ∧
    Pre.startLine 30 shutter ∧ Pre.startLine 0 shutter ∧ Pre.bothLines 0 shutter ∧ continues shutter (lane shutter 0) ∧
    Pre.stopLine 31 shutter ∧ powered shutter = true := by
  and_intros <;> decide +kernel

/-! ### Jobs, lanes, objects -/

/-- The least job image: one still, an artwork of 64 x 64 units, three quarters of a lead. -/
def img : JobImage :=
  { design := { w := 64, h := 64, pL := 65536, pX := 65536, pitch := 100 * 65536 }
    stills := [{}]
    pulse := 65535
    gateOfs := 3000, deadlineOfs := 1000, staleLines := 500 }

/-- The same with a still of level 6.2, which is beyond R96. -/
def badImg : JobImage := { img with stills := [{ hdr := { level := 62 } }] }

/-- The configuration of a lane before it starts, and of the running lane. -/
def cfgS : LaneCfg := { span := 0x003F0000, job := 0x43F, slots := 4 }
def cfgR : LaneCfg := { cfgS with span := 0x00FF00C0 }

/-- An object without inputs, and one whose text mismatched. -/
def obj6 : Obj := { key := 3, seq := 6, origin := 58982400, endLine := 60000000, cfg := cfgS, job := 63, img := img, entry := some 101 }
def objBad : Obj :=
  { obj6 with
    fields := [(0, some { out := .mismatch })]
    img := { img with fields := [{ kind := .text, rect := { x0 := 0, y0 := 0, x1 := 1, y1 := 1 }, action := .reject }] } }

/-- Job slot 63 READY, 62 LOADING with its still decoded, 61 LOADING with a failed still, 60 LOADING with a still in decode; lane 31 runs with a free slot at entry 100;
lane 0 is to start; port 0 delivers pixels 0 to 63. -/
def press : State :=
  rsetN (rsetN { up with
    tmu := { line := 1000, dt := 50000 }
    jobs := [(60, { st := .loading, img := img }), (61, { st := .loading, img := badImg, bad := true }),
             (62, { st := .loading, img := img, pics := [(0, some {})] }), (63, { st := .ready, img := img })]
    sht := [(100, { owner := .lane 31 }), (101, { owner := .lane 31, armed := true, typ := 6, lane := 31, target := 70000000 }),
            (102, { owner := .lane 31 })]
    lanes := [(0, { pend := cfgS }),
              (31, { st := .running, act := cfgR, entries := [100, 101], spanEntry := some 102, nextSeq := 7, nextKey := 4,
                     lastOrigin := some 58982400, startedAt := some 0,
                     objs := [obj6] })] }
    (spBase 0) 0x80000000) (spBase 0 + 4) 0x00400000

/-- Lane 31 with this object alone. -/
def holding (o : Obj) : State := setLane press 31 { lane press 31 with objs := [o] }

theorem wit_JobSlots : Pre.jobLoad pk 0x40000 4096 63 img up ∧ Pre.jobReady 62 [{}] press ∧ Pre.jobFails 61 press ∧ Pre.jobDecodes 60 press ∧
    Pre.jobLoad pk 0x40000 4096 0 badImg up ∧ Pre.jobUnload pk 59 press := by
  and_intros <;> decide +kernel

theorem wit_LaneCommands : Pre.laneStart pk (2 ^ 64 - 1) 0 press ∧ wt press < 2 ^ 64 - 1 ∧ Pre.laneStart pk 65536000 0 press ∧
    ¬wt press < 65536000 ∧ Pre.laneStop pk 65536001 31 press ∧ Pre.laneStop pk 0 31 press ∧
    Pre.setVar pk 0x40000 0 7 64 press ∧ Pre.setVar pk 0 0 0 0 press := by
  and_intros <;> decide +kernel

theorem wit_Objects :
    Pre.register 31 65536000 100 cfgR false press ∧
    Pre.overrun 31 65536000 cfgR false (setEnt press 100 { ent press 100 with armed := true }) ∧
    Pre.predictedMiss 31 65536000 cfgR false { press with tmu := { line := 1008 } } ∧
    Pre.lastWindow 31 65536000 cfgR false (setLane { press with tmu := { line := 1008 } } 31
      { lane press 31 with st := .stopping, stopLine := 65535999 }) ∧
    Pre.verdict 31 3 obj6 press ∧ Pre.verdictActs 31 3 101 obj6 press ∧ Pre.verdictActs 31 3 101 objBad (holding objBad) ∧
    (combine objBad).action = .reject := by
  and_intros <;> decide +kernel

/-- An object with a text field and a code field without outcomes. -/
def fText : FieldDef := { kind := .text, rect := { x0 := 0, y0 := 0, x1 := 1, y1 := 1 } }
def fCode : FieldDef := { fText with kind := .code }
def spec : CodeSpec := { sym := 0 }
def objF : Obj :=
  { obj6 with img := { img with fields := [fText, fCode], codes := [spec], rules := [{ rule := .exact, expected := .lit [0x41] }] } }

/-- The crop of its fields: one pixel of one line. -/
def boxF : Box := { x0 := 0, x1 := 1, y0 := 58982400, y1 := 59047936 }

/-- Context 4,096 has finished its text for field 0; field 1 waits for, or is in, the code unit; its row is in the raster. -/
def reading : State :=
  { holding objF with
    ctxs := [(4096, { st := .opened, owes := [(31, 3, some 0)] })]
    cap := { det := [(4096, some { done := true, starts := [0], confs := [65535], raw := 1, len := 1 })] }
    code := { queue := [{ lane := 31, key := 3, field := 1, target := 70000000 }, { lane := 31, key := 2, field := 0, target := 1 }] }
    fe := { gen := [(0, (0, 65536))], stamps := [(0, (58982400, 900))] } }

theorem wit_FieldOutcomes :
    Pre.fieldMatch 31 3 0 4096 objF fText { done := true, starts := [0], confs := [65535], raw := 1, len := 1 } reading ∧
    Pre.codeStart { lane := 31, key := 3, field := 1, target := 70000000 } objF boxF reading ∧
    Pre.codeDone { lane := 31, key := 3, field := 1, target := 70000000 } objF fCode boxF spec
      { reading with code := { busy := some { lane := 31, key := 3, field := 1, target := 70000000 } } } := by
  and_intros <;> decide +kernel

/-! ### The front end -/

/-- Port 0 is enabled (one lane, 8 pixels of one band) and awaits a line; port 7 is triggered and its entry due; a line of
port 1 waits to become a raster row; stripe buffer 3 runs with a row and a release due; stripe buffer 2 is configured. -/
def strips : State :=
  let l : Line := { wt := 65536, dt := 0, segs := [(0, some {})] }
  let r : Line := { wt := 65536, dt := 0, gen := (0, 1), segs := [(1, some { st := .ok, px := [[1]] })] }
  rsetN (rsetN (rsetN (rsetN (rsetN (rsetN (rsetN (rsetN (rsetN (rsetN (rsetN (rsetN (rsetN { up with
    tmu := { line := 10, dt := 1000000000 }
    sht := [(4095, { owner := .ports, armed := true, typ := 2, target := 655360, par := 65536, len := 128 })]
    marks := { val := [(77, 1)] }
    fe := { lines := [l, r], down := [(7, 2)], group := some [(0, 5)], sbs := [(3, some { queue := [{ stamp := 0, wt := 0, valid := true, px := [] }] })] } }
    (spBase 0) 0xC0010000) (spBase 0 + 4) 0x00080000) (spBase 0 + 0xC) 0x10000) (spBase 7) 0x10000000)
    0xC0000 0xEA600000) 0xC0058 1000) 0xC000C 0x80000000)
    (sbOff 2 + 8) 0x02000001) (sbOff 3) 0x8700003F) (sbOff 3 + 8) 0x02000001) (sbOff 3 + 16) 0x00460000) (sbOff 3 + 4) 0x100000) (sbOff 3 + 12) 0x10001

theorem wit_LineTriggers : Pre.trigArm pk (2 ^ 64 - 1) (2 ^ 32 - 1) 255 64 up ∧ Pre.trigArm pk 0 1 127 64 strips ∧
    Pre.trigFire 4095 strips ∧ Pre.trigStop pk 255 strips ∧ Pre.trigStop pk 1 up := by
  and_intros <;> decide +kernel

theorem wit_Shading : Pre.refCapture pk 1024 255 1 up ∧ Pre.refCapture pk 64 1 0 up ∧ Pre.refApply pk 254 strips ∧
    Pre.whiteTrack [(0, 5)] strips := by
  and_intros <;> decide +kernel

theorem wit_StripPorts :
    Pre.lineReceive 0 [1, 2, 3, 4, 5, 6, 7, 8] { wt := 65536, dt := 0, segs := [(0, some {})] } strips ∧
    Pre.lineShort 0 [1, 2, 3, 4, 5, 6, 7] { wt := 65536, dt := 0, segs := [(0, some {})] } strips ∧
    Pre.lineTimeout 0 { wt := 65536, dt := 0, segs := [(0, some {})] } strips ∧ Pre.crcError 0 strips ∧
    Pre.lineReceive 0 [1, 2, 3, 4, 5, 6, 7, 8, 9] { wt := 65536, dt := 0, segs := [(0, some {})] } strips ∧
    Pre.lineSpoilt 0 [1, 2, 3, 4, 5, 6, 7, 8] { wt := 65536, dt := 0, segs := [(0, some { st := .spoilt })] }
      (setFe strips { strips.fe with lines := [{ wt := 65536, dt := 0, segs := [(0, some { st := .spoilt })] }] }) ∧
    Pre.lineSpoilt 0 [1, 2, 3, 4, 5, 6, 7, 8] { wt := 65536, dt := 0, segs := [(0, some {})] }
      (setFe strips { strips.fe with badWords := [0] }) ∧
    Pre.linkLost 7 0 strips ∧ Pre.linkBack 7 1 strips ∧ Pre.sysrefArmed strips ∧
    Pre.sysrefIn 4 (rsetN (setFe up { up.fe with sysPhase := 4 }) 0xC000C 0) ∧
    Pre.sysrefIn 65535 (rsetN (setFe up { up.fe with sysPhase := 4 }) 0xC000C 5) ∧
    Pre.sysrefOut 65534 (rsetN (setFe up { up.fe with sysPhase := 4 }) 0xC000C 5) ∧
    Pre.sysrefOut 10 (rsetN (setFe up { up.fe with sysPhase := 4 }) 0xC000C 5) := by
  and_intros <;> decide +kernel

theorem wit_Rows :
    Pre.rasterRow { wt := 65536, dt := 0, gen := (0, 1), segs := [(1, some { st := .ok, px := [[1]] })] } [] strips ∧
    rowOverflow (some (1, 5)) (portsOf { wt := 65536, dt := 0, segs := [(1, some { st := .ok, px := [[1]] })] }) = some (1, 5) ∧
    Pre.stripeRow 3 { queue := [{ stamp := 0, wt := 0, valid := true, px := [] }] } { stamp := 0, wt := 0, valid := true, px := [] } [] strips ∧
    Pre.stripeRelease 3 7 { queue := [{ stamp := 0, wt := 0, valid := true, px := [] }] } strips ∧
    Pre.stripeEnable 2 0x8000003F strips ∧ Pre.stripeDisable 3 0 strips := by
  and_intros <;> decide +kernel

def bedUp (b : Bed) : State :=
  rsetN (rsetN { up with sht := [(100, { owner := .bed, armed := true, typ := 1, len := 64 })], fe := { bed := b } } 0x20000 1) 0xC0070 0x80000000

theorem wit_ProofBed : Pre.pbStart pk 64 (bedUp {}) ∧ Pre.pbPause pk (bedUp { st := .moving, ramp := 1 }) ∧
    Pre.pbPause pk (bedUp { st := .moving, stepped := true }) ∧ Pre.pbResume pk (bedUp { st := .paused }) ∧
    Pre.stepFire 100 (bedUp { st := .moving }) ∧ Pre.bedLine (bedUp { st := .moving, stepped := true }) ∧
    Pre.stepHome 100 (bedUp { st := .homing, back := 1 }) ∧ Pre.runOut (setLane (bedUp { st := .ending }) 31 { objs := [obj6] }) ∧
    Pre.runEnd (bedUp { st := .ending, pos := 1 }) ∧ Pre.home (bedUp { st := .homing, stepped := true }) := by
  and_intros <;> decide +kernel

/-! ### Memory channels, budgets, clocks, resets, faults -/

/-- 10 ms after start-up: channel 5 with three replays in a row of each kind, scrub and neighbour refresh on. -/
def chans : State :=
  rsetN (rsetN { up with tmu := { dt := 10000000 }, mc := { chans := [(5, { caRow := 3, wrRow := 3 })] } }
    (chanBase 5 + 0x50) 0x80000000) (chanBase 5 + 0x10) 1

/-- Port 7 has half its sub-queue of channel 5 filled, and 63 neighbour refreshes are held there. -/
def pennant : State := setChan chans 5 { chan chans 5 with fill := [(7, 2048)], held := List.replicate 63 0 }

theorem wit_MemoryChannels : Pre.refresh 5 chans ∧ Pre.refresh 0 chans ∧
    Pre.refreshMode { chans with pins := { chans.pins with dramHot := true } } ∧
    Pre.caAlert 5 false chans ∧ Pre.caAlert 0 true chans ∧ Pre.caLast 5 chans ∧ Pre.crcAlert 5 false chans ∧ Pre.crcAlert 0 true chans ∧
    Pre.crcLast 5 chans ∧ Pre.scrub 5 chans ∧ Pre.neighbour 5 0 15 65535 chans ∧
    Pre.scrubHeld 5 pennant ∧ Pre.neighbourHeld 5 0 15 65535 pennant := by
  and_intros <;> decide +kernel

theorem wit_Budgets : Pre.commit up ∧ Pre.commitBad { up with ctxs := [(0, { st := .opened, cls := 9 })] } ∧
    Pre.boundary { chans with hst := { used := [(0, 7)], pend := true } } := by
  and_intros <;> decide +kernel

/-- Core 7 at the end of a DVFS stop, core 6 waiting for the rail since 1 ms. -/
def clocks : State :=
  { chans with cores := [(6, { pend := true, freq := 30, eff := 26 }), (7, { pend := true, freq := 20, stop := true, stopTo := 20, stopAt := 9998000 })] }

theorem wit_ClocksAndPower : Pre.dvfs 7 16 up ∧ Pre.dvfs 0 32 up ∧ Pre.dvfsBad 7 15 up ∧ Pre.dvfsBad 0 33 up ∧
    Pre.stopEnd 7 clocks ∧ powered up = true ∧ Pre.avsLate clocks ∧ Pre.sensor 11 up ∧ (rf up 0x28 7 0 : Int) * 256 ≤ ofTwos 16 0x7FFF ∧
    Pre.capUpdate clocks ∧ up.pins.pwrok = true := by
  and_intros <;> decide +kernel

/-- The instant after PERST_N is released with a boot image in bank A; the same in a tier C recovery; with none. -/
def booting : State := { State.reset with pins := { perst := false }, boot := { stage := 1 }, flash := { bankA := { valid := true } } }

def noDram : BootReport := { dramFail := 33 }

theorem wit_Resets : { State.reset with pins := { pwrok := false } }.pins.pwrok = false ∧ Pre.perst up ∧ Pre.unperst State.reset ∧
    Pre.startUp false {} booting ∧ Pre.startUp true {} { booting with boot := { stage := 1, tierC := true } } ∧
    (Pre.trainFails noDram booting ∧ trainBad booting.flash.board noDram = 33) ∧
    Pre.noImage { bank0 := false } { booting with flash := {} } := by
  and_intros <;> decide +kernel

theorem wit_ControlParity : powered up = true ∧ (powered up = true ∧ 5 < 6) ∧ (powered up = true ∧ 7 < 8) ∧
    (powered up = true ∧ up.fe.badWords.contains 65535 = false) ∧
    Pre.parityCode { lane := 31, key := 6, field := 0, target := 1 }
      { up with code := { busy := some { lane := 31, key := 6, field := 0, target := 1 } } } := by
  and_intros <;> decide +kernel

/-- Context 16,383 runs at its watchdog's limit; context 4,096 is FAULTED and in reset; a scan is due. -/
def hanging : State :=
  { up with
    tmu := { dt := 20000 }
    ctxs := [(4096, { st := .faulted, cause := 0x0101 }), (16383, { st := .running, wdog := 1, wd := 1000 })]
    flt := { resets := [{ ctx := 4096, active := true }] } }

theorem wit_ContextFaults : Pre.ctxFault 16383 { cause := 0x0305 } hanging ∧ Pre.resetDone 4096 hanging ∧
    (Pre.watchdog 16383 hanging ∧ bit (rg hanging 0x30000) 1 = false) ∧
    (Pre.watchdog 16383 (rsetN hanging 0x30000 3) ∧ bit (rg (rsetN hanging 0x30000 3) 0x30000) 1 = true) ∧
    (Pre.halyard hanging ∧ hanging.flt.knots = []) := by
  and_intros <;> decide +kernel

/-- At device time `now`, the pad of output 15 has differed since `since`. -/
def differs (now since : Nat) (done : Bool) : State := { up with tmu := { dt := now, mis := [(15, some (since, done))] } }

theorem wit_SharedFaults : Pre.readbackSame 15 false up ∧ Pre.readbackSame 0 true State.reset ∧ 
    Pre.readbackSettles 15 true (differs 299 100 false) ∧ Pre.readbackSettles 15 true (differs 300 100 false) ∧
    Pre.readbackSettles 15 true (differs 9999 100 true) ∧ Pre.readbackWrong 15 true (differs 301 100 false) ∧
    powered up = true ∧ Pre.ringDown { up with ring := { trained := true, up := 255 } } ∧ linkUp { up with ring := { trained := true, up := 255 } } 7 = true := by
  and_intros <;> decide +kernel

/-! ### Management -/

/-- Bank B holds a valid image; lane 31 is out of service; a tier B of core 7 has reset its contexts. -/
def managed : State :=
  { up with
    flash := { bankB := { valid := true, fwVer := 3 } }
    lanes := [(31, { st := .outOfService, oosHold := true })]
    boot := { up.boot with tierB := [{ mask := 128 }] } }

theorem wit_FirmwareCommands : Pre.mgmt (.devInfo pk) pk up ∧ Pre.fwStage pk 0x40000 2097152 1 true up ∧ Pre.fwActivate pk 1 managed ∧
    Pre.mgmt (.bootBank pk 1) pk managed ∧ Pre.boardCfg pk 0x40000 57344 {} up := by
  and_intros <;> decide +kernel

theorem wit_Recovery : Pre.tierB pk 255 up ∧ Pre.tierB pk 1 up ∧ Pre.mgmt (.devRecover pk 2 0) pk up ∧ Pre.tierBDone { mask := 128 } managed ∧
    Pre.laneRestore pk 31 managed ∧ Pre.escCfg pk 64 600 256 3600 up ∧ Pre.escCfg pk 1 1 1 1 up := by
  and_intros <;> decide +kernel

def chartOne : Chart := { patches := [{ rect := { x0 := 0, y0 := 0, x1 := 1, y1 := 1 } }] }

theorem wit_ChartCalibration : Pre.colourCal pk 0 0x40000 0x50000 0 65535 chartOne up ∧
    Pre.chartBusy pk 0 0x40000 0x50000 0 65535 chartOne (setLane up 31 { st := .running, act := { span := 0xFFFFFFFF } }) ∧
    Pre.chartFit { key := 3, out := 0x50000, begun := true } { up with fe := { charts := [{ key := 3, out := 0x50000, begun := true }] } } := by
  and_intros <;> decide +kernel

theorem wit_SafelightRuns : Pre.swapGood 1 5 { managed with sl := { running := true, swap := some 1, swapAt := some 5 } } ∧
    Pre.swapBad false 1 5 { managed with sl := { running := true, swap := some 1, swapAt := some 5 } } ∧
    Pre.swapBad true 1 5 { managed with sl := { running := true, swap := some 1, swapAt := some 5 }, fuse := { svnMin := 255 } } ∧
    Pre.swapLate 5 { managed with sl := { running := true, swap := some 1, swapAt := some 5 }, flt := { clock := 160000005 } } ∧
    Pre.slWdog { up with flt := { clock := 50000000 } } ∧ Pre.lockstep up ∧ Pre.tierMDone { up with boot := { up.boot with tierM := true } } ∧
    slAvail up = true := by
  and_intros <;> decide +kernel

/-! ### Contexts, sequences, groups -/

/-- A context descriptor at 0x40000: program at 0x80000, core 7, class 2. -/
def opening : State := poke (poke up 0x40000 [0, 0, 8]) 0x40008 [7, 2]

/-- Host contexts in each state, one with a caption block whose vocabulary is not resident, one device context. -/
def ctxs : State :=
  { up with
    tmu := { line := 100 }
    ctxs := [(1, { st := .opened }), (0x1000, { st := .opened, prog := 0x80000, desc := 0x40000 }),
             (0x1001, { st := .opened, caption := true, desc := 0x40000 }), (0x1002, { st := .ready }),
             (0x1003, { st := .running, core := 1 }), (0x1004, { st := .stopped, prevSt := .waiting, wait := some (.mark 9 0) }),
             (0x1005, { st := .stopped, prevSt := .waiting, wait := some (.mark 9 1) }),
             (0x1006, { st := .opened }), (0x3FFF, { st := .waiting, wait := some (.mark 9 1) })]
    cores := [(1, { q := [{ ctx := 0x1003, unit := 2, pc := 0 }], cur := some 0x1003 })]
    sht := [(0, { owner := .host, armed := true, typ := 3, par := 0x1000, target := 6553600 }),
            (1, { owner := .host, armed := true, typ := 3, par := 0x1002, target := 6553600 }),
            (2, { owner := .host, armed := true, typ := 3, par := 1, target := 6553600 })] }

theorem wit_ContextsBegin : Pre.ctxOpen pk 0x40000 0x3FFF opening ∧ Pre.ctxOpen { dev := true } 0x40000 0xFFF opening ∧
    Pre.ctxLaunch pk 0x1006 ctxs ∧ Pre.ctxLaunchBad pk 0x1001 ctxs ∧ Pre.launchHit 0 ctxs ∧ Pre.launchMiss 1 ctxs ∧ Pre.launchMiss 2 ctxs := by
  and_intros <;> decide +kernel

theorem wit_ContextsEnd :
    (Pre.ctxStop pk 0x3FFF ctxs ∧ inFlight ctxs 0x3FFF = false ∧ (ctx ctxs 0x3FFF).ended = false) ∧
    (Pre.ctxStop pk 0x1003 ctxs ∧ inFlight ctxs 0x1003 = true) ∧ Pre.ctxResume pk 0x1004 ctxs ∧ Pre.ctxResume pk 0x1005 ctxs ∧
    Pre.ctxClose pk 0x1000 ctxs ∧ Pre.ctxAbort pk 0x3FFF ctxs ∧ Pre.ctxDenied pk 0xFFF ctxs := by
  and_intros <;> decide +kernel

/-- Sequences of context 0x1000: 0 open in pool 3 with 65 positions in frames 0 and 1, 1 empty of the same shape, 2 in a step;
a property block without a decode block at 0x50000; a group block over cores 7 and 0 at 0x60000 and group 31 open. -/
def seqs : State :=
  let q : Seq := { paged := true, pool := 3, maxLen := 65536, len := [65], bound := 65, pt := [(0, some 0), (1, some 1)] }
  poke (poke (poke { rsetN up 0x80130 0x80000000 with
    ctxs := [(0x1000, { st := .opened, core := 7 }), (0x1001, { st := .opened })]
    kv := { seqs := [(seqKey 0x1000 0, some q), (seqKey 0x1000 1, some { q with len := [0], pt := [], bound := 0, leader := 1 }),
                     (seqKey 0x1000 2, some { q with inStep := true, leader := 2 }),
                     (seqKey 0x1000 3, some { q with inStep := true, len := [0], pt := [], bound := 0, leader := 3 })], ref := [(0, 1), (1, 1)] }
    ring := { groups := [(30, some { start := 0, g := 2, ctxs := [0x1001], leader := 0, part := [], rbuf := [], tMax := 1, topP := 8,
                                     winW := 1, evtAddr := 0, evtMark := 0 })] } }
    0x50000 [0, 1, 1, 0, 64, 0, 0, 0, 64, 0, 0, 0, 0, 0, 0, 0, 0, 0, 0, 0, 0, 0, 0, 0, 0, 16, 5])
    0x51000 [0, 0, 0x80, 0x3F, 0, 0, 0x80, 0x3F])
    0x60000 [7, 2, 1, 0, 8, 1, 0, 0, 0, 0, 0, 0, 0, 0, 0, 0, 0, 0, 7, 0, 0, 0, 0, 0,
      0, 16, 0, 0, 0, 0, 0, 0, 0, 0, 0, 0, 1, 16]

def shape : Seq := { paged := true, pool := 3, maxLen := 65536, len := [65], bound := 65, pt := [(0, some 0), (1, some 1)] }

theorem wit_Sequences : Pre.seqOpen pk 0x50000 0x1000 1023 seqs ∧ Pre.seqClose pk 0x1000 0 shape seqs ∧
    Pre.ptShare pk 65 0x1000 1 0x1000 0 shape { shape with len := [0], pt := [], bound := 0, leader := 1 } seqs ∧
    (Pre.ptTruncate pk 65536 0x1000 0 shape seqs ∧ shape.inStep = false) ∧
    Pre.ptTruncate pk 0 0x1000 2 { shape with inStep := true, leader := 2 } seqs ∧
    Pre.ptShare pk 1 0x1000 3 0x1000 0 shape { shape with inStep := true, len := [0], pt := [], bound := 0, leader := 3 } seqs ∧
    Pre.ptEdit pk 0 0x1000 0 shape seqs ∧ Pre.ptEdit pk (2 ^ 32 - 1) 0x1000 2 { shape with inStep := true, leader := 2 } seqs := by
  and_intros <;> decide +kernel

theorem wit_RingGroups : Pre.ringOpen pk 0x60000 0 seqs ∧ (Pre.ringClose pk 30 seqs ∧ groupBusy seqs 30 = false) ∧
    (Pre.ringClose pk 30 { seqs with cores := [(0, { q := [{ ctx := 0x1001, unit := 2, pc := 0, group := some 30 }] })] } ∧
     groupBusy { seqs with cores := [(0, { q := [{ ctx := 0x1001, unit := 2, pc := 0, group := some 30 }] })] } 30 = true) := by
  and_intros <;> decide +kernel

/-! ### Descriptors -/

def le2 (n : Nat) : List Nat := [n % 256, n / 256 % 256]
/-- An operand of the private window at `a` in format `f`. -/
def od (a rows cols pitch f : Nat) : List Nat := le2 a ++ [0, 0, 0, 0, 0, 0] ++ le2 rows ++ le2 cols ++ le2 pitch ++ [0, f]

/-- Context 0x1000 READY at a descriptor of type `t` with these bytes from 0x10 on, its private window 64 KiB. -/
def desc (t flags : Nat) (bs : List Nat) : State :=
  poke (poke { up with ctxs := [(0x1000, { st := .ready, cls := 2, pc := 0x40000, privSize := 65536, endMark := 3, endAdd := 4 })] }
    0x40000 [t, flags]) 0x40010 bs

def gemmD : State := desc 1 0 (od 0 1 1 64 5 ++ od 64 1 1 64 5 ++ od 128 1 1 64 5)
def winD : List Nat := [1, 0, 1, 0, 1, 0, 1, 0, 0, 0, 0, 0, 0, 0, 0, 0]
def imD : List Nat := [0, 0, 0, 0, 0, 0, 0, 0, 1, 0, 1, 0, 1, 0, 5, 0]
def convD : State :=
  poke (desc 2 0 (imD ++ od 64 1 1 64 5 ++ od 128 1 1 64 5)) 0x40060 (winD ++ [1, 1, 0, 0, 1, 0, 0, 0, 1, 0, 1, 0])
def poolD : State := poke (desc 3 0 (imD ++ od 128 1 1 64 5 ++ winD)) 0x40060 [1, 1]
def vecD : State := desc 4 0 (od 0 1 1 64 5 ++ od 64 1 1 64 5 ++ List.replicate 16 0 ++ od 128 1 1 64 5)
def dmaD : State := desc 6 0 ([0, 0, 8, 0, 0, 0, 0, 0] ++ [0, 1, 0, 0, 0x41, 0, 0, 0] ++ [64, 0, 0, 0, 2, 0, 0, 0, 64, 0, 0, 0, 64])

/-- Two contexts of one core whose GEMMs share B and the output stage. -/
def gemm2 : State :=
  let g := od 0 1 1 64 5 ++ [64, 0, 0, 1] ++ (od 0 1 1 64 5).drop 4 ++ od 128 1 1 64 5
  let x : Ctx := { st := .ready, cls := 2, pc := 0x40000, privSize := 4096, shrSize := 4096, shrBase := 0x100000 }
  poke (poke { up with ctxs := [(0x1000, x), (0x1001, { x with privBase := 4096 })] } 0x40000 [1]) 0x40010 g

theorem wit_TensorDescriptors :
    Pre.issues 2 0x1000 (.conv (convOf (descAt convD 0x40000))) convD ∧ Pre.issues 3 0x1000 (.pool (poolOf (descAt poolD 0x40000))) poolD ∧
    Pre.issues 4 0x1000 (.vec (vecOf (descAt vecD 0x40000))) vecD ∧
    (Pre.issues 1 0x1000 (.gemm (gemmOf (descAt gemmD 0x40000))) gemmD ∧
      partners gemmD 0x1000 (cand gemmD 0x1000) (gemmOf (descAt gemmD 0x40000)) = []) ∧
    (Pre.gemmMany 0x1000 (gemmOf (descAt gemm2 0x40000)) gemm2 ∧
      partners gemm2 0x1000 (cand gemm2 0x1000) (gemmOf (descAt gemm2 0x40000)) = [0x1001]) := by
  refine ⟨?_, ?_, ?_, ?_, ?_⟩ <;> decide +kernel

theorem wit_DmaDescriptors : readDesc dmaD (descAt dmaD 0x40000) = some (.dma (dmaOf (descAt dmaD 0x40000))) ∧ Pre.issues 6 0x1000 (.dma (dmaOf (descAt dmaD 0x40000))) dmaD := by
  refine ⟨?_, ?_⟩ <;> decide +kernel

/-- An ATTN of one query row of 64 values on sequence 0 of its context, which holds one position; `m` is its mode byte. -/
def attnD (m topP winW : Nat) (kv : List Nat) : State :=
  let s := poke (desc 5 0 (od 0 1 64 128 5 ++ od 0x1000 1 64 128 5 ++ kv)) 0x40050 ([0, 0, 0, 0, 64, 0, 1, 1] ++ [1, 0, 0, 0, 1, 0, 0, 0] ++ [0, 0, 0, 0, m, topP, winW])
  { s with
    kv := { seqs := [(seqKey 0x1000 0, some { len := [1], bound := 1, scales := 0x90000, region := 0x100000 })] }
    ring := { groups := [(0, some { start := 0, g := 2, ctxs := [0x1000, 0x1001], leader := seqKey 0x1000 0, part := [], rbuf := [], tMax := 1,
                                    topP := 8, winW := 1, evtAddr := 0, evtMark := 0 })] } }

def kvOps : List Nat := od 0x2000 1 64 128 5 ++ od 0x3000 1 64 128 5
def noOps : List Nat := List.replicate 32 0
def attnAt (s : State) : Attn := attnOf (descAt s 0x40000)
def seq0 : Seq := { len := [1], bound := 1, scales := 0x90000, region := 0x100000 }

theorem wit_Attention :
    Pre.attnRead 0x1000 (attnAt (attnD 0 0 0 noOps)) seq0 (attnD 0 0 0 noOps) ∧
    Pre.attnAppend 0x1000 (attnAt (attnD 8 0 0 kvOps)) seq0 seq0 (attnD 8 0 0 kvOps) (attnD 8 0 0 kvOps) ∧
    Pre.attnRead 0x1000 (attnAt (attnD 2 8 1 noOps)) seq0 (attnD 2 8 1 noOps) ∧
    Pre.attnStranger 0x1000 (attnAt (attnD 1 0 0 noOps)) { attnD 1 0 0 noOps with ring := {} } ∧
    Pre.attnBad 0x1000 (attnAt (attnD 0 0 0 noOps)) 0x0301 { attnD 0 0 0 noOps with kv := {} } ∧
    Pre.attnRing 0x1000 (attnAt (attnD 1 0 0 noOps))
      { start := 0, g := 2, ctxs := [0x1000, 0x1001], leader := seqKey 0x1000 0, part := [], rbuf := [], tMax := 1, topP := 8, winW := 1,
        evtAddr := 0, evtMark := 0 } (attnD 1 0 0 noOps) := by
  refine ⟨?_, ?_, ?_, ?_, ?_, ?_⟩ <;> decide +kernel

/-- Contexts 0x1000 and 0x1001 on cores 0 and 1 stand at the barrier of group 0, `pos` positions held. -/
def barred (pos : Nat) : State :=
  let s := attnD 1 0 0 noOps
  let d (c : Nat) : QDesc := { ctx := c, unit := 3, pc := 0x40000, group := some 0, barrier := true, bs := descAt s 0x40000 }
  { s with
    ctxs := [(0x1000, { st := .waiting, wait := some (.barrier 0) }), (0x1001, { st := .waiting, wait := some (.barrier 0), core := 1 })]
    cores := [(0, { q := [d 0x1000] }), (1, { q := [d 0x1001] })]
    kv := { seqs := [(seqKey 0x1000 0, some { seq0 with len := [pos] })] } }

def grp : RGroup :=
  { start := 0, g := 2, ctxs := [0x1000, 0x1001], leader := seqKey 0x1000 0, part := [], rbuf := [], tMax := 1, topP := 8, winW := 1,
    evtAddr := 0, evtMark := 0 }
def members : List (Nat × Attn) := [(0x1000, attnAt (attnD 1 0 0 noOps)), (0x1001, attnAt (attnD 1 0 0 noOps))]

/-- The same two append at positions 1 and 2 of a paged sequence whose pool has no frame. -/
def appending : State :=
  let s := attnD 9 0 0 kvOps
  let d (c pos : Nat) : QDesc := { ctx := c, unit := 3, pc := 0x40000, group := some 0, barrier := true,
                                   bs := (descAt s 0x40000).set 0x58 (BitVec.ofNat 8 pos) }
  { s with
    ctxs := [(0x1000, { st := .waiting, wait := some (.barrier 0) }), (0x1001, { st := .waiting, wait := some (.barrier 0), core := 1 })]
    cores := [(0, { q := [d 0x1000 1] }), (1, { q := [d 0x1001 2] })]
    kv := { seqs := [(seqKey 0x1000 0, some { seq0 with paged := true })] } }

def appenders : List (Nat × Attn) :=
  [(0x1000, attnAt (attnD 9 0 0 kvOps)), (0x1001, { attnAt (attnD 9 0 0 kvOps) with qPos := 2 })]

/-- What `Pre.barrierFull` asks, its last clause as a decision. -/
theorem barrierFull_of (g : Nat) (r : RGroup) (ms : List (Nat × Attn)) (q : Seq) (c : Nat) (s : State)
    (h : Pre.barrier g r ms s ∧ ringCause s r ms = none ∧ seq s r.leader = some q ∧ ms ≠ [] ∧ (∀ m ∈ ms, m.2.append = true) ∧
      (∀ m ∈ ms, cowPoison s q (appendBlocks m.2.qPos m.2.q.rows) = none))
    (h' : (match ringEnsure r.leader ms s with | .error y => decide (y = c) | .ok _ => false) = true) : Pre.barrierFull g r ms q c s := by
  obtain ⟨h1, h2, h3, h4, h5, h6⟩ := h
  refine ⟨h1, h2, h3, h4, h5, h6, ?_⟩
  cases e : ringEnsure r.leader ms s with
  | error y => simpa [e] using h'
  | ok _ => simp [e] at h'

theorem wit_RingBarrier : Pre.barrierFull 0 grp appenders { seq0 with paged := true } 0x1000 appending ∧
    (group (barred 1) 0 = some grp ∧ ∃ m ∈ members, (core (setCore (barred 1) 1 { core (barred 1) 1 with stop := true })
      (ctx (barred 1) m.1).core).stop = true) ∧ Pre.barrierGo 0 grp members seq0 (barred 1) ∧
    (Pre.barrier 0 grp members (barred 0) ∧ ringCause (barred 0) grp members = some 0x0303) ∧
    (group (attnD 1 0 0 noOps) 0 = some grp ∧ atBarrier (attnD 1 0 0 noOps) 0 grp = none) := by
  refine ⟨barrierFull_of _ _ _ _ _ _ (by decide +kernel) (by decide +kernel), ?_, ?_, ?_, ?_⟩ <;> decide +kernel

/-- A mark 65,535, or 4,095, with a value; a counter with its operation, target and value. -/
def onMark (t flags hi v : Nat) : State := desc t flags [255, hi, 0, 0, 0, 0, 0, 0, v]
def onCnt (op n : Nat) : State :=
  let s := desc 9 0 [3, op, 0, 0, 255, 255, 255, 255, 7]
  setCtx s 0x1000 { ctx s 0x1000 with cnt := [0, 0, 0, n] }

theorem wit_ControlDescriptors :
    (Pre.issues 7 0x1000 (.wait 65535 0) (onMark 7 0 255 0) ∧ plain (onMark 7 0 255 0) 0x1000) ∧
    (Pre.issues 7 0x1000 (.wait 65535 1) (onMark 7 0 255 1) ∧ mark (onMark 7 0 255 1) 65535 < 1 ∧ inFlight (onMark 7 0 255 1) 0x1000 = false) ∧
    Pre.waitEnd 0x1000 65535 0 (onMark 7 1 255 0) ∧
    (Pre.issues 8 0x1000 (.signal 65535 9) (onMark 8 0 255 9) ∧ plain (onMark 8 0 255 9) 0x1000) ∧
    Pre.issues 8 0x1000 (.signal 4095 9) (onMark 8 0 15 9) ∧
    (Pre.issues 9 0x1000 (.branch 3 1 (-1) 7) (onCnt 1 0) ∧ plain (onCnt 1 0) 0x1000) ∧
    (Pre.issues 9 0x1000 (.branch 3 0 (-1) 7) (onCnt 0 1) ∧ plain (onCnt 0 1) 0x1000) ∧
    (Pre.issues 9 0x1000 (.branch 3 0 (-1) 7) (onCnt 0 2) ∧ plain (onCnt 0 2) 0x1000 ∧
      0 ≤ ((ctx (onCnt 0 2) 0x1000).pc : Int) + 128 * (-1) ∧ fetchOk (onCnt 0 2) (((ctx (onCnt 0 2) 0x1000).pc : Int) + 128 * (-1)).toNat = true) := by
  refine ⟨?_, ?_, ?_, ?_, ?_, ?_, ?_, ?_⟩ <;> decide +kernel

def serving : Detok := { queue := [(65, 65535)], ending := true }

/-- The descriptor of `s` at the head of a unit of core 0, its context RUNNING. -/
def atHead (s : State) (u : Nat) (app : Option (Nat × Nat × Nat)) : State :=
  { setCtx s 0x1000 { ctx s 0x1000 with st := .running } with
    cores := [(0, { q := [{ ctx := 0x1000, unit := u, pc := 0x40000, bs := descAt s 0x40000, app := app }] })] }

theorem wit_DescriptorCompletion :
    Pre.descDone 0 0 { ctx := 0x1000, unit := 0, pc := 0x40000, bs := descAt gemmD 0x40000 } (atHead gemmD 0 none) ∧
    (readDesc gemmD (descAt gemmD 0x40000) = some (.gemm (gemmOf (descAt gemmD 0x40000)))) ∧
    (Pre.descDone 0 3 { ctx := 0x1000, unit := 3, pc := 0x40000, bs := descAt (attnD 8 0 0 kvOps) 0x40000, app := some (seqKey 0x1000 0, 0, 1) }
        (atHead (attnD 8 0 0 kvOps) 3 (some (seqKey 0x1000 0, 0, 1))) ∧
      seq (atHead (attnD 8 0 0 kvOps) 3 (some (seqKey 0x1000 0, 0, 1))) (seqKey 0x1000 0) = some seq0) ∧
    Pre.descDone 7 4 { ctx := 0x1000, unit := 4, pc := 0 } { up with
      ctxs := [(0x1000, { st := .running, core := 7 })]
      cores := [(7, { q := [{ ctx := 0x1000, unit := 4, pc := 0 }] })] } ∧
    Pre.tokenServed 0x1000 serving (65, 65535) [] { up with
      ctxs := [(0x1000, { st := .opened })]
      cap := { det := [(0x1000, some serving)], vocabs := [(0, some ⟨0, 0, 0, 0, 0, 0, 0, 0⟩)] } } := by
  refine ⟨?_, ?_, ?_, ?_, ?_⟩ <;> decide +kernel

theorem wit_NumberFormats : (∀ f ∈ [e4m3, e5m2, bf16, fp32], 0 < 2 ^ (f.m + f.ebits + 1) ∧ decodeF f 0 = .zero false) ∧
    ((-5 : Int) ≤ 0 ∧ (0 : Int) ≤ 5) ∧ (-sat48lim ≤ sat48lim ∧ sat48lim ≤ sat48lim) := by
  refine ⟨?_, ?_, ?_⟩ <;> decide +kernel

theorem wit_GrainError : 3 ≤ 3 ∧ (List.replicate 128 (0xFF : Byte)).length = 128 := ⟨by decide, by simp⟩

/-! ### The Caption unit -/

/-- Memory that holds `f` from `a` on for `n` bytes. -/
def memOf (f : Nat → Byte) : Nat → Nat → Mem
  | _, 0 => []
  | a, n + 1 => if f a = 0 then memOf f (a + 1) n else (a, f a) :: memOf f (a + 1) n

theorem tget_memOf (f : Nat → Byte) (x : Nat) : ∀ n a, tget 0 (memOf f a n) x = if a ≤ x ∧ x < a + n then f x else 0
  | 0, a => by rw [if_neg (by omega)]; rfl
  | n + 1, a => by
    have ih := tget_memOf f x n (a + 1)
    unfold memOf
    by_cases hx : a = x
    · subst hx
      rw [if_pos (show a ≤ a ∧ a < a + (n + 1) by omega)]
      split
      · rename_i h; rw [ih, if_neg (show ¬(a + 1 ≤ a ∧ a < a + 1 + n) by omega), h]
      · simp [tget]
    · have : (a ≤ x ∧ x < a + (n + 1)) ↔ (a + 1 ≤ x ∧ x < a + 1 + n) := by omega
      simp only [this]
      split
      · exact ih
      · simp only [tget, if_neg hx]; exact ih

/-- `n` bytes of `f` from `a` on. -/
def bytesOf (f : Nat → Byte) (a : Nat) : Nat → List Byte
  | 0 => []
  | n + 1 => f a :: bytesOf f (a + 1) n

theorem rdBytes_bytesOf (s : State) (f : Nat → Byte) (h : ∀ x, mrd s x = f x) : ∀ n a, rdBytes s a n = bytesOf f a n
  | 0, _ => rfl
  | n + 1, a => by simp only [rdBytes, bytesOf, h a, rdBytes_bytesOf s f h n]

theorem rdBytes_length (s : State) : ∀ n a, (rdBytes s a n).length = n
  | 0, _ => rfl
  | n + 1, a => by simp only [rdBytes, List.length_cons, rdBytes_length s n]

theorem rdBytes_get (s : State) : ∀ n a i, (h : i < (rdBytes s a n).length) → (rdBytes s a n)[i] = mrd s (a + i)
  | 0, _, i, h => by simp [rdBytes] at h
  | n + 1, a, 0, _ => rfl
  | n + 1, a, i + 1, h => by
    simp only [rdBytes, List.getElem_cons_succ]
    rw [rdBytes_get s n (a + 1) i, Nat.add_right_comm, Nat.add_assoc]

/-- An image copied onto itself reads as before. -/
theorem mrd_imageAt (s : State) (a n x : Nat) : mrd (imageAt s a a n) x = mrd s x := by
  show tget 0 (memWrite s.mem a (rdBytes s a n)) x = _
  by_cases h : x < a ∨ a + (rdBytes s a n).length ≤ x
  · exact tget_memWrite_out _ _ _ _ h
  · obtain ⟨i, rfl⟩ : ∃ i, x = a + i := ⟨x - a, by omega⟩
    have hi : i < (rdBytes s a n).length := by omega
    rw [tget_memWrite_in _ _ _ _ hi, rdBytes_get]

/-- The bytes of a vocabulary image at 0x100000: the byte map, which is the string table too (byte b at 2b), then 257 tokens,
the last one special. -/
def vocByte (x : Nat) : Byte :=
  let w (v : Nat) (i : Nat) : Byte := BitVec.ofNat 8 (v / 256 ^ i)
  let k := x - 0x100000
  if x < 0x100000 ∨ 2632 ≤ k then 0
  else if k < 64 then
    w (match k / 4 with | 0 => 0x434F5643 | 1 => 1 | 2 => 257 | 4 => 64 | 5 => 576 | 6 => 64 | 7 => 512 | 8 => 576 | _ => 0) (k % 4)
  else if k < 576 then (if k % 2 = 0 then BitVec.ofNat 8 ((k - 64) / 2) else 0)
  else if k < 2624 then w (2 * ((k - 576) / 8) + 0x1000000) ((k - 576) % 8)
  else if k = 2628 then 1 else 0

/-- The caption area from 0x100000 on; and with the image at its start, its own lowest extent. -/
def area : State := rsetN (rsetN up 0x90010 0x100000) 0x90018 1
def vocabs : State := { area with mem := memOf vocByte 0x100000 2632 }

theorem mrd_vocabs (x : Nat) : mrd vocabs x = vocByte x := by
  show tget 0 (memOf vocByte 0x100000 2632) x = _
  rw [tget_memOf]
  split
  · rfl
  · simp only [vocByte]; rw [if_pos (by omega)]

def voc : Vocab := ⟨0x100000, 4096, 257, 0, 64, 576, 64, 576⟩

theorem byteTok_voc (s : State) (h : ∀ x, mrd s x = vocByte x) :
    byteTok s voc = fun b => leNat (bytesOf vocByte (0x100000 + 64 + 2 * b) 2) := by
  funext b; simp only [byteTok, rdLe, rdBytes_bytesOf s vocByte h]; rfl

theorem check2_voc (s : State) (h : ∀ x, mrd s x = vocByte x) : vocabCheck2 s voc = true := by
  simp only [vocabCheck2, ordinary, tokSpecial, tokStr, tokOff, tokLen, byteTok_voc s h, rdLe, rdBytes_bytesOf s vocByte h]
  decide +kernel

theorem wit_MergingKeepsText : vocabCheck2 vocabs voc = true ∧ vocabCheck4 vocabs voc = true :=
  ⟨check2_voc vocabs mrd_vocabs, rfl⟩

/-- The five load checks on any state whose memory reads so. -/
theorem vocabBad_voc (s : State) (h : ∀ x, mrd s x = vocByte x) : vocabBad s voc 2632 = none := by
  have c1 : vocabCheck1 s voc 2632 = true := by
    simp only [vocabCheck1, tokOff, tokLen, rdLe, rdBytes_bytesOf s vocByte h]; decide +kernel
  have c3 : vocabCheck3 s voc = true := by
    simp only [vocabCheck3, tokSpecial, tokLen, rdLe, rdBytes_bytesOf s vocByte h]; decide +kernel
  have c4 : vocabCheck4 s voc = true := rfl
  have c5 : vocabCheck5 s voc = true := rfl
  simp [vocabBad, c1, check2_voc s h, c3, c4, c5]

theorem vocabNew_voc : vocabNew vocabs 0x100000 2632 0x100000 = voc := by
  have h : ∀ x, mrd (imageAt vocabs 0x100000 0x100000 2632) x = vocByte x := fun x => (mrd_imageAt ..).trans (mrd_vocabs x)
  simp only [vocabNew, vocabAt, rdLe, rdBytes_bytesOf _ vocByte h]
  decide +kernel

theorem wit_Vocabularies :
    (Pre.vocabLoad pk 0x100000 2632 15 0x100000 vocabs ∧
      vocabBad (imageAt vocabs 0x100000 0x100000 2632) (vocabNew vocabs 0x100000 2632 0x100000) 2632 = none) ∧
    (Pre.vocabLoad pk 0x40000 64 15 0x100000 area ∧
      vocabBad (imageAt area 0x100000 0x40000 64) (vocabNew area 0x40000 64 0x100000) 64 = some 1) ∧
    Pre.vocabUnload pk 15 vocabs ∧
    Pre.capTokenize pk 0x40000 0x50000 1 1 63 3 15 0 voc { up with cap := { vocabs := [(15, some voc)] } } := by
  refine ⟨⟨?_, ?_⟩, ⟨?_, ?_⟩, ?_, ?_⟩
  · have e : rdLe vocabs (0x100000 + 12) 4 = 0 := by simp only [rdLe, rdBytes_bytesOf vocabs vocByte mrd_vocabs]; decide +kernel
    refine ⟨by decide +kernel, by decide, by decide +kernel, by decide +kernel, ?_, by decide +kernel⟩
    rw [e]; decide +kernel
  · rw [vocabNew_voc]
    exact vocabBad_voc _ (fun x => (mrd_imageAt ..).trans (mrd_vocabs x))
  · and_intros <;> decide +kernel
  · decide +kernel
  · and_intros <;> decide +kernel
  · and_intros <;> decide +kernel

/-! ### Adaptation -/

/-- Job slot 63 with a one-site recogniser of vocabulary slot 15 (not resident), a parameter block within its ranges at 0x70000, no
hot areas, and adaptations: 0 OPEN with 16 samples and a captured object of lane 31, 1 TRAINING, 2 PAUSED, 3 ACCEPTED. -/
def adP : AdParam := { hold := 8, srcJob := 63, sites := 1, batch := 1 }
def adA : Adapt := { p := adP, samples := List.replicate 16 {}, ring := [{ lane := 31, seq := 0xFFFFFFFF, fields := [{}] }] }
def adB : Adapt := { adA with st := .training, n := 16, slots := [(0, some { corrupt := some 1 })] }
def adC : Adapt := { adA with st := .paused, n := 16 }
def adD : Adapt := { adA with st := .accepted, n := 16 }

/-- One parameter; every sample is one token. -/
def adG : Adapt := { adB with slots := [], theta := [0], m := [0], v := [0], samples := List.replicate 16 { toks := [65] } }

def trainer : State :=
  let s : State := { up with
    jobs := [(63, { st := .ready, img := { img with models := [{ sites := 1, dims := [(1, 1), (1, 1), (1, 1), (1, 1), (1, 1)], vslot := 15 }] } })]
    adapts := [(0, some adA), (1, some adB), (2, some adC), (3, some adD)] }
  let s := poke s 0x7000C [100]
  let s := poke s 0x70038 [0, 0, 0x80, 0x3F, 0, 0, 0, 0, 0, 0, 0x80, 0x3F, 0, 0, 0x80, 0x3F]
  let s := poke s 0x70064 [8, 0, 1, 0, 1, 0, 2, 0, 63, 0, 1, 4, 1, 0, 1]
  rsetN (rsetN s 0xB0000 0) 0x80010 0

/-- The same with a free place. -/
def trainee : State := { trainer with adapts := trainer.adapts.take 3 }

theorem master_trainee : masterOk trainee 0 64 = true := by
  have h0 : rf trainee 0xB0000 24 16 = 0 := by decide +kernel
  have h1 : rf trainee 0x80010 8 0 = 0 := by decide +kernel
  have h2 : (List.range 4).filter (fun b => (sb trainee b).isSome) = [] := by decide +kernel
  simp [masterOk, drkTaken, h0, h1, h2, drkSize]

theorem wit_AdaptationSamples : Pre.adaptOpen pk 0x70000 3 trainee ∧ Pre.adaptSample pk 0x40000 0 0 (2 ^ 24 - 16) (2 ^ 24 - 16) 1 0 0 0 adA trainer ∧
    Pre.adaptSample pk 0x40000 0x50000 0 5 1 1 1 0 1 adA trainer ∧
    Pre.adaptConfirm pk 0xFFFFFFFF 0 0 31 adA trainer ∧ (Given pk trainer ∧ 3 < 4 ∧ (adapt trainer 3).isSome = true) := by
  refine ⟨⟨?_, ?_, ?_, ?_, ?_, ?_, ?_, ?_, ?_⟩, ?_, ?_, ?_, ?_⟩
  case refine_8 =>
    have e : (adOpen trainee 0x70000).master = 0 ∧
        8 * paramCount (adOpen trainee 0x70000) (adImg trainee (adOpen trainee 0x70000)) = 64 := by decide +kernel
    rw [e.1, e.2]; exact master_trainee
  all_goals and_intros <;> decide +kernel

theorem wit_AdaptationRuns : Pre.adaptRun pk 0 adA trainer ∧ Pre.adaptAgain pk 2 adC trainer ∧ Pre.adaptPause pk 1 adB trainer ∧
    Pre.sampleResolve 1 0 { adB with slots := [] } { trainer with adapts := [(1, some { adB with slots := [] })] } ∧
    (Pre.sampleResolve 1 0 adG { trainer with adapts := [(1, some adG)] } ∧
      resFits { trainer with adapts := [(1, some adG)] } adG 0 { lps := [0xBF800000], grad := [0x3F800000] } = true ∧
      resFits { trainer with adapts := [(1, some adG)] } adG 0 { corrupt := some 1 } = true) ∧
    (Pre.batchClose 1 adB trainer ∧ goodGrads adB = []) ∧
    (Pre.batchClose 1 { adB with slots := [(0, some {})] } { trainer with adapts := [(1, some { adB with slots := [(0, some {})] })] } ∧
      goodGrads { adB with slots := [(0, some {})] } ≠ []) ∧
    Pre.adaptEval pk 2 adC trainer ∧ Pre.evalComplete 2 { adC with evaluating := true } { trainer with adapts := [(2, some { adC with evaluating := true })] } ∧
    Pre.adaptCommit pk 3 0 adD trainer := by
  and_intros <;> decide +kernel

/-! ### The Developer unit -/

/-- Slot 0 open, 1 skipping, 2 closing, 3 with a picture in pipe 0 in time, 29 with one in pipe 1 past its limit and a prepared frame. -/
def au (t : Nat) : AccUnit := { wtDl := t, au := { irap := true } }
def dev : State :=
  let x : Stream := { st := .opened, maxW := 16, maxH := 16 }
  { up with
    tmu := { line := 1 }
    streams := [(0, x), (1, { x with st := .skip }), (2, { x with st := .closing }), (3, { x with cur := some (au (2 ^ 40), 0) }),
                (29, { x with cur := some (au 1, 1), queue := [au (2 ^ 40)] })] }

theorem wit_Streams : Pre.streamOpen pk 0x40000 1000000 64 64 65535 0 16 15 4 4 dev ∧ Pre.streamOpen pk 0x40000 1 1 1 0 1 2 0 3 4 dev ∧
    (Pre.streamFeed pk 0x40000 0 (au (2 ^ 40)) dev ∧ takes (stream dev 0) (au (2 ^ 40)).au) ∧
    (Pre.streamFeed pk 0x40000 1 {} dev ∧ (stream dev 1).st = .skip ∧ ¬ takes (stream dev 1) ({} : AccUnit).au) ∧
    (Pre.streamFeed pk 0x40000 1 (au 1) dev ∧ takes (stream dev 1) (au 1).au) ∧
    Pre.streamClose pk 1 dev ∧ Pre.streamClose pk 29 dev ∧ (isReady dev = true ∧ (stream dev 2).st = .closing) := by
  and_intros <;> decide +kernel

theorem wit_Pictures : Pre.pictureDone 0 3 (au (2 ^ 40)) dev ∧
    (Pre.inPipe 1 29 (au 1) dev ∧ heldPic dev (stream dev 29) = false ∧ (pastLimit dev (stream dev 29) (au 1)).isSome = true) ∧
    Pre.dequeue 29 (au (2 ^ 40)) [] dev ∧ Pre.dequeueLate 0 (au 1) (setStream dev 0 { stream dev 0 with queue := [au 1] }) ∧
    Pre.stillDone 1 31 { au (2 ^ 40) with fid := 60 * 64 } (setStream press 31 { st := .opened, cur := some ({ au (2 ^ 40) with fid := 60 * 64 }, 1) }) ∧
    Pre.refRead 63 0 (31, 3) press ∧
    Pre.refRepaired 63 0 { press with jobs := [(63, { st := .ready, img := img, poisoned := [0] })] } := by
  and_intros <;> decide +kernel

/-! ### The debug port -/

/-- The port unlocked at level 2, core 7 halted with a step due, core 6 draining. -/
def debugged : State :=
  { up with
    tmu := { dt := 1000000 }
    dbg := { lock := 2, nonce := some 1 }
    sl := { running := true, svn := 255, bps := [(7, some 0)], wps := [(3, some (0, 0, 3))] }
    ctxs := [(0x1000, { st := .opened, core := 5 })]
    cores := [(4, { q := [{ ctx := 0x1000, unit := 0, pc := 0 }] }), (5, { halted := true }), (6, { haltReq := true })] }
def stepping : State := { debugged with cores := [(7, { halted := true, stepCtx := some 0x1000 })] }

theorem wit_TapInstructions : (up.pins.pwrok = true ∧ bscanOk up = false) ∧ bscanOk State.reset = true ∧
    (Instr.highz, 5) ∈ [(Instr.extest, 0), (.clamp, 4), (.highz, 5)] ∧ up.pins.thermtrip = false ∧ smbReg 0 = none ∧
    (smbReg 16).isSome = true := by
  and_intros <;> decide +kernel

theorem wit_DebugAccess : (powered debugged = true ∧ mayChallenge debugged = true) ∧ Pre.response 1 debugged ∧ Pre.response 2 debugged ∧
    Pre.dbg 0 up ∧ (needLevel (.slWp 0 0 0) = some 2 ∧ powered up = true ∧ up.dbg.lock < 2) ∧
    (needLevel (.rd32 0) = some 1 ∧ up.dbg.lock < 1) ∧ powered debugged = true ∧
    (Pre.dbg 1 debugged ∧ 0x40000 % 4 = 0 ∧ inMem debugged 0x40000 = true ∧ isPoison debugged 0x40000 = false) ∧ Pre.dbg 2 debugged := by
  and_intros <;> decide +kernel

theorem wit_DebugControl : (Pre.dbg 2 debugged ∧ debugged.sl.swap = none ∧ debugged.boot.tierM = false ∧ debugged.sl.haltReq = false) ∧
    (slAvail debugged = true ∧ debugged.sl.swap = none ∧ (tget none debugged.sl.bps 7).isSome = true ∧
      (tget none debugged.sl.wps 3).isSome = true) ∧
    (Pre.dbg 1 debugged ∧ ({ debugged with sl := { halted := true } } : State).sl.halted = true ∧
      Pre.dbg 1 { debugged with sl := { halted := true } }) ∧
    (core debugged 7).q = [] ∧ coreInB debugged 7 = false ∧ (core debugged 4).halted = false ∧ (core debugged 4).q ≠ [] ∧
    Pre.drained 6 debugged ∧ (debugged.ctxs.map (·.1)).Nodup ∧
    ((core debugged 5).halted = true ∧ (ctx debugged 0x1000).st ≠ .free ∧ (ctx debugged 0x1000).core = 5) ∧ Pre.stepDue 7 stepping ∧
    (debugged.fuse.svnMin < 255 ∧ 255 ≤ debugged.sl.svn) ∧ (0 ≤ debugged.fuse.svnMin ∨ debugged.sl.svn < 0) := by
  and_intros <;> decide +kernel

/-! ### Registers, steps, replies -/

theorem wit_RegisterPairs : (powered up = true ∧ pair up 0x20020 = some 0) ∧
    (powered { up with latch := [(0x20024, some 7)] } = true ∧ pair { up with latch := [(0x20024, some 7)] } 0x20020 = some 0 ∧
      tget none ({ up with latch := [(0x20024, some 7)] } : State).latch (0x20020 + 4) = some 7) ∧
    tget none up.latch (0x20020 + 4) = none := by
  and_intros <;> decide +kernel

theorem wit_Bar2Unbacked : powered up = true ∧ 0x3000000 ≤ 0x3000000 ∧ 0x3FFFFFC < 0x4000000 := by decide

theorem wit_HostRegisters : (∃ r, Pre.plainWrite 0x20048 r 0xFFFFFFFF up) ∧ Pre.badWrite 0x20003 0 up ∧ Pre.badWrite 0x2000000 0 up ∧
    (isReady up = true ∧ 0x2FFFFFC + 4 ≤ drkSize) ∧
    (powered up = true ∧ unsupported up 0 0x20001 4 = true) ∧ Pre.bar4 0xFFFFFFFC up := by
  refine ⟨⟨⟨0x20048, 0x4, 1, 0x0, 0xFFFF, false⟩, ?_⟩, ?_, ?_, ?_, ?_, ?_⟩ <;> and_intros <;> decide +kernel

theorem wit_UnitRegisters : (powered up = true ∧ wtSettable up = true ∧ bits (0x100001 : Word).toNat 15 0 ≠ 0 ∧
      bits (0x100001 : Word).toNat 31 16 ≤ 16 * bits (0x100001 : Word).toNat 15 0) ∧
    16 * bits (0x110001 : Word).toNat 15 0 < bits (0x110001 : Word).toNat 31 16 ∧
    wtSettable press = false ∧
    (Pre.spnFree 0 (rsetN strips (spBase 0) 0) ∧ bit (0xC0010000 : Word).toNat 31 = true ∧
      portOk (spnSet (rsetN strips (spBase 0) 0) 0 0xC0010000) 0 = true) ∧
    (Pre.spnFree 7 up ∧ portOk (spnSet up 7 0x80000000) 7 = false) ∧
    (spEn strips 0 = true ∧ bit (0 : Word).toNat 31 = false ∧ lanesMeet strips (pixBase strips 0) (pixBase strips 0 + mapped strips 0) = false) ∧
    (Pre.pool 3 up ∧ bit (0x80000000 : Word).toNat 31 = true) ∧ poolUsed (rsetN seqs 0x8013C 2) 3 ≠ 0 := by
  and_intros <;> decide +kernel

theorem wit_Steps : ({ up with pending := [.idcode, .bypass] } : State).pending = [.idcode, .bypass] ∧
    (up.pending = [] ∧ powered up = true) ∧ (State.reset.pending = [] ∧ powered State.reset = false) := by decide +kernel

/-- A full completion ring 1 behind submission ring 1, on a device that is not ready, or is out of service. -/
def full : State :=
  { rings with sal := { rings.sal with
      sq := [(0, some { base := 0x1000, log2 := 4, tail := 1, cq := 0, prio := 0 }), (1, some { base := 0x4000, log2 := 4, cq := 1, prio := 0 })]
      cq := [(0, some { base := 0x2000, log2 := 4 }), (1, some { base := 0x8000, log2 := 4, wr := 16 })] } }
def early : State := { full with boot := { stage := 1 } }
def unfit : State := { full with flt := { oos := true } }
def fl (n : Nat) (q : Bool) : Flight := { c := { pk with sq := n, quiet := q }, idx := 0, await := .mgmt }

theorem wit_CommandProtocol : (pk.dev = false ∧ acceptable up { pk with sq := 9 } = false) ∧
    (acceptable up pk = true ∧ badByte [(false, 0x18)] pk.rsv = some 0x18) ∧
    (acceptable up { pk with op := some 0xFF } = true ∧ badOpcode { pk with op := some 0xFF } = true ∧ badOpcode pk = false) ∧
    (acceptable early pk = true ∧ badByte [] pk.rsv = none ∧ isReady early = false ∧ earlyOp 0x29 = false) ∧
    (acceptable unfit pk = true ∧ isReady unfit = true ∧ unfit.flt.oos = true ∧ oosOp 0x29 = false) ∧
    (Pre.reply (fl 0 false) { base := 0x1000, log2 := 4, tail := 1, cq := 0, prio := 0 } { base := 0x2000, log2 := 4 } full ∧
      cqRoom { base := 0x2000, log2 := 4 } = true) ∧
    Pre.reply (fl 0 true) { base := 0x1000, log2 := 4, tail := 1, cq := 0, prio := 0 } { base := 0x2000, log2 := 4 } full ∧
    (Pre.reply (fl 1 false) { base := 0x4000, log2 := 4, cq := 1, prio := 0 } { base := 0x8000, log2 := 4, wr := 16 } full ∧
      cqRoom { base := 0x8000, log2 := 4, wr := 16 } = false) := by
  and_intros <;> decide +kernel

theorem wit_MemoryForm : Memory.wf (poke up 0x40000 [1, 0, 2]).mem = true ∧ (∃ t, step up = .next t) := ⟨by decide +kernel, _, rfl⟩

theorem wit_ProtectedState : (∃ t, step up = .next t) ∧
    (∃ t, exec (.dbgResponse 2 true) { up with dbg := { nonce := some 1 } } = .next t ∧ 0 < t.dbg.lock) :=
  ⟨⟨_, rfl⟩, _, rfl, by decide +kernel⟩

/-! ### Ill-formed commands: one for each check of WellFormed -/

theorem test_illFormedA : ([
    .nop { sq := 256 }, .nop { doneMark := 65536 }, .nop { doneAdd := 0x100000000 }, .nop { rsv := some 0 },
    .nop { rsv := some 64 }, .fwStage {} 0x10000000000000000 0 0 true, .fwStage {} 0 0x100000000 0 true,
    .fwStage {} 0 0 0x100 true, .fwActivate {} 0x100, .bootBank {} 0x100, .boardCfg {} 0x10000000000000000 0 {},
    .boardCfg {} 0 0x100000000 {}, .devRecover {} 0x100 0, .devRecover {} 0 0x100, .laneRestore {} 0x100,
    .escCfg {} 0x10000 0 0 0, .escCfg {} 0 0x10000 0 0, .escCfg {} 0 0 0x10000 0, .escCfg {} 0 0 0 0x10000,
    .colourCal {} 0x10000000000000000 0 0 0 0 {}, .colourCal {} 0 0x10000000000000000 0 0 0 {},
    .colourCal {} 0 0 0x10000000000000000 0 0 {}, .colourCal {} 0 0 0 0x10000 0 {}, .colourCal {} 0 0 0 0 0x10000 {},
    .jobLoad {} 0x10000000000000000 0 0 {}, .jobLoad {} 0 0x100000000 0 {}, .jobLoad {} 0 0 0x100 {}, .jobLoadComplete 64,
    .jobUnload {} 0x100, .laneStart {} 0x10000000000000000 0, .laneStart {} 0 0x100, .laneStop {} 0x10000000000000000 0,
    .laneStop {} 0 0x100, .laneSetVar {} 0x10000000000000000 0 0 0, .laneSetVar {} 0 0x100 0 0, .laneSetVar {} 0 0 0x100 0,
    .laneSetVar {} 0 0 0 0x100, .vocabLoad {} 0x10000000000000000 0 0, .vocabLoad {} 0 0x100000000 0, .vocabLoad {} 0 0 0x100,
    .vocabUnload {} 0x100, .capTokenize {} 0x10000000000000000 0 0 0 0 0 0 0, .capTokenize {} 0 0x10000000000000000 0 0 0 0 0 0,
    .capTokenize {} 0 0 0x100000000 0 0 0 0 0, .capTokenize {} 0 0 0 0x100000000 0 0 0 0, .capTokenize {} 0 0 0 0 0x100 0 0 0,
    .capTokenize {} 0 0 0 0 0 0x100 0 0, .capTokenize {} 0 0 0 0 0 0 0x100 0, .capTokenize {} 0 0 0 0 0 0 0 0x100,
    .streamOpen {} 0x10000000000000000 0 0 0 0 0 0 0 0, .streamOpen {} 0 0x100000000 0 0 0 0 0 0 0,
    .streamOpen {} 0 0 0x10000 0 0 0 0 0 0, .streamOpen {} 0 0 0 0x10000 0 0 0 0 0, .streamOpen {} 0 0 0 0 0x10000 0 0 0 0,
    .streamOpen {} 0 0 0 0 0 0x100 0 0 0, .streamOpen {} 0 0 0 0 0 0 0x100 0 0, .streamOpen {} 0 0 0 0 0 0 0 0x100 0,
    .streamOpen {} 0 0 0 0 0 0 0 0 0x100, .streamFeed {} 0x10000000000000000 0 0 0 0 0 {},
    .streamFeed {} 0 0x10000000000000000 0 0 0 0 {}, .streamFeed {} 0 0 0x10000000000000000 0 0 0 {},
    .streamFeed {} 0 0 0 0x100000000 0 0 {}, .streamFeed {} 0 0 0 0 0x100000000 0 {}, .streamFeed {} 0 0 0 0 0 0x100 {},
    .streamClose {} 0x100, .streamFlushDone 32 0, .trigArm {} 0x10000000000000000 0 0, .trigArm {} 0 0x100000000 0,
    .trigArm {} 0 0 0x100, .trigStop {} 0x100, .feRefCapture {} 0x10000 0 0, .feRefCapture {} 0 0x100 0,
    .feRefCapture {} 0 0 0x100, .feRefApply {} 0x100, .ctxOpen {} 0x10000000000000000 0] : List Instr).all (fun i => !i.wf) = true := by decide

theorem test_illFormedB : ([
    .ctxOpen {} 0 0x10000, .ctxLaunch {} 0x100000000 0 0 0 0, .ctxLaunch {} 0 0x100000000 0 0 0,
    .ctxLaunch {} 0 0 0x100000000 0 0, .ctxLaunch {} 0 0 0 0x100000000 0, .ctxLaunch {} 0 0 0 0 0x10000, .ctxStop {} 0x10000,
    .ctxResume {} 0x10000, .ctxClose {} 0x10000, .ctxAbort {} 0x10000, .seqOpen {} 0x10000000000000000 0 0,
    .seqOpen {} 0 0x10000 0, .seqOpen {} 0 0 0x10000, .seqClose {} 0x10000 0, .seqClose {} 0 0x10000,
    .ptEdit {} 0x100000000 0 0 0 0 0, .ptEdit {} 0 0x10000 0 0 0 0, .ptEdit {} 0 0 0x10000 0 0 0, .ptEdit {} 0 0 0 0x10000 0 0,
    .ptEdit {} 0 0 0 0 0x10000 0, .ptEdit {} 0 0 0 0 0 0x100, .ringGroupOpen {} 0x10000000000000000, .ringGroupClose {} 0x100,
    .markSignal {} 0x10000000000000000 0, .markSignal {} 0 0x10000, .sqCreate {} 0x10000000000000000 0 0 0 0,
    .sqCreate {} 0 0x100 0 0 0, .sqCreate {} 0 0 0x100 0 0, .sqCreate {} 0 0 0 0x100 0, .sqCreate {} 0 0 0 0 0x100,
    .sqDelete {} 0x100, .cqCreate {} 0x10000000000000000 0 0 0, .cqCreate {} 0 0x10000 0 0, .cqCreate {} 0 0 0x100 0,
    .cqCreate {} 0 0 0 0x100, .cqDelete {} 0x100, .rqCreate {} 0x10000000000000000 0 0 0 0 0 0 0,
    .rqCreate {} 0 0x100000000 0 0 0 0 0 0, .rqCreate {} 0 0 0x10000 0 0 0 0 0, .rqCreate {} 0 0 0 0x10000 0 0 0 0,
    .rqCreate {} 0 0 0 0 0x10000 0 0 0, .rqCreate {} 0 0 0 0 0 0x10000 0 0, .rqCreate {} 0 0 0 0 0 0 0x100 0,
    .rqCreate {} 0 0 0 0 0 0 0 0x100, .rqDelete {} 0x100, .dmaCopy {} 0x10000000000000000 0 0 [],
    .dmaCopy {} 0 0x10000000000000000 0 [], .dmaCopy {} 0 0 0x100000000 [], .memFill {} 0x10000000000000000 0 0,
    .memFill {} 0 0x10000000000000000 0, .memFill {} 0 0 0x100000000, .adaptOpen {} 0x10000000000000000,
    .adaptConfirm {} 0x100000000 0 0 0, .adaptConfirm {} 0 0x100000000 0 0, .adaptConfirm {} 0 0 0x100 0,
    .adaptConfirm {} 0 0 0 0x100, .adaptSample {} 0x10000000000000000 0 0 0 0 0 0 0 0,
    .adaptSample {} 0 0x10000000000000000 0 0 0 0 0 0 0, .adaptSample {} 0 0 0x10000000000000000 0 0 0 0 0 0,
    .adaptSample {} 0 0 0 0x100000000 0 0 0 0 0, .adaptSample {} 0 0 0 0 0x10000 0 0 0 0,
    .adaptSample {} 0 0 0 0 0 0x10000 0 0 0, .adaptSample {} 0 0 0 0 0 0 0x10000 0 0, .adaptSample {} 0 0 0 0 0 0 0 0x100 0,
    .adaptSample {} 0 0 0 0 0 0 0 0 0x100, .adaptRun {} 0x100, .adaptPause {} 0x100, .adaptEval {} 0x100,
    .adaptEvalComplete 4 [], .adaptCommit {} 0x100 0, .adaptCommit {} 0 0x100, .adaptClose {} 0x100, .sampleResolve 4 0 {},
    .sampleResolve 0 0x10000 {}, .batchClose 4] : List Instr).all (fun i => !i.wf) = true := by decide

theorem test_illFormedC : ([
    .fltRead {} 0x10000000000000000 0, .fltRead {} 0 0x100, .sqTailDoorbell 0x100 0, .sqTailDoorbell 0 0x10000,
    .cqHeadDoorbell 0x100 0, .cqHeadDoorbell 0 0x10000, .rqHeadDoorbell 16 0, .rqHeadDoorbell 0 0x10000, .rqHoldTimer 16,
    .gemm 0x4000, .convTap 0x4000, .pool 0x4000, .vec 0x4000, .attn 0x4000, .ringBarrierComplete 32, .dma 0x4000 none none,
    .waitMark 0x4000, .signalMark 0x4000, .branchOnCount 0x4000, .descComplete 8 0 0 none [], .detokeniseToken 0x4000,
    .fieldMatch 32 0 0 0, .fieldMatch 0 0 0 0x4000, .shutterArm 0x1000 0, .shutterArm 0 0x100000000, .markerPulseFire 0x1000,
    .markerAssert 0x1000, .markerDeassert 0x1000, .markerReadback 16 true, .stepFire 0x1000, .lineTrigFire 0x1000,
    .ctxLaunchFire 0x1000, .laneStartLine 32, .laneStopLine 32, .deadlineFire 0x1000, .spanFire 32, .objectRegister 32 0 {} none none,
    .searchWindowClose 32 none, .verdictPost 32 0 none, .stripLineReceive 8 [], .stripeRowWrite 4, .stripeRelease 4 0,
    .dupMismatch 0x10000, .rasterRowWrite none [(8, 0, 0)], .rasterRowWrite none [(0, 6, 0)],
    .rasterRowWrite none [(0, 0, 4097)], .stripCrcError 8 [], .stripLinkDown 8 0, .stripLinkDown 0 4, .stripLinkRelock 8 0, .stripLinkRelock 0 4,
    .decodePictureDone 2 {} 0, .auxLate 2 0, .frameDequeue 32, .refRepair 64 0 none, .refreshSlot 6, .caParityAlert 6 true,
    .wrCrcAlert 6 true, .patrolScrub 6 0, .neighbourRefresh 6 0 0 0, .ringLinkDown 256 [], .watchdogExpiry 0x4000,
    .contextFault 0x4000 { cause := 0 }, .contextResetComplete 0x4000, .tempSensorSample 12 0, .tempSensorSample 0 0x10000,
    .dvfsStopEnd 8, .smbusBlockRead 0x100, .rd32 0x10000000000000000, .rd32 2, .wr32 0x10000000000000000 0, .wr32 2 0,
    .wr32 0 0x100000000, .slBp 8 0 true, .slBp 0 0x100000000 true, .slWp 4 0 0, .slWp 0 0x100000000 0, .slWp 0 0 0x100000000,
    .slBreakHit true 8] : List Instr).all (fun i => !i.wf) = true := by decide

theorem test_illFormedD : ([
    .slReg 64, .coreHalt 8, .coreHaltDrained 8, .coreHardHalt 8, .coreStep 8 0, .coreStep 0 0x4000, .coreStepTimeout 8,
    .coreResume 8, .svnRaise 0x100000000, .spnCfgEnable 8 0, .drkSbEnable 4 0, .kvmPoolEnable 4 0, .ennDvfsWrite 8 0,
    .markWindowHiWrite 0x10000 0, .regReadLoLatch 0x2000000 4, .regReadLoLatch 0 0, .regReadLoLatch 0 9, .registerWrite 0x2000000 0, .registerWrite 2 0,
    .bar2Access 0x4000000 none [], .bar4Access 0x100000000 none [], .controlStateParity 8 0, .lineStartTimeout 8, .devDecodeErr 2 0 0] : List Instr).all (fun i => !i.wf) = true := by decide

theorem test_wellFormed : ([.nop pk, .ctxOpen pk 0x40000 0x3FFF, .registerWrite 0x1FFFFFC 0, .tempSensorSample 11 0xFFFF,
    .rd32 0xFFFFFFFFFFFFFFFC, .controlStateParity 7 0,
    .regReadLoLatch 0x1FFFFFF 8, .rasterRowWrite none [(7, 5, 4096)]] : List Instr).all Instr.wf = true := by decide

/-! ### One step of commands. The values come from the rules named. -/

/-- The step that runs `i` on `s` with nothing behind it gives a state that satisfies `p`. -/
def after (i : Instr) (s : State) (p : State → Bool) : Bool :=
  match step { s with pending := [i] } with
  | .next t => t.pending.isEmpty && p t
  | _ => false

-- R284: the reply of a NOP is written at the ring's base, phase 1 at 3, tag 7 at 4, the ring's head at 0xA; DONE_MARK 5 gains 2.
theorem test_nop : after (.nop pk) up (fun t => decide (rdBytes t 0x2000 12 = [0, 0, 0, 1, 7, 0, 0, 0, 0, 0, 1, 0]) &&
    decide (mark t 5 = 2) && decide ((sq t 0).map (·.head) = some 1)) = true := by decide +kernel
-- R281: a reserved byte set at 0x20 gives BAD_PARAM (status 2) with DETAIL 0x20.
theorem test_reserved : after (.nop { pk with rsv := some 0x20 }) up (fun t => decide (rdLe t 0x2000 2 = stBadParam)) = true := by
  decide +kernel
theorem test_sqCreate : after (.sqCreate pk 0x3000 9 4 0 2) up (fun t =>
    decide (sq t 9 = some { base := 0x3000, log2 := 4, cq := 0, prio := 2 })) = true := by decide +kernel
theorem test_sqDelete : after (.sqDelete pk 255) rings (fun t => decide (sq t 255 = none)) = true := by decide +kernel
theorem test_cqCreate : after (.cqCreate pk 0x3000 0xFFFF 9 4) up (fun t =>
    decide (cq t 9 = some { base := 0x3000, log2 := 4 })) = true := by decide +kernel
theorem test_rqDelete : after (.rqDelete pk 15) rings (fun t => decide (rq t 15 = none)) = true := by decide +kernel
theorem test_tail : after (.sqTailDoorbell 255 65535) rings (fun t => decide ((sq t 255).map (·.tail) = some 65535)) = true := by
  decide +kernel
-- R274: an index past the size sets BAD_DB.
theorem test_tailBad : after (.sqTailDoorbell 0 16) rings (fun t => bit (rg t 0x50120) 5 && decide (sq t 0 = sq rings 0)) = true := by
  decide +kernel
theorem test_memFill : after (.memFill pk 0x40000 0x0807060504030201 10) up (fun t =>
    decide (rdBytes t 0x40000 11 = [1, 2, 3, 4, 5, 6, 7, 8, 1, 2, 0])) = true := by decide +kernel
-- R286: overlapping ranges copy what the source held.
theorem test_dmaCopy : after (.dmaCopy pk 0x40000 0x40001 3 []) (poke up 0x40000 [1, 2, 3]) (fun t =>
    decide (rdBytes t 0x40000 4 = [1, 1, 2, 3])) = true := by decide +kernel
-- R258: saturation.
theorem test_markSignal : after (.markSignal pk (2 ^ 64 - 1) 9) { up with marks := { val := [(9, 5)] } } (fun t =>
    decide (mark t 9 = 2 ^ 64 - 1)) = true := by decide +kernel
-- R57: NUM = 3, DEN = 2 from remainder 1: two lines, remainder 0.
theorem test_forward : after .encoderForwardCount (rsetN { up with tmu := { rem := 1 } } 0x20014 0x30002) (fun t =>
    decide (t.tmu.line = 2 ∧ t.tmu.rem = 0)) = true := by decide +kernel
theorem test_reverse : after .encoderReverseCount up (fun t => decide (t.tmu.debt = 1 ∧ wt t = 0)) = true := by decide +kernel
-- R64: LATE_ARM when the target has passed.
theorem test_shutterArm : after (.shutterArm 63 0x80010003) up (fun t =>
    (ent t 63).armed && decide ((ent t 63).out = 1 ∧ (ent t 63).len = 3) && bit (rg t 0x20004) 4) = true := by decide +kernel
theorem test_pulse : after (.markerPulseFire 0) shutter (fun t => (ent t 0).fired && outActive t 0) = true := by decide +kernel
theorem test_deassert : after (.markerDeassert 2) shutter (fun t => !(ent t 2).armed && !(ent t 2).asserted) = true := by decide +kernel
-- R50: the object becomes LATE and its entry the fail-safe pulse.
theorem test_deadline : after (.deadlineFire 4095) shutter (fun t =>
    decide ((ent t 4095).typ = 0 ∧ (lane t 31).objs.map (·.late) = [true])) = true := by decide +kernel
theorem test_startLine : after (.laneStartLine 30) shutter (fun t => decide ((lane t 30).startPend = false)) = true := by decide +kernel
theorem test_jobUnload : after (.jobUnload pk 63) { up with jobs := [(63, { st := .ready })] } (fun t =>
    decide ((job t 63).st = .empty)) = true := by decide +kernel
theorem test_jobLoad : after (.jobLoad pk 0x40000 4096 63 img) up (fun t => decide ((job t 63).st = .loading ∧ t.mem = [])) = true := by
  decide +kernel
theorem test_laneStart : after (.laneStart pk 65536000 0) press (fun t => decide ((lane t 0).st = .acquiring)) = true := by decide +kernel
theorem test_laneStop : after (.laneStop pk 65536001 31) press (fun t => (lane t 31).stopPend) = true := by decide +kernel
-- R37: origin + object length (64 lines) + DEADLINE_OFS (1,000 lines).
theorem test_register : after (.objectRegister 31 65536000 {} none none) press (fun t =>
    decide ((ent t 100).target = 65536000 + 1064 * 65536 ∧ (lane t 31).nextSeq = 8)) = true := by decide +kernel
theorem test_missed : after (.searchWindowClose 31 none) { press with tmu := { line := 1008 } } (fun t =>
    decide ((lane t 31).missRun = 1 ∧ (lane t 31).nextSeq = 8)) = true := by decide +kernel
theorem test_verdict : after (.verdictPost 31 3 none) (holding objBad) (fun t =>
    decide ((lane t 31).objs = [] ∧ (ent t 101).typ = 0 ∧ (ent t 101).target = 58982400 + 3000 * 65536)) = true := by decide +kernel
theorem test_codeStart : after .codeRequestStart reading (fun t => decide (t.code.queue = [] ∧ t.code.busy.map (·.field) = some 1)) = true := by
  decide +kernel
theorem test_trigArm : after (.trigArm pk 5 7 1) up (fun t => decide (trigMask t = 1 ∧ (ent t 64).target = 5)) = true := by decide +kernel
theorem test_trigFire : after (.lineTrigFire 4095) strips (fun t => decide ((ent t 4095).target = 655360 + 65536)) = true := by decide +kernel
theorem test_crcError : after (.stripCrcError 0 [0]) strips (fun t => decide (rg t (spBase 0 + 0x18) = 1)) = true := by decide +kernel
theorem test_linkBack : after (.stripLinkRelock 7 1) strips (fun t => decide (tget 0 t.fe.down 7 = 0)) = true := by decide +kernel
theorem test_rasterRow : after (.rasterRowWrite none []) strips (fun t => decide (tget 0 t.fe.row 1 = 1 ∧ t.fe.lines.length = 1)) = true := by
  decide +kernel
theorem test_stripeRow : after (.stripeRowWrite 3) strips (fun t => decide ((sb t 3).map (·.head) = some 1)) = true := by decide +kernel
theorem test_stripeEnable : after (.drkSbEnable 2 0x8000003F) strips (fun t => (sb t 2).isSome && bit (rg t (sbOff 2)) 31) = true := by
  decide +kernel
theorem test_pbStart : after (.pbStart pk) (bedUp {}) (fun t => decide ((bed t).st = .moving) && t.pins.enOut) = true := by decide +kernel
theorem test_stepFire : after (.stepFire 100) (bedUp { st := .moving }) (fun t => decide (t.pins.stepOut = 64)) = true := by decide +kernel
-- R303: the worked form of the map at granule 3 (p = 0, r = 1: h = 1).
theorem test_toLocal : toLocal (3 * 256 + 5) = (1, 5) ∧ toLocal (7 * 256) = (2, 256) := by decide +kernel
theorem test_refresh : after (.refreshSlot 5) chans (fun t => decide ((chan t 5).slots = 1)) = true := by decide +kernel
theorem test_caAlert : after (.caParityAlert 5 true) chans (fun t => t.flt.oos) = true := by decide +kernel
theorem test_neighbour : after (.neighbourRefresh 5 0 15 7) chans (fun t => decide (rg t (chanBase 5 + 0x4C) = 1)) = true := by decide +kernel
theorem test_commit : after .hstCommit up (fun t => t.hst.pend) = true := by decide +kernel
theorem test_boundary : after .hoistPeriodBoundary { chans with hst := { used := [(0, 7)], pend := true } } (fun t =>
    !t.hst.pend && decide (cget t 0x60018 = 1)) = true := by decide +kernel
theorem test_dvfsBad : after (.ennDvfsWrite 7 33) up (fun t => decide (core t 7 = core up 7 ∧ t.flt.unsupCnt = 1)) = true := by decide +kernel
theorem test_sensor : after (.tempSensorSample 11 0xFFFF) up (fun t => decide (rg t 0xAC = 0xFFFF)) = true := by decide +kernel
theorem test_thermtrip : after .thermtrip up (fun t => t.pins.thermtrip && outsHiZ t && !powered t) = true := by decide +kernel
theorem test_perst : after .perstAssert ctxs (fun t => t.pins.perst && decide (t.ctxs = [] ∧ t.cores = [])) = true := by decide +kernel
theorem test_release : after .perstRelease State.reset (fun t => powered t && decide (t.boot.stage = 1)) = true := by decide +kernel
theorem test_ready : after (.deviceReady {}) booting isReady = true := by decide +kernel
theorem test_noImage : after (.deviceReady { bank0 := false }) { booting with flash := {} } (fun t => decide (t.boot.failCode = 1)) = true := by
  decide +kernel
theorem test_parity : after (.controlStateParity 0 7) up (fun t => decide (t.boot.tierB.map (·.mask) = [128])) = true := by decide +kernel
theorem test_ctxFault : after (.contextFault 16383 { cause := 0x0305 }) hanging (fun t =>
    decide ((ctx t 16383).st = .faulted ∧ (ctx t 16383).cause = 0x0305)) = true := by decide +kernel
theorem test_resetDone : after (.contextResetComplete 4096) hanging (fun t => decide ((ctx t 4096).st = .opened)) = true := by decide +kernel
theorem test_watchdog : after (.watchdogExpiry 16383) hanging (fun t => decide ((ctx t 16383).cause = 0x0402)) = true := by decide +kernel
theorem test_readback : after (.markerReadback 15 true) (differs 301 100 false) (fun t => bit (rg t 0x20048) 15 && bit (rg t 0x20004) 5) = true := by decide +kernel
theorem test_holdClear : after (.fltMkHoldClear 1) { up with flt := { hold := 3 } } (fun t => decide (t.flt.hold = 2)) = true := by decide +kernel
theorem test_bootBank : after (.bootBank pk 1) managed (fun t => decide (t.flash.sel0 = 1 ∧ t.flash.sel1 = 1)) = true := by decide +kernel
theorem test_tierC : after (.devRecover pk 2 0) managed (fun t => t.boot.tierC && decide (t.lanes = [] ∧ t.flt.epoch = 1)) = true := by
  decide +kernel
theorem test_laneRestore : after (.laneRestore pk 31) managed (fun t => decide ((lane t 31).st = .stopped)) = true := by decide +kernel
theorem test_swapEnds : after (.fwSwapComplete true) { managed with sl := { running := true, swap := some 1, swapAt := some 5 } } (fun t =>
    decide (t.sl.bank = 1 ∧ t.sl.fwVer = 3)) = true := by decide +kernel
theorem test_slWdog : after .safelightWdog { up with flt := { clock := 50000000 } } (fun t => t.boot.tierM && decide (t.flt.tierM = 1)) = true := by
  decide +kernel
theorem test_ctxOpen : after (.ctxOpen pk 0x40000 0x3FFF) opening (fun t =>
    decide ((ctx t 0x3FFF).st = .opened ∧ (ctx t 0x3FFF).core = 7 ∧ (ctx t 0x3FFF).prog = 0x80000)) = true := by decide +kernel
theorem test_ctxLaunch : after (.ctxLaunch pk 1 2 3 4 0x1006) ctxs (fun t =>
    decide ((ctx t 0x1006).st = .ready ∧ (ctx t 0x1006).pc = 0 ∧ (ctx t 0x1006).cnt = [1, 2, 3, 4])) = true := by decide +kernel
-- R252: the host may not act on a device context (DENIED).
theorem test_ctxDenied : after (.ctxLaunch pk 0 0 0 0 1) ctxs (fun t => decide (rdLe t 0x2000 2 = stDenied) && decide (t.ctxs = ctxs.ctxs)) = true := by
  decide +kernel
theorem test_launchMiss : after (.ctxLaunchFire 1) ctxs (fun t => bit (rg t 0x50004) 0) = true := by decide +kernel
theorem test_ctxStop : after (.ctxStop pk 0x3FFF) ctxs (fun t => decide ((ctx t 0x3FFF).st = .stopped)) = true := by decide +kernel
theorem test_ctxResume : after (.ctxResume pk 0x1004) ctxs (fun t => decide ((ctx t 0x1004).st = .ready)) = true := by decide +kernel
theorem test_ctxAbort : after (.ctxAbort pk 0x3FFF) ctxs (fun t => decide ((ctx t 0x3FFF).cause = 0x0501)) = true := by decide +kernel
-- R180: both sequences hold the source's frames after SHARE.
theorem test_share : after (.ptEdit pk 65 0x1000 1 0x1000 0 0) seqs (fun t => decide ((seq t (seqKey 0x1000 1)).map (·.pt) = some [(0, some 0), (1, some 1)])
    && decide (frRef t 0 = 2 ∧ frRef t 1 = 2)) = true := by decide +kernel
theorem test_truncate : after (.ptEdit pk 64 0x1000 0 0 0 1) seqs (fun t => decide ((seq t (seqKey 0x1000 0)).map (·.len) = some [64])
    && decide (frRef t 1 = 0)) = true := by decide +kernel
theorem test_ringClose : after (.ringGroupClose pk 30) seqs (fun t => decide (group t 30 = none)) = true := by decide +kernel
-- R256: a Shutter launch of the same context in the same clock comes first, so the command finds the context READY.
theorem test_launchDue : after (.ctxLaunch pk 1 2 3 4 0x1000) ctxs (fun t =>
    decide (rdLe t 0x2000 2 = stBadState ∧ (ctx t 0x1000).cnt = [0, 0, 0, 0])) = true := by decide +kernel
-- The results land when the descriptor completes.
theorem test_dma : after (.descComplete 0 4 7 none []) (poke (atHead dmaD 4 none) 0x80000 [9, 8]) (fun t =>
    decide (rdBytes t (trayAddr (ctx dmaD 0x1000) 0x100) 2 = [9, 8]) && decide ((core t 0).q = [])) = true := by decide +kernel
theorem test_wait : after (.waitMark 0x1000) (onMark 7 0 255 1) (fun t => decide ((ctx t 0x1000).st = .waiting)) = true := by decide +kernel
theorem test_waitEnd : after (.waitMark 0x1000) (onMark 7 1 255 0) (fun t => decide ((ctx t 0x1000).st = .opened ∧ mark t 3 = 4)) = true := by
  decide +kernel
theorem test_signal : after (.signalMark 0x1000) (onMark 8 0 255 9) (fun t => decide (mark t 65535 = 9)) = true := by decide +kernel
theorem test_signalDevice : after (.signalMark 0x1000) (onMark 8 0 15 9) (fun t => decide ((ctx t 0x1000).cause = 0x0105)) = true := by decide +kernel
theorem test_branch : after (.branchOnCount 0x1000) (onCnt 0 2) (fun t =>
    decide ((ctx t 0x1000).pc = 0x3FF80 ∧ (ctx t 0x1000).cnt = [0, 0, 0, 1])) = true := by decide +kernel
theorem test_barrier : after (.ringBarrierComplete 0) (barred 0) (fun t =>
    decide ((ctx t 0x1000).cause = 0x0303 ∧ (ctx t 0x1001).cause = 0x0303)) = true := by decide +kernel
theorem test_attnBad : after (.attn 0x1000) { attnD 0 0 0 noOps with kv := {} } (fun t => decide ((ctx t 0x1000).cause = 0x0301)) = true := by
  decide +kernel
theorem test_streamOpen : after (.streamOpen pk 0x40000 1 1 1 0 1 2 0 3) dev (fun t => decide ((stream t 4).st = .opened)) = true := by decide +kernel
theorem test_pictureDone : after (.decodePictureDone 0 {} 0) dev (fun t => decide ((stream t 3).queue.length = 1 ∧ (stream t 3).made = 1)) = true := by
  decide +kernel
theorem test_adaptRun : after (.adaptRun pk 0) trainer (fun t => decide ((adapt t 0).map (·.st) = some .training)) = true := by decide +kernel
theorem test_adaptCommit : after (.adaptCommit pk 3 0) trainer (fun t => decide ((job t 0).st = .ready ∧ (job t 0).base = some 63)) = true := by
  decide +kernel
theorem test_idcode : after .idcode up (fun t => decide (t.dbg.tdo = 0x18160A65)) = true := by decide +kernel
theorem test_response : after (.dbgResponse 2 true) { up with dbg := { nonce := some 1 } } (fun t => decide (t.dbg.lock = 2)) = true := by decide +kernel
theorem test_deny : after .dbgCtrlDeny up (fun t => t.dbg.deny) = true := by decide +kernel
theorem test_wr32 : after (.wr32 0x40000 0x01020304) debugged (fun t => decide (rdBytes t 0x40000 4 = [4, 3, 2, 1])) = true := by decide +kernel
theorem test_wr32Locked : after (.wr32 0x40000 1) up (fun t => decide (t.dbg.code = 1 ∧ t.mem = [])) = true := by decide +kernel
theorem test_svnRaise : after (.svnRaise 255) debugged (fun t => decide (t.fuse.svnMin = 255)) = true := by decide +kernel
theorem test_loLatch : after (.regReadLoLatch 0x20030 4) { up with tmu := { dt := 2 ^ 32 + 5 } } (fun t =>
    decide (t.busData = 5 ∧ tget none t.latch 0x20034 = some 1)) = true := by decide +kernel
theorem test_bar2 : after (.bar2Access 0x3000000 none []) up (fun t => decide (t.busData = 0 ∧ t.flt.unsupCnt = 1)) = true := by decide +kernel
theorem test_bar4 : after (.bar4Access 0x40000 (some 0xA1B2C3D4) []) up (fun t => decide (rdBytes t 0x40000 4 = [0xD4, 0xC3, 0xB2, 0xA1])) = true := by
  decide +kernel
theorem test_tick : (match step up with | .next t => decide (dt t = 1 ∧ wt t = 0) | _ => false) = true := by decide +kernel
-- No row of the table gives bits.
theorem test_decodeTableWord : decodeTableWord 32 0xFFFFFFFF = none ∧ up.withFetchWord 32 1 = up := ⟨rfl, rfl⟩

end Sys2Proof.Machine.Tests
end

namespace Sys2Proof.Machine

/-! ## What no command changes, or only one may raise

`guarded` projects a state to the queue, the fuses and the level of the debug lock. Each function of the model leaves it (`guarded_<f>`,
in the order of the model's files), but for the resets, which only lower the lock, SVN_RAISE and a debugger's response. -/

/-- A fold keeps what each of its steps keeps. -/
theorem foldl_invariant {α β σ : Type} (g : σ → β) (f : σ → α → σ) (h : ∀ s x, g (f s x) = g s) (l : List α) (s : σ) :
    g (l.foldl f s) = g s := by
  induction l generalizing s with
  | nil => rfl
  | cons x l ih => rw [List.foldl_cons, ih, h]

/-- The queue, the fuses and the level of the debug lock. -/
def guarded (s : State) : List Instr × Fuse × Nat := (s.pending, s.fuse, s.dbg.lock)

@[simp] theorem guarded_ite (c : Prop) [Decidable c] (a b : State) :
    guarded (if c then a else b) = if c then guarded a else guarded b := apply_ite guarded c a b

/-- An update of other parts of the state. -/
@[simp] theorem guarded_update (s : State) (free regs latch ctr busData busPoison mem poison pins boot flash board sl pwr sal
    tmu sht lanes jobs ctxs marks cores hst kv ring cap fe code streams hot adapts mc flt) :
    guarded ⟨s.pending, free, regs, latch, ctr, busData, busPoison, mem, poison, pins, boot, s.fuse, flash, board, sl, pwr, s.dbg,
      sal, tmu, sht, lanes, jobs, ctxs, marks, cores, hst, kv, ring, cap, fe, code, streams, hot, adapts, mc, flt⟩ = guarded s := by rfl

/-- An update of other parts of the state and of the debug port's other fields. -/
@[simp] theorem guarded_dbg (s : State) (free regs latch ctr busData busPoison mem poison pins boot flash board sl pwr sal
    tmu sht lanes jobs ctxs marks cores hst kv ring cap fe code streams hot adapts mc flt
    deny nonce fails blockUntil result data tap tdo sram smb) :
    guarded ⟨s.pending, free, regs, latch, ctr, busData, busPoison, mem, poison, pins, boot, s.fuse, flash, board, sl, pwr,
      ⟨s.dbg.lock, deny, nonce, fails, blockUntil, result, data, tap, tdo, sram, smb⟩,
      sal, tmu, sht, lanes, jobs, ctxs, marks, cores, hst, kv, ring, cap, fe, code, streams, hot, adapts, mc, flt⟩ = guarded s := by rfl

@[simp] theorem guarded_foldl {α : Type} (f : State → α → State) (h : ∀ s x, guarded (f s x) = guarded s) (l : List α) (s : State) :
    guarded (l.foldl f s) = guarded s := foldl_invariant guarded f h l s

theorem guarded_foldl_fst {α β : Type} (f : State × β → α → State × β) (h : ∀ x a, guarded (f x a).1 = guarded x.1) (l : List α)
    (x : State × β) : guarded (l.foldl f x).1 = guarded x.1 := foldl_invariant (fun x => guarded x.1) f h l x

/-! ### The operations of Ops -/

@[simp] theorem guarded_useFresh s : guarded (useFresh s) = guarded s := by rfl
@[simp] theorem guarded_rset s off v : guarded (rset s off v) = guarded s := by rfl
@[simp] theorem guarded_rsetN s off v : guarded (rsetN s off v) = guarded s := by rfl
@[simp] theorem guarded_bump s off n : guarded (bump s off n) = guarded s := by rfl
@[simp] theorem guarded_flagN s off b n : guarded (flagN s off b n) = guarded s := by simp [flagN]
@[simp] theorem guarded_flag s off b : guarded (flag s off b) = guarded s := by rfl
@[simp] theorem guarded_cadd s off n : guarded (cadd s off n) = guarded s := by rfl
@[simp] theorem guarded_logUnsup s bar off write : guarded (logUnsup s bar off write) = guarded s := by rfl
@[simp] theorem guarded_wrBytes s a bs : guarded (wrBytes s a bs) = guarded s := by rfl
@[simp] theorem guarded_clearPoison s a len : guarded (clearPoison s a len) = guarded s := by rfl
@[simp] theorem guarded_storeBytes s a bs : guarded (storeBytes s a bs) = guarded s := by rfl
@[simp] theorem guarded_fillFree s a n : guarded (fillFree s a n) = guarded s := by rfl
@[simp] theorem guarded_setLane s n l : guarded (setLane s n l) = guarded s := by rfl
@[simp] theorem guarded_setCtx s n c : guarded (setCtx s n c) = guarded s := by rfl
@[simp] theorem guarded_setJob s n j : guarded (setJob s n j) = guarded s := by rfl
@[simp] theorem guarded_setEnt s n e : guarded (setEnt s n e) = guarded s := by rfl
@[simp] theorem guarded_setSq s n r : guarded (setSq s n r) = guarded s := by rfl
@[simp] theorem guarded_setCq s n r : guarded (setCq s n r) = guarded s := by rfl
@[simp] theorem guarded_setRq s n r : guarded (setRq s n r) = guarded s := by rfl
@[simp] theorem guarded_wakeOn s m v : guarded (wakeOn s m v) = guarded s := by rfl
@[simp] theorem guarded_noteSignaller s m c : guarded (noteSignaller s m c) = guarded s := by simp [noteSignaller]
@[simp] theorem guarded_addMark s m add : guarded (addMark s m add) = guarded s := by simp [addMark]
@[simp] theorem guarded_signalCtx s c m add : guarded (signalCtx s c m add) = guarded s := by simp [signalCtx]
@[simp] theorem guarded_signalExt s m add : guarded (signalExt s m add) = guarded s := by simp [signalExt]

@[simp] theorem guarded_raiseVec s v : guarded (raiseVec s v) = guarded s := by
  unfold raiseVec
  split <;> simp

@[simp] theorem guarded_writeRec s n x spilled : guarded (writeRec s n x spilled) = guarded s := by
  unfold writeRec
  split <;> simp

@[simp] theorem guarded_writeRecs s n xs spilled : guarded (writeRecs s n xs spilled) = guarded s := by simp [writeRecs]
@[simp] theorem guarded_bedPauseAuto s : guarded (bedPauseAuto s) = guarded s := by simp [bedPauseAuto]
@[simp] theorem guarded_dropGroup s n r xs v : guarded (dropGroup s n r xs v) = guarded s := by simp [dropGroup]
@[simp] theorem guarded_spillGroup s n r xs v : guarded (spillGroup s n r xs v) = guarded s := by simp [spillGroup]

@[simp] theorem guarded_reportGroup s xs v : guarded (reportGroup s xs v) = guarded s := by
  simp only [reportGroup]
  (repeat' split) <;> simp

@[simp] theorem guarded_report s typ ln src ref payload : guarded (report s typ ln src ref payload) = guarded s := by simp [report]

@[simp] theorem guarded_drainSpill s n xs : guarded (drainSpill s n xs) = guarded s := by
  induction xs generalizing s with
  | nil => rfl
  | cons x xs ih =>
    unfold drainSpill
    split
    · rfl
    · simp [ih]

@[simp] theorem guarded_settleRing s n : guarded (settleRing s n) = guarded s := by
  unfold settleRing
  (repeat' split) <;> simp

@[simp] theorem guarded_drainRing s n : guarded (drainRing s n) = guarded s := by
  unfold drainRing
  split <;> simp

@[simp] theorem guarded_doReply s n r p : guarded (doReply s n r p) = guarded s := by simp [doReply]

@[simp] theorem guarded_postReply s n p : guarded (postReply s n p) = guarded s := by
  unfold postReply
  split <;> simp

@[simp] theorem guarded_complete s f status detail result : guarded (complete s f status detail result) = guarded s := by
  unfold complete
  split
  · simp
  · split <;> simp

@[simp] theorem guarded_defer s f a ctxs : guarded (defer s f a ctxs) = guarded s := by rfl

@[simp] theorem guarded_finishDeletes (s : State) (fs : List Flight) : guarded (finishDeletes s fs) = guarded s := by
  induction fs generalizing s with
  | nil => rfl
  | cons f fs ih =>
    unfold finishDeletes
    split
    · split <;> simp [ih]
    · exact ih s

@[simp] theorem guarded_completeWhere s p status detail result : guarded (completeWhere s p status detail result) = guarded s := by
  simp [completeWhere]

@[simp] theorem guarded_completeAwait s a status detail result : guarded (completeAwait s a status detail result) = guarded s := by
  simp [completeAwait]

@[simp] theorem guarded_advanceHead s n : guarded (advanceHead s n) = guarded s := by
  unfold advanceHead
  split <;> simp

@[simp] theorem guarded_accept (s : State) (c op chk body) (h : ∀ s f, guarded (body s f) = guarded s) :
    guarded (accept s c op chk body) = guarded s := by
  simp only [accept]
  split
  · simp [h]
  · split
    · split
      · rfl
      · split <;> simp [h]
    · rfl

/-! ### The operations of Tensor -/

@[simp] theorem guarded_writeRow s c o r codes : guarded (writeRow s c o r codes) = guarded s := by rfl
@[simp] theorem guarded_writeCbRow s c o r sc vs : guarded (writeCbRow s c o r sc vs).1 = guarded s := by simp [writeCbRow]

@[simp] theorem guarded_writeVals s c o r sc vs : guarded (writeVals s c o r sc vs).1 = guarded s := by
  unfold writeVals
  split <;> simp

@[simp] theorem guarded_finishRow s c o out r row k : guarded (finishRow s c o out r row k).1 = guarded s := by
  unfold finishRow
  split <;> simp

@[simp] theorem guarded_countSats s core k : guarded (countSats s core k) = guarded s := by simp [countSats]
@[simp] theorem guarded_gemmRow s c g ws r k : guarded (gemmRow s c g ws r k).1 = guarded s := by simp [gemmRow]

@[simp] theorem guarded_gemmRows c g ws rs x : guarded (gemmRows c g ws rs x).1 = guarded x.1 := by
  induction rs generalizing x with
  | nil => rfl
  | cons r rs ih => simp [gemmRows, ih]

@[simp] theorem guarded_runGemm s c g : guarded (runGemm s c g) = guarded s := by simp [runGemm]

@[simp] theorem guarded_vecRows c v rs s : guarded (vecRows c v rs s) = guarded s := by
  induction rs generalizing s with
  | nil => rfl
  | cons r rs ih => simp [vecRows, ih]

@[simp] theorem guarded_runVec s c v : guarded (runVec s c v) = guarded s := by simp [runVec]

/-! ### The operations of Conv -/

@[simp] theorem guarded_convRow s c d oy k : guarded (convRow s c d oy k).1 = guarded s := by
  unfold convRow
  split <;> simp

@[simp] theorem guarded_convRows c d rs x : guarded (convRows c d rs x).1 = guarded x.1 := by
  induction rs generalizing x with
  | nil => rfl
  | cons r rs ih => simp [convRows, ih]

@[simp] theorem guarded_runConv s c d : guarded (runConv s c d) = guarded s := by simp [runConv]

@[simp] theorem guarded_poolRow s c d oy k : guarded (poolRow s c d oy k).1 = guarded s := by
  unfold poolRow
  split <;> simp

@[simp] theorem guarded_poolRows c d rs x : guarded (poolRows c d rs x).1 = guarded x.1 := by
  induction rs generalizing x with
  | nil => rfl
  | cons r rs ih => simp [poolRows, ih]

@[simp] theorem guarded_runPool s c d : guarded (runPool s c d) = guarded s := by simp [runPool]

/-! ### The operations of Kv -/

@[simp] theorem guarded_setSeq s k q : guarded (setSeq s k q) = guarded s := by rfl
@[simp] theorem guarded_dropHot s f : guarded (dropHot s f) = guarded s := by simp [dropHot]
@[simp] theorem guarded_incRef s f : guarded (incRef s f) = guarded s := by rfl
@[simp] theorem guarded_decRef s f : guarded (decRef s f) = guarded s := by simp [decRef]
@[simp] theorem guarded_pinFrame s f : guarded (pinFrame s f) = guarded s := by rfl
@[simp] theorem guarded_unpinFrame s f : guarded (unpinFrame s f) = guarded s := by simp [unpinFrame]
@[simp] theorem guarded_copyBytes s src dst n : guarded (copyBytes s src dst n) = guarded s := by rfl
@[simp] theorem guarded_copyHead q src dst n s g : guarded (copyHead q src dst n s g) = guarded s := by simp [copyHead]
@[simp] theorem guarded_copyPage s q src dst n : guarded (copyPage s q src dst n) = guarded s := by simp [copyPage]

theorem guarded_cow s k b t (h : cow s k b = some t) : guarded t = guarded s := by
  simp only [cow] at h
  split at h
  · cases h
  · split at h
    · cases h; simp
    · cases h

theorem guarded_ensureBlock s k b t (h : ensureBlock s k b = some t) : guarded t = guarded s := by
  unfold ensureBlock at h
  split at h
  · cases h
  · split at h
    · cases h; rfl
    · split at h
      · split at h
        · exact guarded_cow s k b t h
        · cases h; rfl
      · split at h
        · cases h
        · split at h <;> cases h
          simp

theorem guarded_ensureBlocks k bs s t (h : ensureBlocks k bs s = some t) : guarded t = guarded s := by
  induction bs generalizing s with
  | nil => cases h; rfl
  | cons b bs ih =>
    unfold ensureBlocks at h
    split at h
    · cases h
    · exact (ih _ h).trans (guarded_ensureBlock s k b _ ‹_›)

@[simp] theorem guarded_putKv s q p g r isV bs : guarded (putKv s q p g r isV bs) = guarded s := by rfl
@[simp] theorem guarded_putSummary s q p l : guarded (putSummary s q p l) = guarded s := by simp [putSummary]

@[simp] theorem guarded_putPos s q l pos k v : guarded (putPos s q l pos k v) = guarded s := by
  unfold putPos
  split <;> simp

@[simp] theorem guarded_appendRows s c key a : guarded (appendRows s c key a) = guarded s := by
  unfold appendRows
  split <;> simp

@[simp] theorem guarded_attnOut s c q a mode : guarded (attnOut s c q a mode) = guarded s := by simp [attnOut]

/-! ### The operations of Shutter -/

@[simp] theorem guarded_armHw s k own dev typ ln out len par target :
    guarded (armHw s k own dev typ ln out len par target) = guarded s := by rfl

@[simp] theorem guarded_releaseEntry s k : guarded (releaseEntry s k) = guarded s := by
  unfold releaseEntry
  split <;> simp

@[simp] theorem guarded_trimEntries s n ks : guarded (trimEntries s n ks) = guarded s := by
  induction ks generalizing s with
  | nil => rfl
  | cons k ks ih => simp [trimEntries, ih]

@[simp] theorem guarded_trimLane s n : guarded (trimLane s n) = guarded s := by simp [trimLane]

@[simp] theorem guarded_reserveEntries s n m : guarded (reserveEntries s n m) = guarded s := by
  induction m generalizing s with
  | zero => rfl
  | succ m ih =>
    unfold reserveEntries
    split
    · rfl
    · simp [ih]

@[simp] theorem guarded_reserveSpan s n : guarded (reserveSpan s n) = guarded s := by
  unfold reserveSpan
  split
  · simp
  · split <;> simp

@[simp] theorem guarded_armLine s n typ target : guarded (armLine s n typ target) = guarded s := by
  unfold armLine
  split <;> simp

@[simp] theorem guarded_freeLine s n typ : guarded (freeLine s n typ) = guarded s := by simp [freeLine]

@[simp] theorem guarded_syncSpan s n : guarded (syncSpan s n) = guarded s := by
  simp only [syncSpan]
  (repeat' split) <;> simp

@[simp] theorem guarded_addSpan s n x : guarded (addSpan s n x) = guarded s := by simp [addSpan]
@[simp] theorem guarded_openGap s n start cause : guarded (openGap s n start cause) = guarded s := by simp [openGap]

@[simp] theorem guarded_closeGap s n stop : guarded (closeGap s n stop) = guarded s := by
  simp only [closeGap]
  split <;> simp

@[simp] theorem guarded_pushAdv s d : guarded (pushAdv s d) = guarded s := by rfl
@[simp] theorem guarded_putLaneState s n st cause : guarded (putLaneState s n st cause) = guarded s := by simp [putLaneState]
@[simp] theorem guarded_checkStopped s n : guarded (checkStopped s n) = guarded s := by simp [checkStopped]
@[simp] theorem guarded_startNow s n : guarded (startNow s n) = guarded s := by simp [startNow]
@[simp] theorem guarded_stopNow s n : guarded (stopNow s n) = guarded s := by simp [stopNow]
@[simp] theorem guarded_flagsOne s off bs : guarded (flagsOne s off bs) = guarded s := by rfl
@[simp] theorem guarded_encFaultLane cause s n : guarded (encFaultLane cause s n) = guarded s := by simp [encFaultLane]
@[simp] theorem guarded_encCondition s bs cause : guarded (encCondition s bs cause) = guarded s := by simp [encCondition]
@[simp] theorem guarded_periodCount s : guarded (periodCount s) = guarded s := by simp [periodCount]
@[simp] theorem guarded_releaseHolds s : guarded (releaseHolds s) = guarded s := by rfl
@[simp] theorem guarded_afterAdvanceLane s n : guarded (afterAdvanceLane s n) = guarded s := by simp [afterAdvanceLane]
@[simp] theorem guarded_afterAdvance s : guarded (afterAdvance s) = guarded s := by simp [afterAdvance]
@[simp] theorem guarded_advanceTo s line rem frac : guarded (advanceTo s line rem frac) = guarded s := by simp [advanceTo]

/-! ### The operations of FaultOps -/

@[simp] theorem guarded_dropBlocks k n bs s : guarded (dropBlocks k n bs s) = guarded s := by
  induction bs generalizing s with
  | nil => rfl
  | cons b bs ih =>
    unfold dropBlocks
    split
    · split <;> simp [ih]
    · exact ih s

@[simp] theorem guarded_truncateSeq s k n : guarded (truncateSeq s k n) = guarded s := by
  unfold truncateSeq
  split <;> simp

@[simp] theorem guarded_shareBlocks src dst bs s : guarded (shareBlocks src dst bs s) = guarded s := by
  induction bs generalizing s with
  | nil => rfl
  | cons b bs ih =>
    unfold shareBlocks
    split
    · split <;> simp [ih]
    · rfl

@[simp] theorem guarded_shareSeq s src dst n : guarded (shareSeq s src dst n) = guarded s := by
  simp only [shareSeq]
  split <;> simp

@[simp] theorem guarded_closeSeq s k : guarded (closeSeq s k) = guarded s := by simp [closeSeq]

@[simp] theorem guarded_applyEdit s k a2 : guarded (applyEdit s k a2) = guarded s := by
  unfold applyEdit
  split <;> simp

@[simp] theorem guarded_editReport s k gen steps e : guarded (editReport s k gen steps e) = guarded s := by simp [editReport]

@[simp] theorem guarded_applyEdits k gen steps es s : guarded (applyEdits k gen steps es s) = guarded s := by
  induction es generalizing s with
  | nil => rfl
  | cons e es ih => simp [applyEdits, ih]

@[simp] theorem guarded_markBound s k : guarded (markBound s k) = guarded s := by
  unfold markBound
  split <;> simp

@[simp] theorem guarded_runEdits s k es begun : guarded (runEdits s k es begun) = guarded s := by
  unfold runEdits
  split <;> simp

@[simp] theorem guarded_countStep also s k : guarded (countStep also s k) = guarded s := by
  unfold countStep
  split <;> simp

@[simp] theorem guarded_countSteps s c also : guarded (countSteps s c also) = guarded s := by simp [countSteps]

@[simp] theorem guarded_boundarySeq moved s k : guarded (boundarySeq moved s k) = guarded s := by
  unfold boundarySeq
  split <;> simp

@[simp] theorem guarded_closeSteps s c moved : guarded (closeSteps s c moved) = guarded s := by simp [closeSteps]
@[simp] theorem guarded_stepBoundary s c : guarded (stepBoundary s c) = guarded s := by simp [stepBoundary]
@[simp] theorem guarded_setCore s n k : guarded (setCore s n k) = guarded s := by rfl
@[simp] theorem guarded_dropDescs s c : guarded (dropDescs s c) = guarded s := by simp [dropDescs]
@[simp] theorem guarded_countLane s n : guarded (countLane s n) = guarded s := by rfl
@[simp] theorem guarded_countDev s : guarded (countDev s) = guarded s := by rfl
@[simp] theorem guarded_writeRecord s h : guarded (writeRecord s h) = guarded s := by simp [writeRecord]
@[simp] theorem guarded_laneOos s n cause hold : guarded (laneOos s n cause hold) = guarded s := by simp [laneOos]
@[simp] theorem guarded_laneEscalate s n : guarded (laneEscalate s n) = guarded s := by simp [laneEscalate]
@[simp] theorem guarded_oosLane cause s n : guarded (oosLane cause s n) = guarded s := by simp [oosLane]
@[simp] theorem guarded_deviceOos s h : guarded (deviceOos s h) = guarded s := by simp [deviceOos]
@[simp] theorem guarded_escalate s ls dev : guarded (escalate s ls dev) = guarded s := by simp [escalate]
@[simp] theorem guarded_countEvent s ls dev : guarded (countEvent s ls dev).1 = guarded s := by simp [countEvent]
@[simp] theorem guarded_eventFault s h ls dev : guarded (eventFault s h ls dev) = guarded s := by simp [eventFault]
@[simp] theorem guarded_giveField s n key i o : guarded (giveField s n key i o) = guarded s := by rfl
@[simp] theorem guarded_giveCmp s n key o pixs cells : guarded (giveCmp s n key o pixs cells) = guarded s := by rfl

@[simp] theorem guarded_staleOwed s c : guarded (staleOwed s c) = guarded s := by
  refine guarded_foldl _ (fun s w => ?_) _ _
  split <;> simp

@[simp] theorem guarded_abortFor s c : guarded (abortFor s c) = guarded s := by simp [abortFor]
@[simp] theorem guarded_sweepRing s g : guarded (sweepRing s g) = guarded s := by simp [sweepRing]
@[simp] theorem guarded_sweepRings s : guarded (sweepRings s) = guarded s := by simp [sweepRings]
@[simp] theorem guarded_setAdapt s k a : guarded (setAdapt s k a) = guarded s := by rfl

@[simp] theorem guarded_adaptMove s k st cause : guarded (adaptMove s k st cause) = guarded s := by
  unfold adaptMove
  split <;> simp

@[simp] theorem guarded_adaptFault s c : guarded (adaptFault s c) = guarded s := by
  unfold adaptFault
  split
  · simp
  · split <;> simp

@[simp] theorem guarded_faultSample s c cause : guarded (faultSample s c cause) = guarded s := by
  unfold faultSample
  (repeat' split) <;> simp

@[simp] theorem guarded_resetSteps s c : guarded (resetSteps s c) = guarded s := by simp [resetSteps]
@[simp] theorem guarded_faultOne s c h : guarded (faultOne s c h) = guarded s := by simp [faultOne]
@[simp] theorem guarded_faultCtx s c h : guarded (faultCtx s c h) = guarded s := by simp [faultCtx]
@[simp] theorem guarded_faultDesc s c cause addr : guarded (faultDesc s c cause addr) = guarded s := by simp [faultDesc]
@[simp] theorem guarded_abortPlaced s mask : guarded (abortPlaced s mask) = guarded s := by simp [abortPlaced]

@[simp] theorem guarded_holdNamed s r : guarded (holdNamed s r) = guarded s := by
  unfold holdNamed
  split <;> simp

@[simp] theorem guarded_freeNamed s r : guarded (freeNamed s r) = guarded s := by
  unfold freeNamed
  split <;> simp

@[simp] theorem guarded_runTierB s r : guarded (runTierB s r) = guarded s := by simp [runTierB]
@[simp] theorem guarded_askTierB s r : guarded (askTierB s r) = guarded s := by simp [askTierB]
@[simp] theorem guarded_runWaiting s : guarded (runWaiting s) = guarded s := by simp [runWaiting]
@[simp] theorem guarded_hangFault s c h : guarded (hangFault s c h) = guarded s := by simp [hangFault]

/-! ### The operations of Hoist -/

@[simp] theorem guarded_noteExh s c : guarded (noteExh s c) = guarded s := by simp [noteExh]
@[simp] theorem guarded_chargeUnit s c core u clocks : guarded (chargeUnit s c core u clocks) = guarded s := by simp [chargeUnit]
@[simp] theorem guarded_chargeDram s c bytes : guarded (chargeDram s c bytes) = guarded s := by simp [chargeDram]
@[simp] theorem guarded_chargeEntry n u p clocks s d : guarded (chargeEntry n u p clocks s d) = guarded s := by simp [chargeEntry]

@[simp] theorem guarded_accrueUnit s n u : guarded (accrueUnit s n u) = guarded s := by
  simp only [accrueUnit]
  split <;> simp

@[simp] theorem guarded_accrue s : guarded (accrue s) = guarded s := by simp [accrue]
@[simp] theorem guarded_applyShadows s : guarded (applyShadows s) = guarded s := by rfl
@[simp] theorem guarded_clearHeld s : guarded (clearHeld s) = guarded s := by rfl
@[simp] theorem guarded_boundary s : guarded (boundary s) = guarded s := by simp [boundary]
@[simp] theorem guarded_commit s : guarded (commit s) = guarded s := by simp [commit]

/-! ### The operations of Caption -/

@[simp] theorem guarded_setVocab s v x : guarded (setVocab s v x) = guarded s := by rfl
@[simp] theorem guarded_setDetok s c x : guarded (setDetok s c x) = guarded s := by rfl
@[simp] theorem guarded_setTokStream s n x : guarded (setTokStream s n x) = guarded s := by rfl

@[simp] theorem guarded_vocabLoad s f src len v : guarded (vocabLoad s f src len v) = guarded s := by
  simp only [vocabLoad]
  (repeat' split) <;> simp

@[simp] theorem guarded_capTokenize s f src dst len capn stream tflags vslot split :
    guarded (capTokenize s f src dst len capn stream tflags vslot split) = guarded s := by
  unfold capTokenize
  (repeat' split) <;> simp

@[simp] theorem guarded_writeChars cs s d : guarded (writeChars cs s d).1 = guarded s := by
  induction cs generalizing s d with
  | nil => rfl
  | cons c cs ih =>
    unfold writeChars
    split
    · exact ih s d
    · split <;> simp [ih]

@[simp] theorem guarded_pushByte s d c : guarded (pushByte s d c).1 = guarded s := by
  simp only [pushByte]
  (repeat' split) <;> simp

@[simp] theorem guarded_pushAll cs s d : guarded (pushAll cs s d).1 = guarded s := by
  induction cs generalizing s d with
  | nil => rfl
  | cons c cs ih => simp [pushAll, ih]

@[simp] theorem guarded_feedRaw s d bs final : guarded (feedRaw s d bs final).1 = guarded s := by simp [feedRaw]
@[simp] theorem guarded_writeHeader s d : guarded (writeHeader s d) = guarded s := by rfl
@[simp] theorem guarded_cacheLook s cls bytes : guarded (cacheLook s cls bytes) = guarded s := by simp [cacheLook]
@[simp] theorem guarded_serveToken s cls d v t conf : guarded (serveToken s cls d v t conf).1 = guarded s := by simp [serveToken]

@[simp] theorem guarded_flushHeld s d : guarded (flushHeld s d).1 = guarded s := by
  unfold flushHeld
  split <;> simp

@[simp] theorem guarded_finishText s d : guarded (finishText s d).1 = guarded s := by simp [finishText]
@[simp] theorem guarded_chargeText s c old d : guarded (chargeText s c old d) = guarded s := by simp [chargeText]

@[simp] theorem guarded_detokStep s c : guarded (detokStep s c) = guarded s := by
  simp only [detokStep]
  (repeat' split) <;> simp

@[simp] theorem guarded_detokPut s c t conf : guarded (detokPut s c t conf) = guarded s := by
  unfold detokPut
  split <;> simp

@[simp] theorem guarded_detokEnd s c : guarded (detokEnd s c) = guarded s := by
  unfold detokEnd
  split <;> simp

/-! ### The operations of Ecc -/

@[simp] theorem guarded_setChan s n c : guarded (setChan s n c) = guarded s := by rfl
@[simp] theorem guarded_corrected s a : guarded (corrected s a) = guarded s := by simp [corrected]
@[simp] theorem guarded_poisonBurst s n a : guarded (poisonBurst s n a) = guarded s := by simp [poisonBurst]
@[simp] theorem guarded_uncorrected s a : guarded (uncorrected s a) = guarded s := by simp [uncorrected]
@[simp] theorem guarded_eccErrors s l : guarded (eccErrors s l) = guarded s := by simp [eccErrors]

/-! ### The operations of Channels -/

@[simp] theorem guarded_newMode s t : guarded (newMode s t) = guarded s := by rfl
@[simp] theorem guarded_refreshSlot s n : guarded (refreshSlot s n) = guarded s := by simp [refreshSlot]
@[simp] theorem guarded_caFail s n : guarded (caFail s n) = guarded s := by simp [caFail]
@[simp] theorem guarded_replay s n b row : guarded (replay s n b row) = guarded s := by simp [replay]
@[simp] theorem guarded_scrub s n errs : guarded (scrub s n errs) = guarded s := by simp [scrub]
@[simp] theorem guarded_neighbourRefresh s n key : guarded (neighbourRefresh s n key) = guarded s := by rfl
@[simp] theorem guarded_holdNeighbour s n key : guarded (holdNeighbour s n key) = guarded s := by simp [holdNeighbour]
@[simp] theorem guarded_releaseHeld s n : guarded (releaseHeld s n) = guarded s := by simp [releaseHeld]
@[simp] theorem guarded_setFill s e : guarded (setFill s e) = guarded s := by simp [setFill]

/-! ### The operations of Front -/

@[simp] theorem guarded_setFe s f : guarded (setFe s f) = guarded s := by rfl
@[simp] theorem guarded_trackSum s p ys : guarded (trackSum s p ys) = guarded s := by simp [trackSum]
@[simp] theorem guarded_whiteUpdate s sums : guarded (whiteUpdate s sums) = guarded s := by simp [whiteUpdate]
@[simp] theorem guarded_endCapture s c : guarded (endCapture s c) = guarded s := by simp [endCapture]
@[simp] theorem guarded_capLine s p raws : guarded (capLine s p raws) = guarded s := by simp [capLine]
@[simp] theorem guarded_copyRefs s p : guarded (copyRefs s p) = guarded s := by rfl

@[simp] theorem guarded_applyPort p as s : guarded (applyPort p as s) = guarded s := by
  induction as generalizing s with
  | nil => rfl
  | cons a as ih => simp [applyPort, ih]

@[simp] theorem guarded_lineBoundary s p : guarded (lineBoundary s p) = guarded s := by simp [lineBoundary]

@[simp] theorem guarded_takeLine s p xs : guarded (takeLine s p xs) = guarded s := by
  unfold takeLine
  split <;> simp

@[simp] theorem guarded_endLine s p : guarded (endLine s p) = guarded s := by simp [endLine]
@[simp] theorem guarded_stripLink s p lost lock : guarded (stripLink s p lost lock) = guarded s := by simp [stripLink]
@[simp] theorem guarded_portOff s p : guarded (portOff s p) = guarded s := by simp [portOff]
@[simp] theorem guarded_addSeg s tgt p g : guarded (addSeg s tgt p g) = guarded s := by simp [addSeg]
@[simp] theorem guarded_pulseLsync s p : guarded (pulseLsync s p) = guarded s := by simp [pulseLsync]
@[simp] theorem guarded_trigPort tgt s p : guarded (trigPort tgt s p) = guarded s := by simp [trigPort]
@[simp] theorem guarded_fireTrig s k : guarded (fireTrig s k) = guarded s := by simp [fireTrig]
@[simp] theorem guarded_startGen s ports start period : guarded (startGen s ports start period) = guarded s := by rfl

@[simp] theorem guarded_trigArm s f start period ports : guarded (trigArm s f start period ports) = guarded s := by
  unfold trigArm
  split
  · simp
  · split <;> simp

@[simp] theorem guarded_stopPorts ports s k : guarded (stopPorts ports s k) = guarded s := by simp [stopPorts]
@[simp] theorem guarded_putSeg l s g : guarded (putSeg l s g) = guarded s := by simp [putSeg]

@[simp] theorem guarded_closeWin s w : guarded (closeWin s w) = guarded s := by
  simp only [closeWin]
  (repeat' split) <;> simp

@[simp] theorem guarded_closeWins s : guarded (closeWins s) = guarded s := by simp [closeWins]
@[simp] theorem guarded_stripeAcc s l segs : guarded (stripeAcc s l segs) = guarded s := by simp [stripeAcc]
@[simp] theorem guarded_overflow s o : guarded (overflow s o) = guarded s := by rfl

@[simp] theorem guarded_rasterRow s g ovf : guarded (rasterRow s g ovf) = guarded s := by
  simp only [rasterRow]
  (repeat' split) <;> simp

@[simp] theorem guarded_setSb s b x : guarded (setSb s b x) = guarded s := by rfl
@[simp] theorem guarded_release1 s b pos x : guarded (release1 s b pos x) = guarded s := by rfl

@[simp] theorem guarded_releaseUpTo b pos n s : guarded (releaseUpTo b pos n s) = guarded s := by
  induction n generalizing s with
  | zero => rfl
  | succ n ih =>
    unfold releaseUpTo
    split
    · simp [ih]
    · rfl

@[simp] theorem guarded_releaseAll s b : guarded (releaseAll s b) = guarded s := by simp [releaseAll]

@[simp] theorem guarded_makeStale b s k : guarded (makeStale b s k) = guarded s := by
  unfold makeStale
  split <;> simp

@[simp] theorem guarded_overwriteRow s b r x : guarded (overwriteRow s b r x) = guarded s := by simp [overwriteRow]

@[simp] theorem guarded_writeStripe s b row : guarded (writeStripe s b row) = guarded s := by
  unfold writeStripe
  split <;> simp

@[simp] theorem guarded_sbWrite s b v : guarded (sbWrite s b v) = guarded s := by simp [sbWrite]

/-! ### The operations of Codes -/

@[simp] theorem guarded_setCode s c : guarded (setCode s c) = guarded s := by rfl
@[simp] theorem guarded_queueField n o s i : guarded (queueField n o s i) = guarded s := by simp [queueField]
@[simp] theorem guarded_queueObj n s o : guarded (queueObj n s o) = guarded s := by simp [queueObj]
@[simp] theorem guarded_queueLane s n : guarded (queueLane s n) = guarded s := by simp [queueLane]
@[simp] theorem guarded_queueCaptured s : guarded (queueCaptured s) = guarded s := by simp [queueCaptured]

@[simp] theorem guarded_codeStart s : guarded (codeStart s) = guarded s := by
  simp only [codeStart]
  (repeat' split) <;> simp

@[simp] theorem guarded_countDecoded s c l : guarded (countDecoded s c l) = guarded s := by rfl
@[simp] theorem guarded_rsFlag s bad : guarded (rsFlag s bad) = guarded s := by simp [rsFlag]

@[simp] theorem guarded_codeOut s o b c r : guarded (codeOut s o b c r).1 = guarded s := by
  simp only [codeOut]
  (repeat' split) <;> simp

@[simp] theorem guarded_codeDone s q r : guarded (codeDone s q r) = guarded s := by
  simp only [codeDone]
  (repeat' split) <;> simp

/-! ### The operations of Capture -/

@[simp] theorem guarded_captureOne k s d : guarded (captureOne k s d) = guarded s := by
  unfold captureOne
  split <;> simp

@[simp] theorem guarded_captureSlot s k : guarded (captureSlot s k) = guarded s := by
  unfold captureSlot
  split <;> simp

@[simp] theorem guarded_captureDue s : guarded (captureDue s) = guarded s := by simp [captureDue]

@[simp] theorem guarded_captureFor n o s k : guarded (captureFor n o s k) = guarded s := by
  unfold captureFor
  split <;> simp

@[simp] theorem guarded_captureObj s n o : guarded (captureObj s n o) = guarded s := by simp [captureObj]

/-! ### The operations of Dev -/

@[simp] theorem guarded_setStream s k x : guarded (setStream s k x) = guarded s := by rfl
@[simp] theorem guarded_countPix s n : guarded (countPix s n) = guarded s := by rfl

@[simp] theorem guarded_streamOpen s f x : guarded (streamOpen s f x) = guarded s := by
  unfold streamOpen
  (repeat' split) <;> simp

@[simp] theorem guarded_auxReport s typ k u reason : guarded (auxReport s typ k u reason) = guarded s := by simp [auxReport]
@[simp] theorem guarded_auxSkip reason s k u : guarded (auxSkip reason s k u) = guarded s := by simp [auxSkip]
@[simp] theorem guarded_lowWater s k : guarded (lowWater s k) = guarded s := by simp [lowWater]
@[simp] theorem guarded_takeUnit k s u : guarded (takeUnit k s u) = guarded s := by simp [takeUnit]
@[simp] theorem guarded_enterSkip s k : guarded (enterSkip s k) = guarded s := by simp [enterSkip]

@[simp] theorem guarded_startPic s p : guarded (startPic s p) = guarded s := by
  simp only [startPic]
  (repeat' split) <;> simp

@[simp] theorem guarded_startPics s : guarded (startPics s) = guarded s := by simp [startPics]
@[simp] theorem guarded_addRef s k u : guarded (addRef s k u) = guarded s := by rfl
@[simp] theorem guarded_enqueueRefs s slot is rep : guarded (enqueueRefs s slot is rep) = guarded s := by simp [enqueueRefs]
@[simp] theorem guarded_freeRef s k : guarded (freeRef s k) = guarded s := by simp [freeRef]
@[simp] theorem guarded_dropRef slot s k : guarded (dropRef slot s k) = guarded s := by simp [dropRef]
@[simp] theorem guarded_dropRefs s slot : guarded (dropRefs s slot) = guarded s := by simp [dropRefs]
@[simp] theorem guarded_refNext s k : guarded (refNext s k) = guarded s := by simp [refNext]
@[simp] theorem guarded_refDone s k u p : guarded (refDone s k u p) = guarded s := by simp [refDone]
@[simp] theorem guarded_refBad s k u : guarded (refBad s k u) = guarded s := by simp [refBad]
@[simp] theorem guarded_streamFeed s f src k u : guarded (streamFeed s f src k u) = guarded s := by simp [streamFeed]
@[simp] theorem guarded_streamClose s f k : guarded (streamClose s f k) = guarded s := by simp [streamClose]

@[simp] theorem guarded_flushDone s k bytes : guarded (flushDone s k bytes) = guarded s := by
  simp only [flushDone]
  split <;> simp

@[simp] theorem guarded_abandonPic s k u reason : guarded (abandonPic s k u reason) = guarded s := by simp [abandonPic]
@[simp] theorem guarded_putPlane b base pitch rows s : guarded (putPlane b base pitch rows s) = guarded s := by simp [putPlane]
@[simp] theorem guarded_putFrame s x p : guarded (putFrame s x p) = guarded s := by simp [putFrame]
@[simp] theorem guarded_queueFrame s k u p : guarded (queueFrame s k u p) = guarded s := by simp [queueFrame]
@[simp] theorem guarded_decodeErr s k u err : guarded (decodeErr s k u err) = guarded s := by simp [decodeErr]

@[simp] theorem guarded_dequeueFrom k us s : guarded (dequeueFrom k us s) = guarded s := by
  induction us generalizing s with
  | nil => rfl
  | cons u us ih =>
    simp only [dequeueFrom]
    split <;> simp [ih]

@[simp] theorem guarded_tileStale s w : guarded (tileStale s w) = guarded s := by
  unfold tileStale
  split <;> simp

@[simp] theorem guarded_poisonTile s k tile w : guarded (poisonTile s k tile w) = guarded s := by simp [poisonTile]
@[simp] theorem guarded_tileRepaired s k tile : guarded (tileRepaired s k tile) = guarded s := by simp [tileRepaired]
@[simp] theorem guarded_bumpWrap s off : guarded (bumpWrap s off) = guarded s := by rfl
@[simp] theorem guarded_installTile s t : guarded (installTile s t) = guarded s := by rfl

@[simp] theorem guarded_noteTile s tile w : guarded (noteTile s tile w) = guarded s := by
  unfold noteTile
  split <;> simp

@[simp] theorem guarded_readTile s t w : guarded (readTile s t w) = guarded s := by simp [readTile]

/-! ### The operations of Adaptation -/

@[simp] theorem guarded_putBuffer s a b : guarded (putBuffer s a b) = guarded s := by rfl
@[simp] theorem guarded_initBuffers s a : guarded (initBuffers s a) = guarded s := by simp [initBuffers]

@[simp] theorem guarded_adaptOpen s f a : guarded (adaptOpen s f a) = guarded s := by
  unfold adaptOpen
  (repeat' split) <;> simp

@[simp] theorem guarded_adaptConfirm s f first last k n : guarded (adaptConfirm s f first last k n) = guarded s := by
  unfold adaptConfirm
  split <;> simp

@[simp] theorem guarded_adaptSample s f src lbl map len w h ll k kind :
    guarded (adaptSample s f src lbl map len w h ll k kind) = guarded s := by
  unfold adaptSample
  split <;> simp

theorem guarded_takeStream s a r (h : takeStream s a = some r) : guarded r.1 = guarded s := by
  unfold takeStream at h
  split at h
  · split at h <;> cases h
    simp
  · cases h; rfl

@[simp] theorem guarded_adaptRun s f k : guarded (adaptRun s f k) = guarded s := by
  unfold adaptRun
  split
  · simp
  · rename_i a _
    cases h : takeStream s a with
    | none => simp
    | some r => simp [guarded_takeStream s a r h]

@[simp] theorem guarded_adaptPause s f k : guarded (adaptPause s f k) = guarded s := by
  unfold adaptPause
  split <;> simp

@[simp] theorem guarded_putGrad s a g : guarded (putGrad s a g) = guarded s := by simp [putGrad]

@[simp] theorem guarded_sampleResolve s k slot a r : guarded (sampleResolve s k slot a r) = guarded s := by
  simp only [sampleResolve]
  split <;> simp

@[simp] theorem guarded_putStep s a grads : guarded (putStep s a grads) = guarded s := by simp [putStep]
@[simp] theorem guarded_batchClose s k a : guarded (batchClose s k a) = guarded s := by simp [batchClose]

@[simp] theorem guarded_adaptEval s f k : guarded (adaptEval s f k) = guarded s := by
  unfold adaptEval
  split <;> simp

@[simp] theorem guarded_evalDone s k a res : guarded (evalDone s k a res) = guarded s := by simp [evalDone]

@[simp] theorem guarded_adaptCommit s f k slot : guarded (adaptCommit s f k slot) = guarded s := by
  unfold adaptCommit
  split <;> simp

@[simp] theorem guarded_adaptClose s f k : guarded (adaptClose s f k) = guarded s := by
  unfold adaptClose
  split
  · simp
  · split <;> simp

/-! ### The operations of Bed -/

@[simp] theorem guarded_setBed s b : guarded (setBed s b) = guarded s := by rfl

@[simp] theorem guarded_armStep s at' dir : guarded (armStep s at' dir) = guarded s := by
  unfold armStep
  split <;> simp

@[simp] theorem guarded_bedRetry s : guarded (bedRetry s) = guarded s := by
  unfold bedRetry
  split <;> simp

@[simp] theorem guarded_freeBedEntries s : guarded (freeBedEntries s) = guarded s := by simp [freeBedEntries]
@[simp] theorem guarded_bedGo s : guarded (bedGo s) = guarded s := by simp [bedGo]
@[simp] theorem guarded_bedResumeAuto s : guarded (bedResumeAuto s) = guarded s := by simp [bedResumeAuto]
@[simp] theorem guarded_bedStops s : guarded (bedStops s) = guarded s := by simp [bedStops]
@[simp] theorem guarded_stepFire s k : guarded (stepFire s k) = guarded s := by simp [stepFire]
@[simp] theorem guarded_bedLine s : guarded (bedLine s) = guarded s := by simp [bedLine]
@[simp] theorem guarded_lineStep s : guarded (lineStep s) = guarded s := by simp [lineStep]
@[simp] theorem guarded_goHome s : guarded (goHome s) = guarded s := by simp [goHome]
@[simp] theorem guarded_runEnd s : guarded (runEnd s) = guarded s := by simp [runEnd]

/-! ### The operations of Desc -/

@[simp] theorem guarded_settleIdle s c : guarded (settleIdle s c) = guarded s := by simp [settleIdle]

/-! ### The operations of Search -/

@[simp] theorem guarded_putNextIn x d s l : guarded (putNextIn x d s l) = guarded s := by simp [putNextIn]

@[simp] theorem guarded_beamTake k olds s ij : guarded (beamTake k olds s ij) = guarded s := by
  unfold beamTake
  split <;> simp

@[simp] theorem guarded_beamMove s k parents : guarded (beamMove s k parents).1 = guarded s := by simp [beamMove]

@[simp] theorem guarded_setDec s k d : guarded (setDec s k d) = guarded s := by
  unfold setDec
  split <;> simp

@[simp] theorem guarded_handOn s c d w finish : guarded (handOn s c d w finish) = guarded s := by
  simp only [handOn]
  split
  · split
    · rfl
    · simp
  · split
    · refine (guarded_foldl _ (fun s t => by simp) _ _).trans (by simp)
    · rfl

@[simp] theorem guarded_selectToken c sm k : guarded (selectToken c sm k).1 = guarded sm.1 := by
  simp only [selectToken]
  (repeat' split) <;> simp

@[simp] theorem guarded_endProgram s c : guarded (endProgram s c) = guarded s := by simp [endProgram]
@[simp] theorem guarded_nextStep s c : guarded (nextStep s c) = guarded s := by simp [nextStep]

@[simp] theorem guarded_endRun s c : guarded (endRun s c) = guarded s := by
  simp only [endRun]
  split
  · simp
  · split
    · refine guarded_foldl _ (fun s k => ?_) _ _
      split
      · split <;> simp
      · rfl
    · split
      · simp
      · simp [guarded_foldl_fst]

@[simp] theorem guarded_settle s c : guarded (settle s c) = guarded s := by simp [settle]

/-! ### The operations of Issue -/

@[simp] theorem guarded_hold s c : guarded (hold s c) = guarded s := by rfl
@[simp] theorem guarded_advance s c k : guarded (advance s c k) = guarded s := by simp [advance]
@[simp] theorem guarded_enqueue s c q : guarded (enqueue s c q) = guarded s := by rfl
@[simp] theorem guarded_issueWith s c k q : guarded (issueWith s c k q) = guarded s := by simp [issueWith]
@[simp] theorem guarded_faultPoison s c p : guarded (faultPoison s c p) = guarded s := by simp [faultPoison]

@[simp] theorem guarded_dispatch s c typ go (h : ∀ s k op, guarded (go s k op) = guarded s) :
    guarded (dispatch s c typ go) = guarded s := by
  simp only [dispatch]
  repeat' split
  all_goals simp [h]

@[simp] theorem guarded_issueGemm s c k g : guarded (issueGemm s c k g) = guarded s := by simp [issueGemm]

@[simp] theorem guarded_readPage q l sn b : guarded (readPage q l sn b).1 = guarded sn.1 := by
  simp only [readPage]
  (repeat' split) <;> simp

@[simp] theorem guarded_takeReads s q l r : guarded (takeReads s q l r).1 = guarded s := by simp [takeReads, guarded_foldl_fst]

@[simp] theorem guarded_poisonFlags s c a : guarded (poisonFlags s c a).1 = guarded s := by
  unfold poisonFlags
  split <;> simp

@[simp] theorem guarded_kvPoisonFault s c a : guarded (kvPoisonFault s c a) = guarded s := by simp [kvPoisonFault]
@[simp] theorem guarded_kvFault s c cause : guarded (kvFault s c cause) = guarded s := by simp [kvFault]

@[simp] theorem guarded_beginStep s k : guarded (beginStep s k) = guarded s := by
  unfold beginStep
  split <;> simp

@[simp] theorem guarded_setDeg s c : guarded (setDeg s c) = guarded s := by rfl

@[simp] theorem guarded_issueAttn s c k a : guarded (issueAttn s c k a) = guarded s := by
  simp only [issueAttn]
  split
  · simp
  · simp
  · split
    · simp
    · split
      · simp
      · rename_i t h
        split <;> simp [guarded_ensureBlocks _ _ s t h]

@[simp] theorem guarded_issueRing s c k a : guarded (issueRing s c k a) = guarded s := by
  unfold issueRing
  split <;> simp

@[simp] theorem guarded_updDesc s g c f : guarded (updDesc s g c f) = guarded s := by rfl
@[simp] theorem guarded_scratch r q s e : guarded (scratch r q s e) = guarded s := by simp [scratch]

@[simp] theorem guarded_memberTake g q nb falls extra s m rd : guarded (memberTake g q nb falls extra s m rd) = guarded s := by
  simp [memberTake]

@[simp] theorem guarded_ringPoison s g c a : guarded (ringPoison s g c a) = guarded s := by simp [ringPoison]

theorem guarded_ringEnsure k ms s t (h : ringEnsure k ms s = .ok t) : guarded t = guarded s := by
  induction ms generalizing s with
  | nil => cases h; rfl
  | cons m ms ih =>
    unfold ringEnsure at h
    split at h
    · cases h
    · exact (ih _ h).trans (guarded_ensureBlocks k _ s _ ‹_›)

@[simp] theorem guarded_leaveBarrier g k s m : guarded (leaveBarrier g k s m) = guarded s := by simp [leaveBarrier]

@[simp] theorem guarded_ringGo s g r ms : guarded (ringGo s g r ms) = guarded s := by
  simp only [ringGo]
  split
  · split
    · simp
    · split
      · simp
      · rename_i t h
        have ht : guarded t = guarded s := by
          split at h
          · simpa using guarded_ringEnsure _ _ _ t h
          · cases h; simp
        split <;> simp [ht]
  · rfl

@[simp] theorem guarded_ringFinish s d a q r : guarded (ringFinish s d a q r) = guarded s := by simp [ringFinish]

@[simp] theorem guarded_runAttn s d a : guarded (runAttn s d a) = guarded s := by
  simp only [runAttn]
  (repeat' split) <;> simp

@[simp] theorem guarded_control s c k pc : guarded (control s c k pc) = guarded s := by simp [control]

/-! ### The operations of Fetch -/

@[simp] theorem guarded_dmaRows x d rs s : guarded (dmaRows x d rs s) = guarded s := by
  induction rs generalizing s with
  | nil => rfl
  | cons r rs ih => simp [dmaRows, ih]

@[simp] theorem guarded_runDma s x d : guarded (runDma s x d) = guarded s := by simp [runDma]

@[simp] theorem guarded_staleFetch s c w : guarded (staleFetch s c w) = guarded s := by
  unfold staleFetch
  (repeat' split) <;> simp

@[simp] theorem guarded_deliverMap s c m : guarded (deliverMap s c m) = guarded s := by
  simp only [deliverMap]
  (repeat' split) <;> simp

@[simp] theorem guarded_runQ s d : guarded (runQ s d) = guarded s := by
  unfold runQ
  split <;> simp

@[simp] theorem guarded_commitApp s d : guarded (commitApp s d) = guarded s := by
  unfold commitApp
  split
  · simp
  · split <;> simp

@[simp] theorem guarded_finishEntry u p clocks map s d : guarded (finishEntry u p clocks map s d) = guarded s := by
  simp only [finishEntry]
  split <;> simp

@[simp] theorem guarded_descComplete s n u clocks map : guarded (descComplete s n u clocks map) = guarded s := by
  simp only [descComplete]
  split <;> simp

/-! ### The operations of Ctx -/

@[simp] theorem guarded_ctxOpen s f a c : guarded (ctxOpen s f a c) = guarded s := by simp [ctxOpen]
@[simp] theorem guarded_resetSearches s c : guarded (resetSearches s c) = guarded s := by rfl

@[simp] theorem guarded_launch s c cnt : guarded (launch s c cnt).1 = guarded s := by
  simp only [launch]
  (repeat' split) <;> simp

@[simp] theorem guarded_launchFire s k : guarded (launchFire s k) = guarded s := by simp [launchFire]
@[simp] theorem guarded_launchesDue s c : guarded (launchesDue s c) = guarded s := by simp [launchesDue]
@[simp] theorem guarded_stopNowCtx s c : guarded (stopNowCtx s c) = guarded s := by rfl
@[simp] theorem guarded_ctxStop s f c : guarded (ctxStop s f c) = guarded s := by simp [ctxStop]

@[simp] theorem guarded_resumeCtx s c : guarded (resumeCtx s c) = guarded s := by
  simp only [resumeCtx]
  split <;> simp

@[simp] theorem guarded_closeCtx s c : guarded (closeCtx s c) = guarded s := by simp [closeCtx]
@[simp] theorem guarded_seqOpen s f param c n : guarded (seqOpen s f param c n) = guarded s := by simp [seqOpen]

@[simp] theorem guarded_giveEdit s k e : guarded (giveEdit s k e).1 = guarded s := by
  unfold giveEdit
  split
  · simp
  · split <;> simp

@[simp] theorem guarded_seqClose s f c n : guarded (seqClose s f c n) = guarded s := by
  unfold seqClose
  split
  · simp
  · simp [guarded_foldl_fst]

@[simp] theorem guarded_ptEdit s f n c k srcC srcK op : guarded (ptEdit s f n c k srcC srcK op) = guarded s := by
  simp only [ptEdit]
  (repeat' split) <;> simp

@[simp] theorem guarded_setGroup s g r : guarded (setGroup s g r) = guarded s := by rfl

@[simp] theorem guarded_ringOpen s f param : guarded (ringOpen s f param) = guarded s := by
  unfold ringOpen
  (repeat' split) <;> simp

/-! ### The operations of Time -/

@[simp] theorem guarded_forwardStep s : guarded (forwardStep s) = guarded s := by simp [forwardStep]
@[simp] theorem guarded_forwardCount s : guarded (forwardCount s) = guarded s := by simp [forwardCount]
@[simp] theorem guarded_reverseCount s : guarded (reverseCount s) = guarded s := by simp [reverseCount]
@[simp] theorem guarded_zEdge s : guarded (zEdge s) = guarded s := by simp [zEdge]
@[simp] theorem guarded_illegalTransition s : guarded (illegalTransition s) = guarded s := by simp [illegalTransition]
@[simp] theorem guarded_shutterArm s k w2 : guarded (shutterArm s k w2) = guarded s := by simp [shutterArm]
@[simp] theorem guarded_armPulse s k n i cfg a origin : guarded (armPulse s k n i cfg a origin) = guarded s := by rfl

@[simp] theorem guarded_deadlineFire s k : guarded (deadlineFire s k) = guarded s := by
  simp only [deadlineFire]
  split <;> simp

@[simp] theorem guarded_startLine s n : guarded (startLine s n) = guarded s := by simp [startLine]
@[simp] theorem guarded_stopLine s n : guarded (stopLine s n) = guarded s := by simp [stopLine]
@[simp] theorem guarded_spanStep s n : guarded (spanStep s n) = guarded s := by simp [spanStep]

/-! ### The operations of Lanes -/

@[simp] theorem guarded_badImage s f i : guarded (badImage s f i) = guarded s := by simp [badImage]
@[simp] theorem guarded_jobLoad s f src len slot i : guarded (jobLoad s f src len slot i) = guarded s := by simp [jobLoad]

@[simp] theorem guarded_jobLoadDone s slot : guarded (jobLoadDone s slot) = guarded s := by
  simp only [jobLoadDone]
  (repeat' split) <;> simp

@[simp] theorem guarded_jobUnload s f slot : guarded (jobUnload s f slot) = guarded s := by simp [jobUnload]
@[simp] theorem guarded_lateGap s n start : guarded (lateGap s n start) = guarded s := by simp [lateGap]
@[simp] theorem guarded_laneStart s n start : guarded (laneStart s n start) = guarded s := by simp [laneStart]
@[simp] theorem guarded_laneStop s n stop : guarded (laneStop s n stop) = guarded s := by simp [laneStop]
@[simp] theorem guarded_setVar s f src n v len : guarded (setVar s f src n v len) = guarded s := by simp [setVar]
@[simp] theorem guarded_laneRestore s n : guarded (laneRestore s n) = guarded s := by simp [laneRestore]

/-! ### The operations of Rings -/

@[simp] theorem guarded_sqDelete s f n : guarded (sqDelete s f n) = guarded s := by
  unfold sqDelete
  split <;> simp

@[simp] theorem guarded_badDoorbell s off : guarded (badDoorbell s off) = guarded s := by rfl

@[simp] theorem guarded_sqTail s n idx : guarded (sqTail s n idx) = guarded s := by
  unfold sqTail
  split <;> simp

@[simp] theorem guarded_postWaiting n ps s : guarded (postWaiting n ps s) = guarded s := by
  induction ps generalizing s with
  | nil => rfl
  | cons p ps ih =>
    unfold postWaiting
    split
    · rfl
    · simp [ih]

@[simp] theorem guarded_cqHead s n idx : guarded (cqHead s n idx) = guarded s := by
  unfold cqHead
  split <;> simp

@[simp] theorem guarded_rqHead s n idx : guarded (rqHead s n idx) = guarded s := by
  unfold rqHead
  split <;> simp

@[simp] theorem guarded_failedCopy s dst len : guarded (failedCopy s dst len) = guarded s := by rfl
@[simp] theorem guarded_runCopy s f src dst len ecc : guarded (runCopy s f src dst len ecc) = guarded s := by simp [runCopy]
@[simp] theorem guarded_dmaCopy s f src dst len ecc : guarded (dmaCopy s f src dst len ecc) = guarded s := by simp [dmaCopy]
@[simp] theorem guarded_runFill s f dst pattern len : guarded (runFill s f dst pattern len) = guarded s := by simp [runFill]
@[simp] theorem guarded_memFill s f dst pattern len : guarded (memFill s f dst pattern len) = guarded s := by simp [memFill]

@[simp] theorem guarded_runHeld fs s : guarded (runHeld fs s) = guarded s := by
  induction fs generalizing s with
  | nil => rfl
  | cons f fs ih =>
    unfold runHeld
    split
    · rfl
    · split <;> simp [ih]

@[simp] theorem guarded_releaseHeldDram s : guarded (releaseHeldDram s) = guarded s := by simp [releaseHeldDram]
@[simp] theorem guarded_fltRead s f dst idx : guarded (fltRead s f dst idx) = guarded s := by simp [fltRead]

/-! ### The operations of Faults -/

@[simp] theorem guarded_detected s c cause a : guarded (detected s c cause a) = guarded s := by simp [detected]

@[simp] theorem guarded_staleStripe b pos s k : guarded (staleStripe b pos s k) = guarded s := by
  unfold staleStripe
  split <;> simp

@[simp] theorem guarded_stalePosition b s pos : guarded (stalePosition b s pos) = guarded s := by
  unfold stalePosition
  split <;> simp

@[simp] theorem guarded_staleStripesOf s c : guarded (staleStripesOf s c) = guarded s := by simp [staleStripesOf]

@[simp] theorem guarded_startQueued s : guarded (startQueued s) = guarded s := by
  unfold startQueued
  split
  · simp
  · split <;> simp

@[simp] theorem guarded_resetDone s r : guarded (resetDone s r) = guarded s := by simp [resetDone]

@[simp] theorem guarded_reportKnot s k : guarded (reportKnot s k) = guarded s := by
  unfold reportKnot
  split <;> simp

@[simp] theorem guarded_scan s : guarded (scan s) = guarded s := by simp [scan]
@[simp] theorem guarded_resetCoreRegs s n : guarded (resetCoreRegs s n) = guarded s := by simp [resetCoreRegs]
@[simp] theorem guarded_zeroTray s n : guarded (zeroTray s n) = guarded s := by rfl
@[simp] theorem guarded_resetCore s n : guarded (resetCore s n) = guarded s := by simp [resetCore]
@[simp] theorem guarded_tierBDone s r : guarded (tierBDone s r) = guarded s := by simp [tierBDone]
@[simp] theorem guarded_setMis s n m : guarded (setMis s n m) = guarded s := by rfl
@[simp] theorem guarded_readback s n pad : guarded (readback s n pad) = guarded s := by simp [readback]

@[simp] theorem guarded_groupEvent s g code old : guarded (groupEvent s g code old) = guarded s := by
  unfold groupEvent
  split <;> simp

@[simp] theorem guarded_restartMember g r was s c : guarded (restartMember g r was s c) = guarded s := by
  simp only [restartMember]
  (repeat' split) <;> simp

@[simp] theorem guarded_restartGroup was s g : guarded (restartGroup was s g) = guarded s := by
  unfold restartGroup
  split <;> simp

@[simp] theorem guarded_linksFail s ks : guarded (linksFail s ks) = guarded s := by simp [linksFail]
@[simp] theorem guarded_countRetries s retries : guarded (countRetries s retries) = guarded s := by rfl

@[simp] theorem guarded_forceCoarse s on : guarded (forceCoarse s on) = guarded s := by
  unfold forceCoarse
  split
  · rfl
  · refine (guarded_foldl _ (fun s g => ?_) _ _).trans (by simp)
    split
    · simp
    · split <;> simp

/-! ### The operations of Power -/

@[simp] theorem guarded_setTarget s mv : guarded (setTarget s mv) = guarded s := by rfl
@[simp] theorem guarded_startStop s n f : guarded (startStop s n f) = guarded s := by rfl
@[simp] theorem guarded_beginChange s n : guarded (beginChange s n) = guarded s := by simp [beginChange]
@[simp] theorem guarded_retarget s n : guarded (retarget s n) = guarded s := by simp [retarget]
@[simp] theorem guarded_settleVolt s : guarded (settleVolt s) = guarded s := by simp [settleVolt]
@[simp] theorem guarded_dvfsWrite s n v : guarded (dvfsWrite s n v) = guarded s := by simp [dvfsWrite]
@[simp] theorem guarded_stopEnd s n : guarded (stopEnd s n) = guarded s := by simp [stopEnd]
@[simp] theorem guarded_railReady s : guarded (railReady s) = guarded s := by simp [railReady]
@[simp] theorem guarded_readVout s mv : guarded (readVout s mv) = guarded s := by simp [readVout]

@[simp] theorem guarded_noteIout s mv a2 : guarded (noteIout s mv a2) = guarded s := by
  unfold noteIout
  split <;> simp

@[simp] theorem guarded_pmbusFail s : guarded (pmbusFail s) = guarded s := by simp [pmbusFail]
@[simp] theorem guarded_abandon s : guarded (abandon s) = guarded s := by simp [abandon]
@[simp] theorem guarded_avsWrite s on : guarded (avsWrite s on) = guarded s := by simp [avsWrite]
@[simp] theorem guarded_sample s k code : guarded (sample s k code) = guarded s := by simp [sample]
@[simp] theorem guarded_capStep s n : guarded (capStep s n) = guarded s := by simp [capStep]
@[simp] theorem guarded_capUpdate s : guarded (capUpdate s) = guarded s := by simp [capUpdate]
@[simp] theorem guarded_trip s : guarded (trip s) = guarded s := by rfl

/-! ### The operations of Startup -/

@[simp] theorem guarded_setBank s b k : guarded (setBank s b k) = guarded s := by rfl
@[simp] theorem guarded_powerDown s : guarded (powerDown s) = guarded s := by rfl
@[simp] theorem guarded_release s : guarded (release s) = guarded s := by rfl
@[simp] theorem guarded_startSl s b : guarded (startSl s b) = guarded s := by rfl
@[simp] theorem guarded_bootRom s r : guarded (bootRom s r) = guarded s := by simp [bootRom]
@[simp] theorem guarded_startRail s r : guarded (startRail s r) = guarded s := by simp [startRail]
@[simp] theorem guarded_trainFail s m : guarded (trainFail s m) = guarded s := by simp [trainFail]
@[simp] theorem guarded_fail s code : guarded (fail s code) = guarded s := by rfl
@[simp] theorem guarded_startUp s r : guarded (startUp s r) = guarded s := by simp [startUp]

/-! ### The operations of Mgmt -/

@[simp] theorem guarded_devInfo s f : guarded (devInfo s f) = guarded s := by simp [devInfo]
@[simp] theorem guarded_chargeMgmt s a n : guarded (chargeMgmt s a n) = guarded s := by simp [chargeMgmt]
@[simp] theorem guarded_fwStage s f src len bank sigOk : guarded (fwStage s f src len bank sigOk) = guarded s := by simp [fwStage]
@[simp] theorem guarded_writeSelector s f bank : guarded (writeSelector s f bank) = guarded s := by simp [writeSelector]
@[simp] theorem guarded_boardCfg s f src len cfg : guarded (boardCfg s f src len cfg) = guarded s := by simp [boardCfg]
@[simp] theorem guarded_laneReturn s f n : guarded (laneReturn s f n) = guarded s := by simp [laneReturn]
@[simp] theorem guarded_escCfg s f laneN laneS devN devS : guarded (escCfg s f laneN laneS devN devS) = guarded s := by simp [escCfg]
@[simp] theorem guarded_reserveChart s origin out pixStart x : guarded (reserveChart s origin out pixStart x) = guarded s := by rfl
@[simp] theorem guarded_colourCal s f : guarded (colourCal s f) = guarded s := by rfl
@[simp] theorem guarded_endChart s r : guarded (endChart s r) = guarded s := by rfl

@[simp] theorem guarded_fitChart s r : guarded (fitChart s r) = guarded s := by
  simp only [fitChart]
  split <;> simp

@[simp] theorem guarded_tryHandover s : guarded (tryHandover s) = guarded s := by simp [tryHandover]
@[simp] theorem guarded_fwActivate s f bank : guarded (fwActivate s f bank) = guarded s := by simp [fwActivate]

@[simp] theorem guarded_mgmtReserve i s : guarded (mgmtReserve i s) = guarded s := by
  unfold mgmtReserve
  split <;> simp

@[simp] theorem guarded_busyMgmt s f : guarded (busyMgmt s f) = guarded s := by simp [busyMgmt]
@[simp] theorem guarded_loseTierB s : guarded (loseTierB s) = guarded s := by simp [loseTierB]
@[simp] theorem guarded_startTierM s cause keep : guarded (startTierM s cause keep) = guarded s := by simp [startTierM]
@[simp] theorem guarded_swapFails s : guarded (swapFails s) = guarded s := by simp [swapFails]

/-! ### The operations of Live -/

theorem guarded_pairRead s off r (h : pairRead s off = some r) : guarded r.1 = guarded s := by
  unfold pairRead at h
  split at h
  · cases h; rfl
  · split at h
    · cases h
    · split at h
      · split at h <;> cases h <;> rfl
      · cases h

@[simp] theorem guarded_hostRead s off : guarded (hostRead s off).1 = guarded s := by
  unfold hostRead
  split
  · simp
  · split
    · rename_i r h
      exact guarded_pairRead s off r h
    · split
      · rfl
      · split
        · simp
        · split <;> simp

@[simp] theorem guarded_busRead s off len : guarded (busRead s off len) = guarded s := by simp [busRead]

/-! ### The operations of Regs -/

@[simp] theorem guarded_discard s off : guarded (discard s off) = guarded s := by rfl
@[simp] theorem guarded_plainWrite s r off v : guarded (plainWrite s r off v) = guarded s := by rfl
@[simp] theorem guarded_setWt s v : guarded (setWt s v) = guarded s := by rfl
@[simp] theorem guarded_wtSetHi s v : guarded (wtSetHi s v) = guarded s := by simp [wtSetHi]
@[simp] theorem guarded_divWrite s v : guarded (divWrite s v) = guarded s := by simp [divWrite]
@[simp] theorem guarded_shPart s v : guarded (shPart s v) = guarded s := by simp [shPart]
@[simp] theorem guarded_aptWrite s v : guarded (aptWrite s v) = guarded s := by simp [aptWrite]
@[simp] theorem guarded_spnWrite s p v : guarded (spnWrite s p v) = guarded s := by simp [spnWrite]
@[simp] theorem guarded_poolWrite s p v : guarded (poolWrite s p v) = guarded s := by simp [poolWrite]
@[simp] theorem guarded_makeAdmin s : guarded (makeAdmin s) = guarded s := by rfl
@[simp] theorem guarded_admWrite s v : guarded (admWrite s v) = guarded s := by simp [admWrite]
@[simp] theorem guarded_encClear s : guarded (encClear s) = guarded s := by rfl
@[simp] theorem guarded_tmuStatusWrite s v : guarded (tmuStatusWrite s v) = guarded s := by simp [tmuStatusWrite]
@[simp] theorem guarded_feStatusWrite s v : guarded (feStatusWrite s v) = guarded s := by rfl
@[simp] theorem guarded_shutterWrite s off v : guarded (shutterWrite s off v) = guarded s := by simp [shutterWrite]
@[simp] theorem guarded_laneWrite s off v : guarded (laneWrite s off v) = guarded s := by simp [laneWrite]
@[simp] theorem guarded_markWrite s off v : guarded (markWrite s off v) = guarded s := by simp [markWrite]
@[simp] theorem guarded_doorbell s off v : guarded (doorbell s off v) = guarded s := by simp [doorbell]

@[simp] theorem guarded_unsupportedAccess s bar off write : guarded (unsupportedAccess s bar off write) = guarded s := by
  simp [unsupportedAccess]

@[simp] theorem guarded_barAccess s a data : guarded (barAccess s a data) = guarded s := by
  unfold barAccess
  split <;> simp

@[simp] theorem guarded_bar2 s off data : guarded (bar2 s off data) = guarded s := by simp [bar2]
@[simp] theorem guarded_barErrors s a data ecc : guarded (barErrors s a data ecc) = guarded s := by simp [barErrors]
@[simp] theorem guarded_bar4 s off data : guarded (bar4 s off data) = guarded s := by simp [bar4]

/-! ### The operations of Debug -/

@[simp] theorem guarded_scanOut s v : guarded (scanOut s v) = guarded s := by rfl
@[simp] theorem guarded_setTap s c : guarded (setTap s c) = guarded s := by rfl
@[simp] theorem guarded_capturePins s : guarded (capturePins s) = guarded s := by rfl
@[simp] theorem guarded_bypass s : guarded (bypass s) = guarded s := by rfl
@[simp] theorem guarded_bscan s c f (h : ∀ s, guarded (f s) = guarded s) : guarded (bscan s c f) = guarded s := by simp [bscan, h]
@[simp] theorem guarded_challenge s : guarded (challenge s) = guarded s := by
  simp only [challenge]
  split <;> simp only [guarded_scanOut] <;> rfl

@[simp] theorem guarded_dbgResult s code data : guarded (dbgResult s code data) = guarded s := by rfl
@[simp] theorem guarded_dbgOk s : guarded (dbgOk s) = guarded s := by rfl
@[simp] theorem guarded_badAddr s : guarded (badAddr s) = guarded s := by rfl

@[simp] theorem guarded_dbgCmd s level f (h : ∀ s, guarded (f s) = guarded s) : guarded (dbgCmd s level f) = guarded s := by
  simp [dbgCmd, h]

@[simp] theorem guarded_rdMem s a : guarded (rdMem s a) = guarded s := by simp [rdMem]
@[simp] theorem guarded_rdFree s : guarded (rdFree s) = guarded s := by rfl

@[simp] theorem guarded_rd32 s a : guarded (rd32 s a) = guarded s := by
  unfold rd32
  (repeat' split) <;> simp

@[simp] theorem guarded_wrMem s a v : guarded (wrMem s a v) = guarded s := by rfl
@[simp] theorem guarded_haltSl s : guarded (haltSl s) = guarded s := by rfl
@[simp] theorem guarded_slHalt s : guarded (slHalt s) = guarded s := by simp [slHalt]
@[simp] theorem guarded_slStep s : guarded (slStep s) = guarded s := by simp [slStep]
@[simp] theorem guarded_softHalt s n : guarded (softHalt s n) = guarded s := by simp [softHalt]
@[simp] theorem guarded_hardHalt s n : guarded (hardHalt s n) = guarded s := by simp [hardHalt]
@[simp] theorem guarded_coreStep s n c : guarded (coreStep s n c) = guarded s := by simp [coreStep]
@[simp] theorem guarded_coreResume s n : guarded (coreResume s n) = guarded s := by rfl

@[simp] theorem guarded_smbRead s code : guarded (smbRead s code) = guarded s := by
  unfold smbRead
  split
  · simp
  · rename_i off _
    have h := guarded_hostRead s off
    simp only [guarded, Prod.mk.injEq] at h ⊢
    exact ⟨h.1, h.2.1, trivial⟩

/-! ### The operations of Objects -/

@[simp] theorem guarded_writeGroup s n o v : guarded (writeGroup s n o v) = guarded s := by simp [writeGroup]
@[simp] theorem guarded_dropObj s n key : guarded (dropObj s n key) = guarded s := by rfl

@[simp] theorem guarded_deadlineFirst s o : guarded (deadlineFirst s o) = guarded s := by
  unfold deadlineFirst
  split <;> simp

@[simp] theorem guarded_entryAction s n o a : guarded (entryAction s n o a) = guarded s := by
  unfold entryAction
  split <;> simp

@[simp] theorem guarded_post s n o v : guarded (post s n o v) = guarded s := by
  simp only [post]
  split <;> simp

@[simp] theorem guarded_mismatchEvent s n v : guarded (mismatchEvent s n v) = guarded s := by simp [mismatchEvent]
@[simp] theorem guarded_postWith s n o v b : guarded (postWith s n o v b) = guarded s := by simp [postWith]
@[simp] theorem guarded_postNoOutcome s n o b : guarded (postNoOutcome s n o b) = guarded s := by simp [postNoOutcome]

@[simp] theorem guarded_openWin n o s i : guarded (openWin n o s i) = guarded s := by
  unfold openWin
  split <;> simp

@[simp] theorem guarded_openWins s n o : guarded (openWins s n o) = guarded s := by simp [openWins]
@[simp] theorem guarded_overrun s n o b : guarded (overrun s n o b) = guarded s := by simp [overrun]

@[simp] theorem guarded_makeObj s n c origin tf deg synth b : guarded (makeObj s n c origin tf deg synth b) = guarded s := by
  simp only [makeObj]
  split <;> simp

@[simp] theorem guarded_acquired s n origin : guarded (acquired s n origin) = guarded s := by simp [acquired]

@[simp] theorem guarded_objectRegister s n origin tf c old deg b : guarded (objectRegister s n origin tf c old deg b) = guarded s := by
  simp [objectRegister]

@[simp] theorem guarded_lostRegister s n pred c old : guarded (lostRegister s n pred c old) = guarded s := by simp [lostRegister]
@[simp] theorem guarded_windowClose s n pred c old b : guarded (windowClose s n pred c old b) = guarded s := by simp [windowClose]

@[simp] theorem guarded_fieldMatch s n o i c d : guarded (fieldMatch s n o i c d) = guarded s := by
  unfold fieldMatch
  split <;> simp

/-! ### The operations of Parity -/

@[simp] theorem guarded_coreParity s n : guarded (coreParity s n) = guarded s := by simp [coreParity]
@[simp] theorem guarded_unitParity s c : guarded (unitParity s c) = guarded s := by simp [unitParity]
@[simp] theorem guarded_captionParity s c : guarded (captionParity s c) = guarded s := by simp [captionParity]

@[simp] theorem guarded_codeParity s : guarded (codeParity s) = guarded s := by
  simp only [codeParity]
  split <;> simp

@[simp] theorem guarded_devParity s p : guarded (devParity s p) = guarded s := by
  simp only [devParity]
  split <;> simp

@[simp] theorem guarded_parity s block n : guarded (parity s block n) = guarded s := by
  unfold parity
  split <;> simp

/-! ### The operations of Tick -/

@[simp] theorem guarded_tick s : guarded (tick s) = guarded s := by simp [tick]

/-- The state that a command answers. -/
def outcome (s : State) : Res → State
  | .next t => t
  | .fault _ | .refused _ => s

@[simp] theorem outcome_next (s t : State) : outcome s (.next t) = t := by rfl

/-! ### What may lower the debug lock (R4, R355): a reset, a power-up, tier C and DBG_CTRL -/

/-- The queue and the fuses as they were, and the debug lock no higher. -/
def Keeps (g h : List Instr × Fuse × Nat) : Prop := h.1 = g.1 ∧ h.2.1 = g.2.1 ∧ h.2.2 ≤ g.2.2

/-- The lock is LOCKED. -/
def lowered (g : List Instr × Fuse × Nat) : List Instr × Fuse × Nat := (g.1, g.2.1, 0)

@[simp] theorem keeps_refl (g) : Keeps g g := ⟨rfl, rfl, Nat.le_refl _⟩
@[simp] theorem keeps_lowered (g) : Keeps g (lowered g) := ⟨rfl, rfl, Nat.zero_le _⟩

theorem Keeps.trans {a b c} (h : Keeps a b) (k : Keeps b c) : Keeps a c :=
  ⟨k.1.trans h.1, k.2.1.trans h.2.1, Nat.le_trans k.2.2 h.2.2⟩

@[simp] theorem keeps_ite (c : Prop) [Decidable c] (g a b) :
    Keeps g (if c then a else b) ↔ (c → Keeps g a) ∧ (¬c → Keeps g b) := by
  split <;> simp_all

@[simp] theorem guarded_powerUp (s : State) : guarded (powerUp s) = lowered (guarded s) := by rfl
@[simp] theorem guarded_perst (s : State) : guarded (perst s) = lowered (guarded s) := by rfl
@[simp] theorem guarded_tierC (s : State) : guarded (tierC s) = lowered (guarded s) := by rfl

@[simp] theorem guarded_recoverC (s : State) (f : Flight) : guarded (recoverC s f) = lowered (guarded s) := by
  simp [recoverC]

@[simp] theorem keeps_mgmtBody {g} (i : Instr) (s : State) (f : Flight) (h : guarded s = g) : Keeps g (guarded (mgmtBody i s f)) := by
  subst h
  unfold mgmtBody
  split
  case h_6 => simp [devRecover]
  all_goals simp

@[simp] theorem keeps_acceptMgmt (i : Instr) (s : State) (f : Flight) : Keeps (guarded s) (guarded (acceptMgmt i s f)) := by
  unfold acceptMgmt
  split
  · simp
  · split <;> simp

@[simp] theorem keeps_takeMgmt (s : State) (e : Flight × Instr) : Keeps (guarded s) (guarded (takeMgmt s e)) := by
  simp [takeMgmt]

@[simp] theorem keeps_drainMgmt (es : List (Flight × Instr)) (s : State) : Keeps (guarded s) (guarded (drainMgmt es s)) := by
  induction es generalizing s with
  | nil => exact keeps_refl _
  | cons e es ih =>
    unfold drainMgmt
    split
    · exact (keeps_takeMgmt s e).trans (ih _)
    · simp

@[simp] theorem keeps_drain {g} (s : State) (h : guarded s = g) : Keeps g (guarded (drain s)) := by
  subst h
  simp [drain]

@[simp] theorem keeps_resumeSl {g} (s : State) (h : guarded s = g) : Keeps g (guarded (resumeSl s)) := by
  subst h
  simp [resumeSl]

theorem guarded_windowWrite (s : State) (off : Nat) (v : Word) : ∀ t, windowWrite s off v = some t → guarded t = guarded s := by
  unfold windowWrite
  (repeat' split) <;> simp

@[simp] theorem keeps_dbgCtrl (s : State) (v : Word) : Keeps (guarded s) (guarded (dbgCtrl s v)) := by
  refine ⟨rfl, rfl, ?_⟩
  simp only [dbgCtrl, guarded]
  split
  · exact Nat.zero_le _
  · exact Nat.le_refl _

theorem forall_eq_some_ite {α : Type} (c : Prop) [Decidable c] (a b : Option α) (p : α → Prop) :
    (∀ t, (if c then a else b) = some t → p t) ↔ (c → ∀ t, a = some t → p t) ∧ (¬c → ∀ t, b = some t → p t) := by
  split <;> simp_all

theorem keeps_special (s : State) (off : Nat) (v : Word) : ∀ t, special s off v = some t → Keeps (guarded s) (guarded t) := by
  simp [special, forall_eq_some_ite]

@[simp] theorem keeps_hostWrite (s : State) (off : Nat) (v : Word) : Keeps (guarded s) (guarded (hostWrite s off v)) := by
  unfold hostWrite
  split
  · simp
  · split
    · simp [guarded_windowWrite s off v _ ‹_›]
    · split
      · simp
      · split
        · exact keeps_special s off v _ ‹_›
        · split <;> simp

@[simp] theorem keeps_accept (s : State) (c op chk body) (h : ∀ s f, Keeps (guarded s) (guarded (body s f))) :
    Keeps (guarded s) (guarded (accept s c op chk body)) := by
  simp only [accept]
  split
  · simp [h]
  · split
    · split
      · simp
      · have h := h (advanceHead s c.sq)
        simp only [guarded_advanceHead] at h
        split <;> simp [h]
    · simp

@[simp] theorem keeps_dbgCmd (s : State) (level : Nat) (f : State → State) (h : ∀ s, Keeps (guarded s) (guarded (f s))) :
    Keeps (guarded s) (guarded (dbgCmd s level f)) := by
  have h := h (setTap s 0x20)
  simp only [guarded_setTap] at h
  simp [dbgCmd, h]

@[simp] theorem keeps_wr32 (s : State) (a v : Nat) : Keeps (guarded s) (guarded (wr32 s a v)) := by
  simp [wr32]

@[simp] theorem keeps_slResume (s : State) : Keeps (guarded s) (guarded (slResume s)) := by
  simp [slResume]

@[simp] theorem keeps_swapDone (s : State) (b : Nat) : Keeps (guarded s) (guarded (swapDone s b)) := by
  simp [swapDone]

theorem keeps_of_eq {g h : List Instr × Fuse × Nat} (e : h = g) : Keeps g h := e ▸ keeps_refl _

@[simp] theorem keeps_finishStart (s : State) (r : BootReport) : Keeps (guarded s) (guarded (finishStart s r)) := by
  simp [finishStart]

/-- The lock set to LOCKED. -/
@[simp] theorem guarded_lock (s : State) : guarded { s with dbg := { s.dbg with lock := 0 } } = lowered (guarded s) := by rfl

/-- The commands that may raise SVN_MIN or the level of the debug lock. -/
def mayRaise : Instr → Bool
  | .svnRaise _ | .dbgResponse _ _ => true
  | _ => false

/-! ### The commands -/

theorem keeps_execFwSwapTimeout s : Keeps (guarded s) (guarded (outcome s (execFwSwapTimeout s))) := by
  simp only [execFwSwapTimeout, outcome_next]
  split <;> simp

theorem keeps_execTierBComplete s : Keeps (guarded s) (guarded (outcome s (execTierBComplete s))) := by
  simp only [execTierBComplete, outcome_next]
  split <;> simp

theorem keeps_execColourCalFit s : Keeps (guarded s) (guarded (outcome s (execColourCalFit s))) := by
  simp only [execColourCalFit, outcome_next]
  split <;> simp

theorem keeps_execLaneStart c start lane s : Keeps (guarded s) (guarded (outcome s (execLaneStart c start lane s))) := by
  simp only [execLaneStart, outcome_next]
  refine keeps_of_eq (guarded_accept s _ _ _ _ fun s f => ?_)
  (repeat' split) <;> simp

theorem keeps_execPbPause c s : Keeps (guarded s) (guarded (outcome s (execPbPause c s))) := by
  simp only [execPbPause, outcome_next]
  refine keeps_of_eq (guarded_accept s _ _ _ _ fun s f => ?_)
  (repeat' split) <;> simp

theorem keeps_execRingGroupClose c group s : Keeps (guarded s) (guarded (outcome s (execRingGroupClose c group s))) := by
  simp only [execRingGroupClose, outcome_next]
  refine keeps_of_eq (guarded_accept s _ _ _ _ fun s f => ?_)
  split <;> simp

theorem keeps_execRqDelete c rq s : Keeps (guarded s) (guarded (outcome s (execRqDelete c rq s))) := by
  simp only [execRqDelete, outcome_next]
  refine keeps_of_eq (guarded_accept s _ _ _ _ fun s f => ?_)
  split <;> simp

theorem keeps_execAdaptEvalComplete ad res s : Keeps (guarded s) (guarded (outcome s (execAdaptEvalComplete ad res s))) := by
  simp only [execAdaptEvalComplete, outcome_next]
  split <;> simp

theorem keeps_execSampleResolve ad slot res s : Keeps (guarded s) (guarded (outcome s (execSampleResolve ad slot res s))) := by
  simp only [execSampleResolve, outcome_next]
  split <;> simp

theorem keeps_execBatchClose ad s : Keeps (guarded s) (guarded (outcome s (execBatchClose ad s))) := by
  simp only [execBatchClose, outcome_next]
  split <;> simp

theorem keeps_execRqHoldTimer rq s : Keeps (guarded s) (guarded (outcome s (execRqHoldTimer rq s))) := by
  simp only [execRqHoldTimer, outcome_next]
  (repeat' split) <;> simp

theorem keeps_execGemm ctx s : Keeps (guarded s) (guarded (outcome s (execGemm ctx s))) := by
  simp only [execGemm, outcome_next]
  refine keeps_of_eq (guarded_dispatch s _ _ _ fun s k op => ?_)
  split <;> simp

theorem keeps_execAttn ctx s : Keeps (guarded s) (guarded (outcome s (execAttn ctx s))) := by
  simp only [execAttn, outcome_next]
  refine keeps_of_eq (guarded_dispatch s _ _ _ fun s k op => ?_)
  split <;> simp

theorem keeps_execRingBarrierComplete group s : Keeps (guarded s) (guarded (outcome s (execRingBarrierComplete group s))) := by
  simp only [execRingBarrierComplete, outcome_next]
  (repeat' split) <;> simp

theorem keeps_execDma ctx fetch tile s : Keeps (guarded s) (guarded (outcome s (execDma ctx fetch tile s))) := by
  simp only [execDma, outcome_next]
  refine keeps_of_eq (guarded_dispatch s _ _ _ fun s k op => ?_)
  (repeat' split) <;> simp

theorem keeps_execWaitMark ctx s : Keeps (guarded s) (guarded (outcome s (execWaitMark ctx s))) := by
  simp only [execWaitMark, outcome_next]
  refine keeps_of_eq (guarded_dispatch s _ _ _ fun s k op => ?_)
  split <;> simp

theorem keeps_execSignalMark ctx s : Keeps (guarded s) (guarded (outcome s (execSignalMark ctx s))) := by
  simp only [execSignalMark, outcome_next]
  refine keeps_of_eq (guarded_dispatch s _ _ _ fun s k op => ?_)
  split <;> simp

theorem keeps_execBranchOnCount ctx s : Keeps (guarded s) (guarded (outcome s (execBranchOnCount ctx s))) := by
  simp only [execBranchOnCount, outcome_next]
  refine keeps_of_eq (guarded_dispatch s _ _ _ fun s k op => ?_)
  (repeat' split) <;> simp

theorem keeps_execDescComplete core unit clocks map ecc s :
    Keeps (guarded s) (guarded (outcome s (execDescComplete core unit clocks map ecc s))) := by
  simp only [execDescComplete, outcome_next]
  (repeat' split) <;> simp

theorem keeps_execFieldMatch lane key field ctx s : Keeps (guarded s) (guarded (outcome s (execFieldMatch lane key field ctx s))) := by
  simp only [execFieldMatch, outcome_next]
  split <;> simp

theorem keeps_execObjectRegister lane origin tf det copyB s :
    Keeps (guarded s) (guarded (outcome s (execObjectRegister lane origin tf det copyB s))) := by
  simp only [execObjectRegister, outcome_next]
  (repeat' split) <;> simp

theorem keeps_execSearchWindowClose lane copyB s : Keeps (guarded s) (guarded (outcome s (execSearchWindowClose lane copyB s))) := by
  simp only [execSearchWindowClose, outcome_next]
  (repeat' split) <;> simp

theorem keeps_execVerdictPost lane key copyB s : Keeps (guarded s) (guarded (outcome s (execVerdictPost lane key copyB s))) := by
  simp only [execVerdictPost, outcome_next]
  split <;> simp

theorem keeps_execRasterRowWrite ovf fills s : Keeps (guarded s) (guarded (outcome s (execRasterRowWrite ovf fills s))) := by
  simp only [execRasterRowWrite, outcome_next]
  (repeat' split) <;> simp

theorem keeps_execStripeRowWrite buf s : Keeps (guarded s) (guarded (outcome s (execStripeRowWrite buf s))) := by
  simp only [execStripeRowWrite, outcome_next]
  (repeat' split) <;> simp

theorem keeps_execStripeRelease buf pos s : Keeps (guarded s) (guarded (outcome s (execStripeRelease buf pos s))) := by
  simp only [execStripeRelease, outcome_next]
  split <;> simp

theorem keeps_execWhiteTrackUpdate s : Keeps (guarded s) (guarded (outcome s (execWhiteTrackUpdate s))) := by
  simp only [execWhiteTrackUpdate, outcome_next]
  split <;> simp

theorem keeps_execDecodePictureDone pipe pic bytes s :
    Keeps (guarded s) (guarded (outcome s (execDecodePictureDone pipe pic bytes s))) := by
  simp only [execDecodePictureDone, outcome_next]
  (repeat' split) <;> simp

theorem keeps_execAuxLate pipe bytes s : Keeps (guarded s) (guarded (outcome s (execAuxLate pipe bytes s))) := by
  simp only [execAuxLate, outcome_next]
  (repeat' split) <;> simp

theorem keeps_execRefRepair job tile rd s : Keeps (guarded s) (guarded (outcome s (execRefRepair job tile rd s))) := by
  simp only [execRefRepair, outcome_next]
  (repeat' split) <;> simp

theorem keeps_execCodeRequestDone r s : Keeps (guarded s) (guarded (outcome s (execCodeRequestDone r s))) := by
  simp only [execCodeRequestDone, outcome_next]
  split <;> simp

theorem keeps_execContextResetComplete ctx s : Keeps (guarded s) (guarded (outcome s (execContextResetComplete ctx s))) := by
  simp only [execContextResetComplete, outcome_next]
  split <;> simp

theorem keeps_execFwSwapComplete ok s : Keeps (guarded s) (guarded (outcome s (execFwSwapComplete ok s))) := by
  simp only [execFwSwapComplete, outcome_next]
  split <;> simp

theorem keeps_execLineStartTimeout port s : Keeps (guarded s) (guarded (outcome s (execLineStartTimeout port s))) := by
  simp only [execLineStartTimeout, outcome_next]
  (repeat' split) <;> simp

theorem keeps_execDevDecodeErr pipe err bytes s : Keeps (guarded s) (guarded (outcome s (execDevDecodeErr pipe err bytes s))) := by
  simp only [execDevDecodeErr, outcome_next]
  split <;> simp

/-- What every command but SVN_RAISE and a debug response keeps. -/
theorem exec_keeps (i : Instr) (s : State) (h : mayRaise i = false) : Keeps (guarded s) (guarded (outcome s (exec i s))) := by
  cases i with
  | devInfo => simp [exec, execDevInfo]
  | fwStage => simp [exec, execFwStage]
  | fwActivate => simp [exec, execFwActivate]
  | fwSwapTimeout => exact keeps_execFwSwapTimeout s
  | bootBank => simp [exec, execBootBank]
  | boardCfg => simp [exec, execBoardCfg]
  | devRecover => simp [exec, execDevRecover]
  | tierBComplete => exact keeps_execTierBComplete s
  | tierCComplete => simp [exec, execTierCComplete]
  | laneRestore => simp [exec, execLaneRestore]
  | escCfg => simp [exec, execEscCfg]
  | colourCal => simp [exec, execColourCal]
  | colourCalFit => exact keeps_execColourCalFit s
  | jobLoad => simp [exec, execJobLoad]
  | jobLoadComplete => simp [exec, execJobLoadComplete]
  | jobUnload => simp [exec, execJobUnload]
  | laneStart c start lane => exact keeps_execLaneStart c start lane s
  | laneStop => simp [exec, execLaneStop]
  | laneSetVar => simp [exec, execLaneSetVar]
  | vocabLoad => simp [exec, execVocabLoad]
  | vocabUnload => simp [exec, execVocabUnload]
  | capTokenize => simp [exec, execCapTokenize]
  | streamOpen => simp [exec, execStreamOpen]
  | streamFeed => simp [exec, execStreamFeed]
  | streamClose => simp [exec, execStreamClose]
  | streamFlushDone => simp [exec, execStreamFlushDone]
  | trigArm => simp [exec, execTrigArm]
  | trigStop => simp [exec, execTrigStop]
  | feRefCapture => simp [exec, execFeRefCapture]
  | feRefApply => simp [exec, execFeRefApply]
  | pbStart => simp [exec, execPbStart]
  | pbPause c => exact keeps_execPbPause c s
  | pbResume => simp [exec, execPbResume]
  | pbLineStep => simp [exec, execPbLineStep]
  | pbRunEnd => simp [exec, execPbRunEnd]
  | ctxOpen => simp [exec, execCtxOpen]
  | ctxLaunch => simp [exec, execCtxLaunch]
  | ctxStop => simp [exec, execCtxStop]
  | ctxResume => simp [exec, execCtxResume]
  | ctxClose => simp [exec, execCtxClose]
  | ctxAbort => simp [exec, execCtxAbort]
  | seqOpen => simp [exec, execSeqOpen]
  | seqClose => simp [exec, execSeqClose]
  | ptEdit => simp [exec, execPtEdit]
  | ringGroupOpen => simp [exec, execRingGroupOpen]
  | ringGroupClose c group => exact keeps_execRingGroupClose c group s
  | markSignal => simp [exec, execMarkSignal]
  | sqCreate => simp [exec, execSqCreate]
  | sqDelete => simp [exec, execSqDelete]
  | cqCreate => simp [exec, execCqCreate]
  | cqDelete => simp [exec, execCqDelete]
  | rqCreate => simp [exec, execRqCreate]
  | rqDelete c rq => exact keeps_execRqDelete c rq s
  | dmaCopy => simp [exec, execDmaCopy]
  | memFill => simp [exec, execMemFill]
  | adaptOpen => simp [exec, execAdaptOpen]
  | adaptConfirm => simp [exec, execAdaptConfirm]
  | adaptSample => simp [exec, execAdaptSample]
  | adaptRun => simp [exec, execAdaptRun]
  | adaptPause => simp [exec, execAdaptPause]
  | adaptEval => simp [exec, execAdaptEval]
  | adaptEvalComplete ad res => exact keeps_execAdaptEvalComplete ad res s
  | adaptCommit => simp [exec, execAdaptCommit]
  | adaptClose => simp [exec, execAdaptClose]
  | sampleResolve ad slot res => exact keeps_execSampleResolve ad slot res s
  | batchClose ad => exact keeps_execBatchClose ad s
  | fltRead => simp [exec, execFltRead]
  | nop => simp [exec, execNop]
  | sqTailDoorbell => simp [exec, execSqTailDoorbell]
  | cqHeadDoorbell => simp [exec, execCqHeadDoorbell]
  | rqHeadDoorbell => simp [exec, execRqHeadDoorbell]
  | rqHoldTimer rq => exact keeps_execRqHoldTimer rq s
  | gemm ctx => exact keeps_execGemm ctx s
  | convTap => simp [exec, execConvTap]
  | pool => simp [exec, execPool]
  | vec => simp [exec, execVec]
  | attn ctx => exact keeps_execAttn ctx s
  | ringBarrierComplete group => exact keeps_execRingBarrierComplete group s
  | dma ctx fetch tile => exact keeps_execDma ctx fetch tile s
  | waitMark ctx => exact keeps_execWaitMark ctx s
  | signalMark ctx => exact keeps_execSignalMark ctx s
  | branchOnCount ctx => exact keeps_execBranchOnCount ctx s
  | descComplete core unit clocks map ecc => exact keeps_execDescComplete core unit clocks map ecc s
  | detokeniseToken => simp [exec, execDetokeniseToken]
  | fieldMatch lane key field ctx => exact keeps_execFieldMatch lane key field ctx s
  | encoderForwardCount => simp [exec, execEncoderForwardCount]
  | encoderReverseCount => simp [exec, execEncoderReverseCount]
  | encZEdge => simp [exec, execEncZEdge]
  | encIllegalTransition => simp [exec, execEncIllegalTransition]
  | shutterArm => simp [exec, execShutterArm]
  | markerPulseFire => simp [exec, execMarkerPulseFire]
  | markerAssert => simp [exec, execMarkerAssert]
  | markerDeassert => simp [exec, execMarkerDeassert]
  | markerReadback => simp [exec, execMarkerReadback]
  | stepFire => simp [exec, execStepFire]
  | lineTrigFire => simp [exec, execLineTrigFire]
  | ctxLaunchFire => simp [exec, execCtxLaunchFire]
  | laneStartLine => simp [exec, execLaneStartLine]
  | laneStopLine => simp [exec, execLaneStopLine]
  | deadlineFire => simp [exec, execDeadlineFire]
  | spanFire => simp [exec, execSpanFire]
  | objectRegister lane origin tf det copyB => exact keeps_execObjectRegister lane origin tf det copyB s
  | searchWindowClose lane copyB => exact keeps_execSearchWindowClose lane copyB s
  | verdictPost lane key copyB => exact keeps_execVerdictPost lane key copyB s
  | dupMismatch => simp [exec, execDupMismatch]
  | stripLineReceive => simp [exec, execStripLineReceive]
  | rasterRowWrite ovf fills => exact keeps_execRasterRowWrite ovf fills s
  | stripeRowWrite buf => exact keeps_execStripeRowWrite buf s
  | stripeRelease buf pos => exact keeps_execStripeRelease buf pos s
  | whiteTrackUpdate => exact keeps_execWhiteTrackUpdate s
  | stripCrcError => simp [exec, execStripCrcError]
  | stripLinkDown => simp [exec, execStripLinkDown]
  | stripLinkRelock => simp [exec, execStripLinkRelock]
  | sysrefEdge => simp [exec, execSysrefEdge]
  | decodePictureDone pipe pic bytes => exact keeps_execDecodePictureDone pipe pic bytes s
  | auxLate pipe bytes => exact keeps_execAuxLate pipe bytes s
  | frameDequeue => simp [exec, execFrameDequeue]
  | refRepair job tile rd => exact keeps_execRefRepair job tile rd s
  | codeRequestStart => simp [exec, execCodeRequestStart]
  | codeRequestDone r => exact keeps_execCodeRequestDone r s
  | refreshSlot => simp [exec, execRefreshSlot]
  | dramHotChange => simp [exec, execDramHotChange]
  | caParityAlert => simp [exec, execCaParityAlert]
  | wrCrcAlert => simp [exec, execWrCrcAlert]
  | patrolScrub => simp [exec, execPatrolScrub]
  | neighbourRefresh => simp [exec, execNeighbourRefresh]
  | ringLinkDown => simp [exec, execRingLinkDown]
  | halyardScan => simp [exec, execHalyardScan]
  | watchdogExpiry => simp [exec, execWatchdogExpiry]
  | contextFault => simp [exec, execContextFault]
  | contextResetComplete ctx => exact keeps_execContextResetComplete ctx s
  | safelightWdog => simp [exec, execSafelightWdog]
  | safelightLockstep => simp [exec, execSafelightLockstep]
  | tierMComplete => simp [exec, execTierMComplete]
  | hoistPeriodBoundary => simp [exec, execHoistPeriodBoundary]
  | thermalCapUpdate => simp [exec, execThermalCapUpdate]
  | tempSensorSample => simp [exec, execTempSensorSample]
  | thermtrip => simp [exec, execThermtrip]
  | dvfsStopEnd => simp [exec, execDvfsStopEnd]
  | avsTimeout => simp [exec, execAvsTimeout]
  | pwrokRise => simp [exec, execPwrokRise]
  | pwrokFall => simp [exec, execPwrokFall]
  | perstAssert => simp [exec, execPerstAssert]
  | perstRelease => simp [exec, execPerstRelease]
  | deviceReady => simp [exec, execDeviceReady]
  | smbusBlockRead => simp [exec, execSmbusBlockRead]
  | extest => simp [exec, execExtest]
  | idcode => simp [exec, execIdcode]
  | samplePreload => simp [exec, execSamplePreload]
  | clamp => simp [exec, execClamp]
  | highz => simp [exec, execHighz]
  | bypass => simp [exec, execBypass]
  | dbgChallenge => simp [exec, execDbgChallenge]
  | dbgResponse => cases h
  | rd32 => simp [exec, execRd32]
  | wr32 => simp [exec, execWr32]
  | slHalt => simp [exec, execSlHalt]
  | slResume => simp [exec, execSlResume]
  | slStep => simp [exec, execSlStep]
  | slBp => simp [exec, execSlBp]
  | slWp => simp [exec, execSlWp]
  | slBreakHit => simp [exec, execSlBreakHit]
  | slReg => simp [exec, execSlReg]
  | coreHalt => simp [exec, execCoreHalt]
  | coreHaltDrained => simp [exec, execCoreHaltDrained]
  | coreHardHalt => simp [exec, execCoreHardHalt]
  | coreStep => simp [exec, execCoreStep]
  | coreStepTimeout => simp [exec, execCoreStepTimeout]
  | coreResume => simp [exec, execCoreResume]
  | lock => simp [exec, execLock]
  | svnRaise => cases h
  | tmuWtSetHiWrite => simp [exec, execTmuWtSetHiWrite]
  | tmuDivWrite => simp [exec, execTmuDivWrite]
  | tmuShPartWrite => simp [exec, execTmuShPartWrite]
  | pcieAptBaseWrite => simp [exec, execPcieAptBaseWrite]
  | spnCfgEnable => simp [exec, execSpnCfgEnable]
  | drkSbEnable => simp [exec, execDrkSbEnable]
  | kvmPoolEnable => simp [exec, execKvmPoolEnable]
  | hstCommit => simp [exec, execHstCommit]
  | forceCoarseWrite => simp [exec, execForceCoarseWrite]
  | ennDvfsWrite => simp [exec, execEnnDvfsWrite]
  | mgtAvsWrite => simp [exec, execMgtAvsWrite]
  | markWindowHiWrite => simp [exec, execMarkWindowHiWrite]
  | fltMkHoldClear => simp [exec, execFltMkHoldClear]
  | dbgCtrlLock => simp [exec, execDbgCtrlLock]
  | dbgCtrlDeny => simp [exec, execDbgCtrlDeny]
  | regReadLoLatch => simp [exec, execRegReadLoLatch]
  | registerWrite => simp [exec, execRegisterWrite]
  | unsupportedAccess => simp [exec, execUnsupportedAccess]
  | bar2Access => simp [exec, execBar2Access]
  | bar4Access => simp [exec, execBar4Access]
  | controlStateParity => simp [exec, execControlStateParity]
  | firmwareHeartbeat => simp [exec, execFirmwareHeartbeat]
  | fwSwapComplete ok => exact keeps_execFwSwapComplete ok s
  | pmbusTransfer => simp [exec, execPmbusTransfer]
  | lineStartTimeout port => exact keeps_execLineStartTimeout port s
  | devDecodeErr pipe err bytes => exact keeps_execDevDecodeErr pipe err bytes s

/-! ### SVN_RAISE, the response of a debugger, and the statement -/

/-- SVN_RAISE moves SVN_MIN up and leaves the rest (R348). -/
theorem guarded_svnRaise (s : State) (v : Nat) :
    ∃ n, s.fuse.svnMin ≤ n ∧ guarded (svnRaise s v) = (s.pending, { s.fuse with svnMin := n }, s.dbg.lock) := by
  unfold svnRaise
  split
  · exact ⟨_, Nat.le_refl _, by simp only [guarded_badAddr]; rfl⟩
  · rename_i h
    exact ⟨v, by omega, rfl⟩

theorem guarded_execSvnRaise (s : State) (v : Nat) :
    ∃ n, s.fuse.svnMin ≤ n ∧ guarded (outcome s (execSvnRaise v s)) = (s.pending, { s.fuse with svnMin := n }, s.dbg.lock) := by
  simp only [execSvnRaise, outcome_next, dbgCmd]
  split
  · exact ⟨_, Nat.le_refl _, rfl⟩
  · split
    · exact ⟨_, Nat.le_refl _, rfl⟩
    · split
      · exact ⟨_, Nat.le_refl _, rfl⟩
      · exact guarded_svnRaise (setTap s 0x20) (v % 256)

/-- A response sets the lock's level only if it is valid and DENY is clear (R355). -/
theorem guarded_response (s : State) (level : Nat) (valid : Bool) :
    guarded (response s level valid) = guarded s ∨
      valid = true ∧ s.dbg.deny = false ∧ guarded (response s level valid) = (s.pending, s.fuse, level) := by
  simp only [response]
  split
  · rename_i h
    simp only [Bool.and_eq_true, Bool.not_eq_true'] at h
    obtain ⟨⟨⟨-, hv⟩, hd⟩, -⟩ := h
    exact .inr ⟨hv, hd, by simp only [guarded_flag]; rfl⟩
  · exact .inl (by simp)

/-- All that a command can do to the queue, the fuses and the lock's level. -/
theorem exec_guarded_cases (i : Instr) (s t : State) (h : exec i s = .next t) :
    Keeps (guarded s) (guarded t) ∨
    (∃ n, s.fuse.svnMin ≤ n ∧ guarded t = (s.pending, { s.fuse with svnMin := n }, s.dbg.lock)) ∨
    (∃ l, i = .dbgResponse l true ∧ s.dbg.deny = false ∧ guarded t = (s.pending, s.fuse, l)) := by
  obtain rfl : outcome s (exec i s) = t := by rw [h]; rfl
  cases hi : mayRaise i with
  | false => exact .inl (exec_keeps i s hi)
  | true =>
    unfold mayRaise at hi
    split at hi
    · rename_i v
      exact .inr (.inl (guarded_execSvnRaise s v))
    · rename_i l valid
      by_cases hp : powered s = true
      · simp only [exec, execDbgResponse, outcome_next, hp, if_true]
        rcases guarded_response s l valid with hg | ⟨rfl, hd, hg⟩
        · exact .inl (keeps_of_eq hg)
        · exact .inr (.inr ⟨l, rfl, hd, hg⟩)
      · exact .inl (by simp [exec, execDbgResponse, hp])
    · cases hi

theorem exec_pending (i : Instr) (s t : State) (h : exec i s = .next t) : t.pending = s.pending := by
  rcases exec_guarded_cases i s t h with ⟨hk, -, -⟩ | ⟨n, -, hg⟩ | ⟨l, -, -, hg⟩
  · exact hk
  · exact congrArg Prod.fst hg
  · exact congrArg Prod.fst hg

theorem exec_fuse (i : Instr) (s t : State) (h : exec i s = .next t) :
    t.fuse = { s.fuse with svnMin := t.fuse.svnMin } ∧ s.fuse.svnMin ≤ t.fuse.svnMin := by
  have same (hf : t.fuse = s.fuse) : t.fuse = { s.fuse with svnMin := t.fuse.svnMin } ∧ s.fuse.svnMin ≤ t.fuse.svnMin := by
    simp [hf]
  rcases exec_guarded_cases i s t h with ⟨-, hk, -⟩ | ⟨n, hn, hg⟩ | ⟨l, -, -, hg⟩
  · exact same hk
  · have hf : t.fuse = { s.fuse with svnMin := n } := congrArg (·.2.1) hg
    rw [hf]
    exact ⟨rfl, hn⟩
  · exact same (congrArg (·.2.1) hg)

theorem exec_lock (i : Instr) (s t : State) (h : exec i s = .next t) (hl : s.dbg.lock < t.dbg.lock) :
    ∃ n, i = .dbgResponse n true ∧ s.dbg.deny = false := by
  rcases exec_guarded_cases i s t h with ⟨-, -, hk⟩ | ⟨n, -, hg⟩ | ⟨l, hi, hd, -⟩
  · exact absurd hl (Nat.not_lt.mpr hk)
  · have hk : t.dbg.lock = s.dbg.lock := congrArg (·.2.2) hg
    omega
  · exact ⟨l, hi, hd⟩

theorem step_pending (s t : State) (h : step s = .next t) : t.pending = s.pending.tail := by
  unfold step at h
  split at h
  · rename_i hp
    cases h
    rw [hp]
    exact (congrArg Prod.fst (guarded_tick s)).trans hp
  · rename_i c l hp
    rw [hp, exec_pending c _ t h, List.tail_cons]

/-- Settles O60, from what the functions of the model guard and the two commands that raise something. -/
theorem protectedState : Obligations.ProtectedState :=
  ⟨step_pending, exec_fuse, exec_lock⟩

end Sys2Proof.Machine

namespace Sys2Proof.Machine

/-! ### 64-bit register pairs and their latches (R12) -/

/-- Where the `_LO` registers of pairs lie: those of the stripe buffers at 0x14 past a multiple of 64 of their block, all others at
multiples of 8 outside it. -/
theorem pair_offset (s : State) (o v : Nat) (h : pair s o = some v) :
    o < 0x680000 ∧ (o % 8 = 0 ∧ (o < 0xD1000 ∨ 0xD1100 ≤ o) ∨ o % 64 = 0x14 ∧ 0xD1000 ≤ o ∧ o < 0xD1100) := by
  have hs : (pair s o).isSome = true := by rw [h]; rfl
  simp only [pair, inRow, Bool.and_eq_true, decide_eq_true_eq] at hs
  repeat' split at hs
  case isFalse => cases hs
  all_goals omega

theorem pair_aligned (s : State) (o v : Nat) (h : pair s o = some v) : o % 4 = 0 ∧ o + 4 < 0x2000000 := by
  have := pair_offset s o v h
  omega

theorem pair_hi (s : State) (o v : Nat) (h : pair s o = some v) : pair s (o + 4) = none := by
  have ho := pair_offset s o v h
  cases h' : pair s (o + 4) with
  | none => rfl
  | some w =>
    have := pair_offset s (o + 4) w h'
    omega

/-- The state with another latch for the `_HI` register at `o`. -/
def setLatch (s : State) (o : Nat) (w : Option Word) : State := { s with latch := tset none s.latch o w }

theorem latch_setLatch (s : State) (o k : Nat) (w : Option Word) :
    tget none (setLatch s o w).latch k = if o = k then w else tget none s.latch k := tget_tset ..

theorem pairRead_lo (s : State) (o v : Nat) (h : pair s o = some v) :
    pairRead s o = some (setLatch s (o + 4) (some (BitVec.ofNat 32 (v / 2 ^ 32))), v) := by
  simp only [pairRead, h, setLatch]

theorem pairRead_hi_latched (s : State) (o v : Nat) (w : Word) (h : pair s o = some v) (hl : tget none s.latch (o + 4) = some w) :
    pairRead s (o + 4) = some (setLatch s (o + 4) none, w.toNat) := by
  simp [pairRead, pair_hi s o v h, h, hl, setLatch]

theorem pairRead_hi_live (s : State) (o v : Nat) (h : pair s o = some v) (hl : tget none s.latch (o + 4) = none) :
    pairRead s (o + 4) = some (s, v / 2 ^ 32) := by
  simp [pairRead, pair_hi s o v h, h, hl]

theorem pairRead_latch (s : State) (k o : Nat) (r : State × Nat) (h : pairRead s k = some r) (hlo : k ≠ o) (hhi : k ≠ o + 4) :
    tget none r.1.latch (o + 4) = tget none s.latch (o + 4) := by
  unfold pairRead at h
  split at h
  · cases h
    exact (latch_setLatch s (k + 4) (o + 4) _).trans (if_neg (by omega))
  · split at h
    · cases h
    · split at h
      · split at h <;> cases h
        · exact (latch_setLatch s k (o + 4) _).trans (if_neg hhi)
        · rfl
      · cases h

/-- A read of another register than the two of the pair leaves the pair's latch. -/
theorem hostRead_latch (s : State) (k o : Nat) (hlo : k ≠ o) (hhi : k ≠ o + 4) :
    tget none (hostRead s k).1.latch (o + 4) = tget none s.latch (o + 4) := by
  unfold hostRead
  split
  · rfl
  · split
    · rename_i r h
      exact pairRead_latch s k o r h hlo hhi
    · split
      · rfl
      · split
        · rfl
        · split <;> rfl

theorem exec_regReadLoLatch (s : State) (k n : Nat) (h : powered s = true) :
    exec (.regReadLoLatch k n) s = .next (busRead s k n) := by
  show execRegReadLoLatch k n s = _
  simp only [execRegReadLoLatch, if_pos h]

/-- A read of a whole word of a pair gives what the pair gives, and leaves its latch. -/
theorem read_pair_word (s : State) (o : Nat) (r : State × Nat) (hp : powered s = true) (ha : o % 4 = 0) (hb : o < 0x2000000)
    (h : pairRead s o = some r) :
    Gives (.regReadLoLatch o 4) s (fun t => t.busData = r.2 % 2 ^ 32 ∧ t.latch = r.1.latch) := by
  have hw : inWord o 4 = true := by simp [inWord, ha]
  have hd : o / 4 * 4 = o := by omega
  have hr : hostRead s o = (r.1, r.2 % 2 ^ 32) := by
    have : ¬ (o % 4 ≠ 0 ∨ 0x2000000 ≤ o) := by omega
    simp only [hostRead, if_neg this, h]
  refine ⟨_, exec_regReadLoLatch s o 4 hp, ?_⟩
  simp [busRead, hw, hd, hr, ha]

theorem read_lo_latches (o v : Nat) (s : State) (hp : powered s = true) (h : pair s o = some v) :
    Gives (.regReadLoLatch o 4) s (fun t => t.busData = v % 2 ^ 32 ∧
      tget none t.latch (o + 4) = some (BitVec.ofNat 32 (v / 2 ^ 32))) := by
  obtain ⟨ha, hb⟩ := pair_aligned s o v h
  obtain ⟨t, ht, hd, hl⟩ := read_pair_word s o _ hp ha (by omega) (pairRead_lo s o v h)
  exact ⟨t, ht, hd, by rw [hl, latch_setLatch, if_pos rfl]⟩

theorem read_hi_releases (o v : Nat) (w : Word) (s : State) (hp : powered s = true) (h : pair s o = some v)
    (hw : tget none s.latch (o + 4) = some w) :
    Gives (.regReadLoLatch (o + 4) 4) s (fun t => t.busData = w.toNat ∧ tget none t.latch (o + 4) = none) := by
  obtain ⟨ha, hb⟩ := pair_aligned s o v h
  obtain ⟨t, ht, hd, hl⟩ := read_pair_word s (o + 4) _ hp (by omega) hb (pairRead_hi_latched s o v w h hw)
  exact ⟨t, ht, hd.trans (Nat.mod_eq_of_lt w.isLt), by rw [hl, latch_setLatch, if_pos rfl]⟩

theorem read_hi_live (o v : Nat) (s : State) (hp : powered s = true) (h : pair s o = some v)
    (hn : tget none s.latch (o + 4) = none) :
    Gives (.regReadLoLatch (o + 4) 4) s (fun t => t.busData = v / 2 ^ 32 % 2 ^ 32 ∧ tget none t.latch (o + 4) = none) := by
  obtain ⟨ha, hb⟩ := pair_aligned s o v h
  obtain ⟨t, ht, hd, hl⟩ := read_pair_word s (o + 4) _ hp (by omega) hb (pairRead_hi_live s o v h hn)
  exact ⟨t, ht, hd, by rw [hl, hn]⟩

theorem read_other_keeps_latch (o k n : Nat) (s : State) (hp : powered s = true) (hlo : k / 4 * 4 ≠ o) (hhi : k / 4 * 4 ≠ o + 4) :
    Gives (.regReadLoLatch k n) s (fun t => tget none t.latch (o + 4) = tget none s.latch (o + 4)) := by
  refine ⟨_, exec_regReadLoLatch s k n hp, ?_⟩
  unfold busRead
  split
  · exact hostRead_latch s _ o hlo hhi
  · rfl

/-- Settles O52, from what a read of each half of a pair does to its latch. -/
theorem registerPairs : Obligations.RegisterPairs :=
  ⟨read_lo_latches, fun o v w s => read_hi_releases o v w s, read_hi_live,
    fun o _ k n s hp _ hlo hhi => read_other_keeps_latch o k n s hp hlo hhi⟩

/-! ### Registers after a flag's event (R11) -/

theorem rget_rsetN (s : State) (o k v : Nat) : rget (rsetN s o v) k = if o = k then BitVec.ofNat 32 v else rget s k := rget_rset ..

theorem rget_bump_ne (s : State) (o k n : Nat) (h : o ≠ k) : rget (bump s o n) k = rget s k := by
  rw [bump, rget_rsetN, if_neg h]

theorem rget_flag_ne (s : State) (o b k : Nat) (h : o ≠ k) (hc : cntOf o ≠ k) : rget (flag s o b) k = rget s k := by
  rw [flag, rget_bump_ne _ _ _ _ hc, rget_rsetN, if_neg h]

theorem cntOf_ne (o : Nat) : cntOf o ≠ o := by
  unfold cntOf
  split <;> omega

theorem rg_bump (s : State) (o n : Nat) : rg (bump s o n) o = min sat32 (rg s o + n) := by
  rw [rg, bump, rget_rsetN, if_pos rfl, BitVec.toNat_ofNat]
  exact Nat.mod_eq_of_lt (Nat.lt_of_le_of_lt (Nat.min_le_left _ _) (by decide))

/-- The flag is set. -/
theorem bit_flag (s : State) (o b : Nat) (hb : b < 32) : bit (rg (flag s o b) o) b = true := by
  rw [rg, flag, rget_bump_ne _ _ _ _ (cntOf_ne o), rget_rsetN, if_pos rfl]
  simp only [bit, putBit, if_true, BitVec.toNat_ofNat, Nat.testBit_mod_two_pow, Nat.testBit_or, Nat.testBit_shiftLeft]
  simp [hb]

/-- Its counter counts, up to all ones. -/
theorem rg_flag_cnt (s : State) (o b : Nat) : rg (flag s o b) (cntOf o) = min sat32 (rg s (cntOf o) + 1) := by
  rw [flag, rg_bump, rg, rget_rsetN, if_neg (cntOf_ne o).symm, ← rg]

/-- Nothing else changes. -/
theorem flag_rest (s : State) (o b : Nat) : { flag s o b with regs := s.regs } = s := by
  simp only [flag, bump, rsetN, rset]

/-- The log of an unsupported access (R344), in every state with its registers and fault unit. -/
theorem logged_of_eq (s t : State) (bar off : Nat) (w : Bool) (hf : t.flt = (logUnsup s bar off w).flt)
    (hr : t.regs = (logUnsup s bar off w).regs) : logged s t bar off w := by
  refine ⟨hf, ?_⟩
  rw [rg, rget, hr]
  exact bit_flag _ 0x30004 7 (by decide)

theorem logUnsup_rest (s : State) (bar off : Nat) (w : Bool) : { logUnsup s bar off w with flt := s.flt, regs := s.regs } = s := by
  simp only [logUnsup, flag, bump, rsetN, rset]

/-! ### Writes of BAR0 (R8, R10) -/

theorem hostWrite_plain (off : Nat) (r : RegRow) (v : Word) (s : State) (h : Pre.plainWrite off r v s) :
    hostWrite s off v = plainWrite s r off v := by
  obtain ⟨-, ha, hb, hw, hr, hs, hf⟩ := h
  have : ¬ (off % 4 ≠ 0 ∨ 0x2000000 ≤ off) := by omega
  simp [hostWrite, if_neg this, hw, hr, hs, hf]

/-- A write that no rule takes is discarded and logged. -/
theorem hostWrite_bad (off : Nat) (v : Word) (s : State) (h : Pre.badWrite off v s) : hostWrite s off v = logUnsup s 0 off true := by
  obtain ⟨-, h⟩ := h
  unfold hostWrite
  split
  · rfl
  · rename_i hn
    obtain h | h | ⟨hw, hr | ⟨hs, hf⟩⟩ := h
    · exact absurd (.inl h) hn
    · exact absurd (.inr h) hn
    · simp [hw, hr, discard]
    · cases findReg off <;> simp [hw, hs, hf, discard]

theorem exec_registerWrite (off : Nat) (v : Word) (s : State) (h : powered s = true) :
    exec (.registerWrite off v) s = .next (hostWrite s off v) := by
  show execRegisterWrite off v s = _
  simp only [execRegisterWrite, if_pos h]

theorem plainWrite_stores (off : Nat) (r : RegRow) (v : Word) (s : State) (h : Pre.plainWrite off r v s) :
    Gives (.registerWrite off v) s (fun t =>
      rget t off = (((rget s off &&& ~~~BitVec.ofNat 32 r.rw) ||| (v &&& BitVec.ofNat 32 r.rw)) &&& ~~~(v &&& BitVec.ofNat 32 r.w1c)) ∧
      (∀ k, k ≠ off → rget t k = rget s k) ∧ { t with regs := s.regs } = s) := by
  refine ⟨_, exec_registerWrite off v s h.1, ?_⟩
  rw [hostWrite_plain off r v s h]
  exact ⟨rget_rset_self .., fun k hk => (rget_rset ..).trans (if_neg hk.symm), rfl⟩

theorem badWrite_logged (off : Nat) (v : Word) (s : State) (h : Pre.badWrite off v s) :
    Gives (.registerWrite off v) s (fun t => logged s t 0 off true ∧ { t with flt := s.flt, regs := s.regs } = s) := by
  refine ⟨_, exec_registerWrite off v s h.1, ?_⟩
  rw [hostWrite_bad off v s h]
  exact ⟨logged_of_eq s _ 0 off true rfl rfl, logUnsup_rest ..⟩

theorem unsupported_logged (bar off : Nat) (w : Bool) (len : Nat) (s : State) (hp : powered s = true)
    (h : unsupported s bar off len = true) : Gives (.unsupportedAccess bar off w len) s (fun t =>
      logged s t bar off w ∧ (w = false → t.busData = 0) ∧
      { t with flt := s.flt, regs := s.regs, busData := s.busData, busPoison := s.busPoison } = s) := by
  have hx : execUnsupportedAccess bar off w len s = .next (unsupportedAccess s bar off w) := by
    simp [execUnsupportedAccess, hp, h]
  refine ⟨_, hx, ?_⟩
  cases w
  · exact ⟨logged_of_eq s _ bar off false rfl rfl, fun _ => rfl, logUnsup_rest s bar off false⟩
  · exact ⟨logged_of_eq s _ bar off true rfl rfl, nofun, logUnsup_rest s bar off true⟩

/-! ### The memory BARs (R19, R20, R320) -/

/-- What a host access of memory rests on besides the poison: memory, pins, stage of start-up and the aperture's base. -/
def accessView (s : State) : Mem × Pins × Boot × Word := (s.mem, s.pins, s.boot, rget s 0x10100)

theorem accessView_flag (s : State) (o b : Nat) (h : 0x10100 < o) : accessView (flag s o b) = accessView s := by
  have hc : cntOf o ≠ 0x10100 := by
    unfold cntOf
    split <;> omega
  simp only [accessView, rget_flag_ne s o b 0x10100 (by omega) hc]
  rfl

theorem accessView_rsetN (s : State) (o v : Nat) (h : 0x10100 < o) : accessView (rsetN s o v) = accessView s := by
  simp only [accessView, rget_rsetN, if_neg (show o ≠ 0x10100 by omega)]
  rfl

theorem accessView_bump (s : State) (o n : Nat) (h : 0x10100 < o) : accessView (bump s o n) = accessView s :=
  accessView_rsetN s o _ h

theorem chanBase_gt (n : Nat) : 0x10100 < chanBase n := by
  unfold chanBase
  omega

theorem coreBase_gt (n : Nat) : 0x10100 < coreBase n := by
  unfold coreBase
  omega

theorem accessView_corrected (s : State) (a : Nat) : accessView (corrected s a) = accessView s := by
  have hn := chanBase_gt (toLocal a).1
  have hk := coreBase_gt (trayCore a)
  unfold corrected
  split
  · rw [accessView_bump _ _ _ (by omega), accessView_flag _ _ _ (by omega)]
  · split
    · rw [accessView_bump _ _ _ (by omega), accessView_flag _ _ _ (by omega)]
    · split
      · rw [accessView_bump _ _ _ (by omega), accessView_flag _ _ _ (by omega)]
      · rfl

theorem accessView_setChan (s : State) (p : Tab Bool) (n : Nat) (c : Chan) :
    accessView (setChan { s with poison := p } n c) = accessView s := rfl

theorem accessView_poisonBurst (s : State) (n a : Nat) : accessView (poisonBurst s n a) = accessView s := by
  have hn := chanBase_gt n
  rw [poisonBurst, accessView_setChan, accessView_bump _ _ _ (by omega), accessView_flag _ _ _ (by omega)]

theorem accessView_uncorrected (s : State) (a : Nat) : accessView (uncorrected s a) = accessView s := by
  simp only [uncorrected]
  split
  · rfl
  · split
    · exact accessView_poisonBurst ..
    · split
      · rw [accessView_rsetN _ _ _ (by decide), accessView_flag _ _ _ (by decide)]
        rfl
      · split <;> rfl

/-- Raising the errors that a read meets changes nothing that the read rests on but the poison. -/
theorem accessView_eccErrors (s : State) (l : List (Nat × Bool)) : accessView (eccErrors s l) = accessView s := by
  refine foldl_invariant accessView _ (fun s e => ?_) l s
  split
  · exact accessView_uncorrected s e.1
  · exact accessView_corrected s e.1

theorem powered_of_isReady (s : State) (h : isReady s = true) : powered s = true := by
  simp only [isReady, Bool.and_eq_true] at h
  exact h.1

/-- The state in which a read of the four bytes at `a` finds memory: the errors that it meets are raised. -/
abbrev readErrors (s : State) (a : Nat) (e : List (Nat × Bool)) : State := eccErrors s (eccWithin s a 4 e)

theorem mem_eccErrors (s : State) (l : List (Nat × Bool)) : (eccErrors s l).mem = s.mem :=
  congrArg (·.1) (accessView_eccErrors s l)

theorem isReady_eccErrors (s : State) (l : List (Nat × Bool)) : isReady (eccErrors s l) = isReady s := by
  have hp : (eccErrors s l).pins = s.pins := congrArg (·.2.1) (accessView_eccErrors s l)
  have hb : (eccErrors s l).boot = s.boot := congrArg (·.2.2.1) (accessView_eccErrors s l)
  simp only [isReady, powered, hp, hb]

theorem apertureAt_eccErrors (s : State) (l : List (Nat × Bool)) (off : Nat) : apertureAt (eccErrors s l) off = apertureAt s off := by
  have hr : rget (eccErrors s l) 0x10100 = rget s 0x10100 := congrArg (·.2.2.2) (accessView_eccErrors s l)
  simp only [apertureAt, rf, rg, hr]

theorem rdBytes_mem (s u : State) (h : u.mem = s.mem) (a n : Nat) : rdBytes u a n = rdBytes s a n := by
  induction n generalizing a with
  | zero => rfl
  | succ n ih => simp only [rdBytes, mrd, h, ih]

/-- What a read of memory finds: the bytes, the poison and, by the board, the size of the units it covers. -/
def memView (s : State) : Mem × Tab Bool × Board := (s.mem, s.poison, s.board)

/-- Noting an exhausted class changes the registers and the Hoist alone. -/
theorem noteExh_rest (s : State) (c : Nat) : { noteExh s c with regs := s.regs, hst := s.hst } = s := by
  simp only [noteExh]
  split <;> simp only [flag, bump, rsetN, rset]

/-- So does charging a transfer. -/
theorem chargeDram_rest (s : State) (c bytes : Nat) : { chargeDram s c bytes with regs := s.regs, hst := s.hst } = s := by
  simp only [chargeDram]
  split
  · rfl
  · split
    · exact congrArg (fun t => { t with hst := s.hst }) (noteExh_rest _ c)
    · rfl

theorem memView_chargeDram (s : State) (c bytes : Nat) : memView (chargeDram s c bytes) = memView s := by
  have h := congrArg memView (chargeDram_rest s c bytes)
  exact h

theorem readsPoison_of_memView (s u : State) (h : memView u = memView s) (a n : Nat) : readsPoison u a n = readsPoison s a n := by
  simp only [memView, Prod.mk.injEq] at h
  obtain ⟨-, hp, hb⟩ := h
  have hd : dramSize u = dramSize s := by simp only [dramSize, hb]
  have hk (b : Nat) : poisonKey u b = poisonKey s b := by rw [poisonKey, hd, poisonKey]
  simp only [readsPoison, poisonIn, hp, hk]

/-- A read through a memory BAR, on a state in which memory is as the read's errors leave it. -/
theorem barAccess_reads (s u : State) (a : Nat) (e : List (Nat × Bool)) (h : memView u = memView (readErrors s a e)) :
    readOf s (barAccess u a none) a e := by
  have hm : u.mem = s.mem := (congrArg (·.1) h).trans (mem_eccErrors ..)
  have hp := readsPoison_of_memView _ u h a 4
  simp only [readOf, barAccess, ← hp, rdLe, ← rdBytes_mem s u hm]
  split <;> rename_i h <;> simp [h, hm]

theorem exec_bar2Access (off : Nat) (data : Option Word) (e : List (Nat × Bool)) (s : State) (h : isReady s = true)
    (ho : off + 4 ≤ drkSize) :
    exec (.bar2Access off data e) s = .next (barAccess (barErrors s (drkBase + off) data e) (drkBase + off) data) := by
  have hu : isReady (barErrors s (drkBase + off) data e) = true := by
    unfold barErrors
    split
    · rw [isReady_eccErrors, h]
    · exact h
  show execBar2Access off data e s = _
  simp [execBar2Access, bar2, powered_of_isReady s h, hu, Nat.not_lt.mpr ho]

theorem exec_bar4Access (off : Nat) (data : Option Word) (e : List (Nat × Bool)) (s : State) (h : Pre.bar4 off s) :
    exec (.bar4Access off data e) s =
      .next (barAccess (chargeDram (barErrors s (apertureAt s off) data e) 4 4) (apertureAt s off) data) := by
  obtain ⟨hr, ho⟩ := h
  have hu : isReady (barErrors s (apertureAt s off) data e) = true := by
    unfold barErrors
    split
    · rw [isReady_eccErrors, hr]
    · exact hr
  have ha : apertureAt (barErrors s (apertureAt s off) data e) off = apertureAt s off := by
    unfold barErrors
    split
    · exact apertureAt_eccErrors ..
    · rfl
  show execBar4Access off data e s = _
  simp [execBar4Access, bar4, powered_of_isReady s hr, hu, ha, Nat.not_lt.mpr ho]

theorem barErrors_read (s : State) (a : Nat) (e : List (Nat × Bool)) (h : isReady s = true) :
    barErrors s a none e = readErrors s a e := by
  simp [barErrors, h]

theorem barErrors_write (s : State) (a : Nat) (v : Word) (e : List (Nat × Bool)) : barErrors s a (some v) e = s := by
  simp [barErrors]

theorem bar2_reads (off : Nat) (e : List (Nat × Bool)) (s : State) (h : isReady s = true) (ho : off + 4 ≤ drkSize) :
    Gives (.bar2Access off none e) s (fun t => readOf s t (drkBase + off) e) := by
  refine ⟨_, exec_bar2Access off none e s h ho, ?_⟩
  rw [barErrors_read s _ e h]
  exact barAccess_reads s _ _ e rfl

theorem bar2_writes (off : Nat) (v : Word) (e : List (Nat × Bool)) (s : State) (h : isReady s = true) (ho : off + 4 ≤ drkSize) :
    Gives (.bar2Access off (some v) e) s (fun t => t.mem = memWrite s.mem (drkBase + off) (leBytes 4 v.toNat)) := by
  refine ⟨_, exec_bar2Access off (some v) e s h ho, ?_⟩
  rw [barErrors_write]
  rfl

theorem bar4_reads (off : Nat) (e : List (Nat × Bool)) (s : State) (h : Pre.bar4 off s) :
    Gives (.bar4Access off none e) s (fun t => readOf s t (bar4Addr s off) e) := by
  refine ⟨_, exec_bar4Access off none e s h, ?_⟩
  rw [barErrors_read s _ e h.1]
  exact barAccess_reads s _ _ e (memView_chargeDram ..)

theorem bar4_writes (off : Nat) (v : Word) (e : List (Nat × Bool)) (s : State) (h : Pre.bar4 off s) :
    Gives (.bar4Access off (some v) e) s (fun t => t.mem = memWrite s.mem (bar4Addr s off) (leBytes 4 v.toNat)) := by
  refine ⟨_, exec_bar4Access off (some v) e s h, ?_⟩
  rw [barErrors_write]
  exact congrArg (fun m => memWrite m _ _) (congrArg (·.1) (memView_chargeDram s 4 4))

/-! ### Registers with an effect of their own (R20, R355) -/

theorem exec_pcieAptBaseWrite (v : Word) (s : State) (h : powered s = true) : exec (.pcieAptBaseWrite v) s = .next (
    if bits v.toNat 7 0 + 4 ≤ s.board.chanGib * 6 then rsetN s 0x10100 (bits v.toNat 7 0) else logUnsup s 0 0x10100 true) := by
  show execPcieAptBaseWrite v s = _
  simp only [execPcieAptBaseWrite, aptWrite, discard, if_pos h]

theorem exec_dbgCtrlLock (s : State) (h : powered s = true) : exec .dbgCtrlLock s = .next { s with dbg := { s.dbg with lock := 0 } } := by
  show execDbgCtrlLock s = _
  simp only [execDbgCtrlLock, if_pos h]

theorem exec_dbgCtrlDeny (s : State) (h : powered s = true) : exec .dbgCtrlDeny s = .next { s with dbg := { s.dbg with deny := true } } := by
  show execDbgCtrlDeny s = _
  simp only [execDbgCtrlDeny, if_pos h]

/-- Settles O54: plain and discarded writes, the accesses through BAR2 and BAR4, and the flags' events. -/
theorem hostRegisters : Obligations.HostRegisters :=
  ⟨plainWrite_stores, badWrite_logged, unsupported_logged, bar2_reads, bar2_writes, bar4_reads, bar4_writes,
    exec_pcieAptBaseWrite, exec_dbgCtrlLock, exec_dbgCtrlDeny,
    fun s off b hb _ => ⟨bit_flag s off b hb, rg_flag_cnt s off b, flag_rest s off b⟩⟩

/-! ### Identity, images, boot bank and board configuration (R5, R348 to R351) -/

/-- Taking the packet moves its ring's head and touches nothing outside the rings. -/
theorem advanceHead_rest (s : State) (n : Nat) : { advanceHead s n with sal := s.sal } = s := by
  unfold advanceHead
  split <;> rfl

theorem slTakes_advanceHead (s : State) (n : Nat) (i : Instr) : slTakes (advanceHead s n) i = slTakes s i := by
  have hc : chartNow (advanceHead s n) = chartNow s := by simp [chartNow]
  simp only [slTakes, slAvail, hc, advanceHead_powered, advanceHead_sl, advanceHead_boot]

/-- Safelight gives a management command its effect at once. -/
theorem acceptMgmt_took (i : Instr) (c : Cmd) (s : State) (f : Flight) (h : Pre.mgmt i c s) (hb : mgmtBad i (took c s) = none) :
    acceptMgmt i (took c s) f = mgmtBody i (mgmtReserve i (took c s)) f := by
  obtain ⟨-, hm, ht, hq⟩ := h
  simp [acceptMgmt, hb, slTakes_advanceHead, hm, ht, hq]

theorem accept_mgmt (i : Instr) (c : Cmd) (op : Nat) (chk : List (Bool × Nat)) (s : State) (h : Pre.mgmt i c s)
    (hk : badByte chk none = none) (hb : mgmtBad i (took c s) = none) :
    accept s c op chk (acceptMgmt i) = mgmtBody i (mgmtReserve i (took c s)) (flightOf c s) := by
  rw [accept_taken s c op chk _ h.1 hk, acceptMgmt_took i c s _ h hb]

theorem bankAt_advanceHead (s : State) (n b : Nat) : bankAt (advanceHead s n) b = bankAt s b := by simp [bankAt]

theorem bankOk_advanceHead (s : State) (n b : Nat) : bankOk (advanceHead s n) b = bankOk s b := by
  simp only [bankOk, bankAt_advanceHead, advanceHead_fuse]

theorem readsPoison_took (c : Cmd) (s : State) (a n : Nat) : readsPoison (took c s) a n = readsPoison s a n :=
  readsPoison_of_memView s _ (by simp [memView]) a n

theorem rdBytes_took (c : Cmd) (s : State) (a n : Nat) : rdBytes (took c s) a n = rdBytes s a n := rdBytes_mem s _ (by simp) a n

theorem chargeDram_fuse (s : State) (c bytes : Nat) : (chargeDram s c bytes).fuse = s.fuse := by
  have h := congrArg State.fuse (chargeDram_rest s c bytes)
  exact h

theorem chargeMgmt_fuse (s : State) (a n : Nat) : (chargeMgmt s a n).fuse = s.fuse := chargeDram_fuse s 5 (dramOf s a n)

theorem exec_devInfo (c : Cmd) (s : State) (h : Pre.mgmt (.devInfo c) c s) : exec (.devInfo c) s = replied c s (took c s) stOk
    (0x81600011 + s.fuse.speed % 16 * 4096 + s.fuse.temp % 16 * 256) (3 + s.sl.bank * 256 + s.sl.fwVer % 2 ^ 32 * 65536) := by
  show execDevInfo c s = _
  rw [execDevInfo, accept_mgmt _ c _ _ s h rfl rfl]
  simp only [mgmtBody, mgmtReserve, devInfo, mgtId, advanceHead_fuse, advanceHead_sl]

theorem exec_fwStage (c : Cmd) (src len b : Nat) (ok : Bool) (s : State) (h : Pre.fwStage c src len b ok s) :
    exec (.fwStage c src len b ok) s =
      let bs := rdBytes s src len ++ (bankAt s b).bytes.drop len
      let good := imgHeaderOk bs && ok && decide (s.fuse.svnMin ≤ le bs 0xC 1)
      replied c s (setBank (chargeMgmt (took c s) src len) b (bankOf bs good)) (if good then stOk else stBadImage) 0 0 := by
  obtain ⟨hm, hr, hl, hb, hn, hh, hp⟩ := h
  have hk : badByte [(rangeOk s src len, 0x10), (decide (len ≤ 2097152), 0x18), bankChk b 0x1C] none = none := by
    simp [badByte, bankChk, hr, hl, hb]
  have hbad : mgmtBad (.fwStage c src len b ok) (took c s) = none := by simp [mgmtBad, hn]
  show execFwStage c src len b ok s = _
  rw [execFwStage, accept_mgmt _ c _ _ s hm hk hbad]
  simp only [mgmtBody, mgmtReserve, fwStage, advanceHead_sl, if_neg hn, show (flightOf c s).c = c from rfl, hh, readsPoison_took, hp,
    rdBytes_took, bankAt_advanceHead, imageOk, chargeMgmt_fuse, advanceHead_fuse, Bool.false_eq_true, if_false]

/-- Trying the handover sets at most the instant at which the swap began. -/
theorem tryHandover_swapAt (s : State) : ∃ w, tryHandover s = { s with sl := { s.sl with swapAt := w } } := by
  unfold tryHandover
  split
  · exact ⟨_, rfl⟩
  · exact ⟨s.sl.swapAt, rfl⟩

theorem exec_fwActivate (c : Cmd) (b : Nat) (s : State) (h : Pre.fwActivate c b s) : exec (.fwActivate c b) s =
    .next (tryHandover (defer { took c s with sl := { s.sl with swap := some b } } (flightOf c s) .fwActivate [])) := by
  obtain ⟨hm, hb, ho, hv⟩ := h
  have hk : badByte [bankChk b 0x10] none = none := by simp [badByte, bankChk, hb]
  show execFwActivate c b s = _
  rw [execFwActivate, accept_mgmt _ c _ _ s hm hk rfl]
  simp only [mgmtBody, mgmtReserve, fwActivate, bankOk_advanceHead, bankAt_advanceHead, advanceHead_sl, ho, hv, decide_true, Bool.and_self,
    if_true]

theorem fwActivate_begins (c : Cmd) (b : Nat) (s : State) (h : Pre.fwActivate c b s) : Gives (.fwActivate c b) s (fun t =>
    t.sl.swap = some b ∧ t.sal.flights = s.sal.flights ++ [{ flightOf c s with await := .fwActivate }] ∧
    { t with sl := s.sl, sal := s.sal } = s) := by
  refine ⟨_, exec_fwActivate c b s h, ?_⟩
  obtain ⟨w, hw⟩ := tryHandover_swapAt (defer { took c s with sl := { s.sl with swap := some b } } (flightOf c s) .fwActivate [])
  rw [hw]
  exact ⟨rfl, congrArg (· ++ _) (advanceHead_sal_flights ..), congrArg (fun u => { u with sl := s.sl }) (advanceHead_rest s c.sq)⟩

theorem exec_bootBank (c : Cmd) (b : Nat) (s : State) (h : Pre.mgmt (.bootBank c b) c s) (hb : b < 2) : exec (.bootBank c b) s =
    if bankOk s b then done c s { took c s with flash := { s.flash with sel0 := b, sel1 := b } } 0
    else replied c s (took c s) stBadImage 0 0 := by
  have hk : badByte [bankChk b 0x10] none = none := by simp [badByte, bankChk, hb]
  show execBootBank c b s = _
  rw [execBootBank, accept_mgmt _ c _ _ s h hk rfl]
  simp only [mgmtBody, mgmtReserve, writeSelector, bankOk_advanceHead, advanceHead_flash]
  split <;> rfl

theorem exec_boardCfg (c : Cmd) (src len : Nat) (cfg : Board) (s : State) (h : Pre.boardCfg c src len cfg s) :
    exec (.boardCfg c src len cfg) s = done c s { chargeMgmt (took c s) src len with flash := { s.flash with board := cfg } } 0 := by
  obtain ⟨hm, hr, hl, hh, hp⟩ := h
  have hk : badByte [(rangeOk s src len, 0x10), (decide (len ≤ 57344), 0x18)] none = none := by simp [badByte, hr, hl]
  show execBoardCfg c src len cfg s = _
  rw [execBoardCfg, accept_mgmt _ c _ _ s hm hk rfl]
  simp only [mgmtBody, mgmtReserve, boardCfg, show (flightOf c s).c = c from rfl, hh, readsPoison_took, hp,
    advanceHead_flash, Bool.false_eq_true, if_false]

/-- Settles O27, from the effect of each command on the state that took its packet. -/
theorem firmwareCommands : Obligations.FirmwareCommands :=
  ⟨exec_devInfo, exec_fwStage, fwActivate_begins, exec_bootBank, exec_boardCfg⟩

end Sys2Proof.Machine

namespace Sys2Proof.Machine

/-! ### BAR2 above the Darkroom (R19) -/

/-- An access of BAR2 that begins above the Darkroom is unsupported, whatever the device's state of start-up. -/
theorem exec_bar2Access_unbacked (off : Nat) (data : Option Word) (e : List (Nat × Bool)) (s : State) (hp : powered s = true)
    (ho : 0x3000000 ≤ off) : exec (.bar2Access off data e) s = .next (unsupportedAccess s 2 off data.isSome) := by
  have hd : drkSize < off + 4 := by
    unfold drkSize
    omega
  show execBar2Access off data e s = _
  simp only [execBar2Access, bar2, hp, hd, if_true, or_true]

theorem bar2_unbacked_read (off : Nat) (e : List (Nat × Bool)) (s : State) (hp : powered s = true) (ho : 0x3000000 ≤ off) :
    Gives (.bar2Access off none e) s (fun t => t.busData = 0 ∧ logged s t 2 off false ∧
      { t with flt := s.flt, regs := s.regs, busData := s.busData, busPoison := s.busPoison } = s) :=
  ⟨_, exec_bar2Access_unbacked off none e s hp ho, rfl, logged_of_eq s _ 2 off false rfl rfl, logUnsup_rest s 2 off false⟩

theorem bar2_unbacked_write (off : Nat) (v : Word) (e : List (Nat × Bool)) (s : State) (hp : powered s = true) (ho : 0x3000000 ≤ off) :
    Gives (.bar2Access off (some v) e) s (fun t => logged s t 2 off true ∧ { t with flt := s.flt, regs := s.regs } = s) :=
  ⟨_, exec_bar2Access_unbacked off (some v) e s hp ho, logged_of_eq s _ 2 off true rfl rfl, logUnsup_rest s 2 off true⟩

/-- Settles O53: above the Darkroom an access of BAR2 is an unsupported access, and nothing else. -/
theorem bar2Unbacked : Obligations.Bar2Unbacked :=
  ⟨fun off e s hp ho _ => bar2_unbacked_read off e s hp ho, fun off v e s hp ho _ => bar2_unbacked_write off v e s hp ho⟩

end Sys2Proof.Machine

namespace Sys2Proof.Machine

/-! ## Memory in its canonical form (R17, R117, R272)

The addresses listed in memory rise and no listed byte is 0. Memory changes by stores of bytes and by resets that drop
addresses, and both keep the form; every function of the model keeps it then (`formed_<f>`, in the order of the model's
files). -/

theorem twfAbove_filter {α : Type} [DecidableEq α] (d : α) (p : Nat × α → Bool) (t : Tab α) (b : Option Nat)
    (h : twfAbove d b t = true) : twfAbove d b (t.filter p) = true := by
  induction t generalizing b with
  | nil => rfl
  | cons e t ih =>
    obtain ⟨k, v⟩ := e
    obtain ⟨hk, hv, ht⟩ := (twfAbove_cons d b k v t).mp h
    have ht := ih (some k) ht
    cases hp : p (k, v) with
    | true =>
      rw [List.filter_cons_of_pos hp, twfAbove_cons]
      exact ⟨hk, hv, ht⟩
    | false =>
      rw [List.filter_cons_of_neg (by simp [hp])]
      refine twfAbove_weaken d _ b (some k) (fun i hi => ?_) ht
      cases b with
      | none => trivial
      | some n => exact Nat.lt_trans hk hi

/-- Dropping entries keeps the canonical form. -/
theorem twf_filter {α : Type} [DecidableEq α] (d : α) (p : Nat × α → Bool) (t : Tab α) (h : twf d t = true) :
    twf d (t.filter p) = true := twfAbove_filter d p t none h

/-- A key at or below the bound of a table is not listed in it. -/
theorem tget_of_le_bound {α : Type} [DecidableEq α] (d : α) (t : Tab α) (n k : Nat) (h : twfAbove d (some n) t = true) (hk : k ≤ n) :
    tget d t k = d := by
  induction t generalizing n with
  | nil => rfl
  | cons e t ih =>
    obtain ⟨j, v⟩ := e
    obtain ⟨hj, -, ht⟩ := (twfAbove_cons d (some n) j v t).mp h
    have hj : n < j := hj
    rw [tget, if_neg (by omega)]
    exact ih j ht (by omega)

/-- A table in canonical form that reads as the default everywhere lists nothing. -/
theorem eq_nil_of_tget {α : Type} [DecidableEq α] (d : α) (t : Tab α) (b : Option Nat) (h : twfAbove d b t = true)
    (hg : ∀ k, tget d t k = d) : t = [] := by
  cases t with
  | nil => rfl
  | cons e t =>
    obtain ⟨k, v⟩ := e
    obtain ⟨-, hv, -⟩ := (twfAbove_cons d b k v t).mp h
    exact absurd (by simpa [tget] using hg k) hv

/-- The first key of a table is listed in every table in canonical form that reads the same. -/
theorem first_key_le {α : Type} [DecidableEq α] (d : α) (j k : Nat) (u v : α) (t r : Tab α) (hv : v ≠ d)
    (ht : twfAbove d (some j) t = true) (hg : tget d ((j, u) :: t) k = tget d ((k, v) :: r) k) : j ≤ k := by
  refine Nat.le_of_not_lt fun hlt => hv ?_
  rw [tget, if_neg (by omega), tget_of_le_bound d t j k ht (by omega), tget, if_pos rfl] at hg
  exact hg.symm

/-- Equal tables are equal data. -/
theorem twfAbove_ext {α : Type} [DecidableEq α] (d : α) (t r : Tab α) (b c : Option Nat) (ht : twfAbove d b t = true)
    (hr : twfAbove d c r = true) (hg : ∀ k, tget d t k = tget d r k) : t = r := by
  induction t generalizing r b c with
  | nil => exact (eq_nil_of_tget d r c hr fun k => (hg k).symm).symm
  | cons e t ih =>
    cases r with
    | nil => exact eq_nil_of_tget d _ b ht hg
    | cons e' r =>
      obtain ⟨j, u⟩ := e
      obtain ⟨k, v⟩ := e'
      obtain ⟨-, hu, ht'⟩ := (twfAbove_cons d b j u t).mp ht
      obtain ⟨-, hv, hr'⟩ := (twfAbove_cons d c k v r).mp hr
      have hjk : j = k := Nat.le_antisymm (first_key_le d j k u v t r hv ht' (hg k)) (first_key_le d k j v u r t hu hr' (hg j).symm)
      subst hjk
      have huv : u = v := by simpa [tget] using hg j
      subst huv
      rw [ih r (some j) (some j) ht' hr' fun i => ?_]
      by_cases hi : i ≤ j
      · rw [tget_of_le_bound d t j i ht' hi, tget_of_le_bound d r j i hr' hi]
      · have := hg i
        simp only [tget, if_neg (show ¬ j = i by omega)] at this
        exact this

/-- Memory is in its canonical form. -/
def formed (s : State) : Bool := Memory.wf s.mem

/-- Another name for `formed t`, for the case in which `s` was not formed: `simp` does not look into it. -/
def mended (_s t : State) : Bool := formed t

/-- The state `t` is formed if `s` is. It is an equation, so that `simp` goes from the state that a function answers back to
the state that it was given. -/
@[simp] abbrev KeepsForm (s t : State) : Prop := formed t = if formed s then true else mended s t

theorem KeepsForm.intro {s t : State} (h : formed s = true → formed t = true) : KeepsForm s t := by
  unfold KeepsForm mended
  split <;> simp_all

theorem KeepsForm.imp {s t : State} (h : KeepsForm s t) (hs : formed s = true) : formed t = true := by
  rw [h, if_pos hs]

/-- Another state with the same memory. -/
theorem KeepsForm.of_mem {s t : State} (h : t.mem = s.mem) : KeepsForm s t :=
  .intro fun hs => by rw [formed, h]; exact hs

@[simp] theorem formed_ite (c : Prop) [Decidable c] (a b : State) :
    formed (if c then a else b) = if c then formed a else formed b := apply_ite formed c a b

/-- An update of other parts of the state. -/
@[simp] theorem formed_update (s : State) (pending free regs latch ctr busData busPoison poison pins boot fuse flash board sl pwr dbg sal
    tmu sht lanes jobs ctxs marks cores hst kv ring cap fe code streams hot adapts mc flt) :
    formed ⟨pending, free, regs, latch, ctr, busData, busPoison, s.mem, poison, pins, boot, fuse, flash, board, sl, pwr, dbg,
      sal, tmu, sht, lanes, jobs, ctxs, marks, cores, hst, kv, ring, cap, fe, code, streams, hot, adapts, mc, flt⟩ = formed s := by rfl

/-- A state whose memory is formed: what the steps of a fold and the effect of a command may take for granted. -/
abbrev FormedState : Type := { s : State // formed s = true }

@[simp] theorem formed_val (s : FormedState) : formed s.1 = true := s.2

@[simp] theorem formed_foldl {α : Type} (f : State → α → State) (h : ∀ (s : FormedState) x, formed (f s.1 x) = true) (l : List α)
    (s : State) : KeepsForm s (l.foldl f s) := .intro fun hs => by
  induction l generalizing s with
  | nil => exact hs
  | cons x l ih => exact ih _ (h ⟨s, hs⟩ x)

@[simp] theorem formed_foldl_fst {α β : Type} (f : State × β → α → State × β)
    (h : ∀ (s : FormedState) b a, formed (f (s.1, b) a).1 = true) (l : List α) (x : State × β) : KeepsForm x.1 (l.foldl f x).1 :=
    .intro fun hx => by
  induction l generalizing x with
  | nil => exact hx
  | cons a l ih => exact ih _ (h ⟨x.1, hx⟩ x.2 a)

/-! ### The operations of Ops -/

@[simp] theorem formed_useFresh s : KeepsForm s (useFresh s) := .of_mem rfl
@[simp] theorem formed_rset s off v : KeepsForm s (rset s off v) := .of_mem rfl
@[simp] theorem formed_rsetN s off v : KeepsForm s (rsetN s off v) := .of_mem rfl
@[simp] theorem formed_bump s off n : KeepsForm s (bump s off n) := .of_mem rfl
@[simp] theorem formed_flagN s off b n : KeepsForm s (flagN s off b n) := .intro fun hs => by simp [flagN, hs]
@[simp] theorem formed_flag s off b : KeepsForm s (flag s off b) := .of_mem rfl
@[simp] theorem formed_cadd s off n : KeepsForm s (cadd s off n) := .of_mem rfl
@[simp] theorem formed_logUnsup s bar off write : KeepsForm s (logUnsup s bar off write) := .of_mem rfl
@[simp] theorem formed_wrBytes s a bs : KeepsForm s (wrBytes s a bs) := .intro (wf_wrBytes s a bs)
@[simp] theorem formed_clearPoison s a len : KeepsForm s (clearPoison s a len) := .of_mem rfl
@[simp] theorem formed_storeBytes s a bs : KeepsForm s (storeBytes s a bs) := .intro fun hs => by simp [storeBytes, hs]
@[simp] theorem formed_fillFree s a n : KeepsForm s (fillFree s a n) := .intro fun hs => by simp [fillFree, hs]
@[simp] theorem formed_setLane s n l : KeepsForm s (setLane s n l) := .of_mem rfl
@[simp] theorem formed_setCtx s n c : KeepsForm s (setCtx s n c) := .of_mem rfl
@[simp] theorem formed_setJob s n j : KeepsForm s (setJob s n j) := .of_mem rfl
@[simp] theorem formed_setEnt s n e : KeepsForm s (setEnt s n e) := .of_mem rfl
@[simp] theorem formed_setSq s n r : KeepsForm s (setSq s n r) := .of_mem rfl
@[simp] theorem formed_setCq s n r : KeepsForm s (setCq s n r) := .of_mem rfl
@[simp] theorem formed_setRq s n r : KeepsForm s (setRq s n r) := .of_mem rfl
@[simp] theorem formed_wakeOn s m v : KeepsForm s (wakeOn s m v) := .of_mem rfl
@[simp] theorem formed_noteSignaller s m c : KeepsForm s (noteSignaller s m c) := .intro fun hs => by simp [noteSignaller, hs]
@[simp] theorem formed_addMark s m add : KeepsForm s (addMark s m add) := .intro fun hs => by simp [addMark, hs]
@[simp] theorem formed_signalCtx s c m add : KeepsForm s (signalCtx s c m add) := .intro fun hs => by simp [signalCtx, hs]
@[simp] theorem formed_signalExt s m add : KeepsForm s (signalExt s m add) := .intro fun hs => by simp [signalExt, hs]

@[simp] theorem formed_raiseVec s v : KeepsForm s (raiseVec s v) := .intro fun hs => by
  unfold raiseVec
  split <;> simp [hs]

@[simp] theorem formed_writeRec s n x spilled : KeepsForm s (writeRec s n x spilled) := .intro fun hs => by
  unfold writeRec
  split <;> simp [hs]

@[simp] theorem formed_writeRecs s n xs spilled : KeepsForm s (writeRecs s n xs spilled) := .intro fun hs => by simp [writeRecs, hs]
@[simp] theorem formed_bedPauseAuto s : KeepsForm s (bedPauseAuto s) := .intro fun hs => by simp [bedPauseAuto, hs]
@[simp] theorem formed_dropGroup s n r xs v : KeepsForm s (dropGroup s n r xs v) := .intro fun hs => by simp [dropGroup, hs]
@[simp] theorem formed_spillGroup s n r xs v : KeepsForm s (spillGroup s n r xs v) := .intro fun hs => by simp [spillGroup, hs]

@[simp] theorem formed_reportGroup s xs v : KeepsForm s (reportGroup s xs v) := .intro fun hs => by
  simp only [reportGroup]
  (repeat' split) <;> simp [hs]

@[simp] theorem formed_report s typ ln src ref payload : KeepsForm s (report s typ ln src ref payload) := .intro fun hs => by
  simp [report, hs]

@[simp] theorem formed_drainSpill s n xs : KeepsForm s (drainSpill s n xs) := .intro fun hs => by
  induction xs generalizing s with
  | nil => exact hs
  | cons x xs ih =>
    unfold drainSpill
    split
    · exact hs
    · simp [ih, hs]

@[simp] theorem formed_settleRing s n : KeepsForm s (settleRing s n) := .intro fun hs => by
  unfold settleRing
  (repeat' split) <;> simp [hs]

@[simp] theorem formed_drainRing s n : KeepsForm s (drainRing s n) := .intro fun hs => by
  unfold drainRing
  split <;> simp [hs]

@[simp] theorem formed_doReply s n r p : KeepsForm s (doReply s n r p) := .intro fun hs => by simp [doReply, hs]

@[simp] theorem formed_postReply s n p : KeepsForm s (postReply s n p) := .intro fun hs => by
  unfold postReply
  split <;> simp [hs]

@[simp] theorem formed_complete s f status detail result : KeepsForm s (complete s f status detail result) := .intro fun hs => by
  unfold complete
  split
  · simp [hs]
  · split <;> simp [hs]

@[simp] theorem formed_defer s f a ctxs : KeepsForm s (defer s f a ctxs) := .of_mem rfl

@[simp] theorem formed_finishDeletes (s : State) (fs : List Flight) : KeepsForm s (finishDeletes s fs) := .intro fun hs => by
  induction fs generalizing s with
  | nil => exact hs
  | cons f fs ih =>
    unfold finishDeletes
    split
    · split <;> simp [ih, hs]
    · exact ih s hs

@[simp] theorem formed_completeWhere s p status detail result : KeepsForm s (completeWhere s p status detail result) := .intro fun hs => by
  simp [completeWhere, hs]

@[simp] theorem formed_completeAwait s a status detail result : KeepsForm s (completeAwait s a status detail result) := .intro fun hs => by
  simp [completeAwait, hs]

@[simp] theorem formed_advanceHead s n : KeepsForm s (advanceHead s n) := .intro fun hs => by
  unfold advanceHead
  split <;> simp [hs]

@[simp] theorem formed_accept (s : State) (c op chk body) (h : ∀ (s : FormedState) f, formed (body s.1 f) = true) :
    KeepsForm s (accept s c op chk body) := .intro fun hs => by
  have hb s f (hs : formed s = true) : formed (body s f) = true := h ⟨s, hs⟩ f
  simp only [accept]
  split
  · simp [hb, hs]
  · split
    · split
      · exact hs
      · split <;> simp [hb, hs]
    · exact hs

/-! ### The operations of Tensor -/

@[simp] theorem formed_writeRow s c o r codes : KeepsForm s (writeRow s c o r codes) := .intro fun hs => by simp [writeRow, hs]
@[simp] theorem formed_writeCbRow s c o r sc vs : KeepsForm s (writeCbRow s c o r sc vs).1 := .intro fun hs => by simp [writeCbRow, hs]

@[simp] theorem formed_writeVals s c o r sc vs : KeepsForm s (writeVals s c o r sc vs).1 := .intro fun hs => by
  unfold writeVals
  split <;> simp [hs]

@[simp] theorem formed_finishRow s c o out r row k : KeepsForm s (finishRow s c o out r row k).1 := .intro fun hs => by
  unfold finishRow
  split <;> simp [hs]

@[simp] theorem formed_countSats s core k : KeepsForm s (countSats s core k) := .intro fun hs => by simp [countSats, hs]
@[simp] theorem formed_gemmRow s c g ws r k : KeepsForm s (gemmRow s c g ws r k).1 := .intro fun hs => by simp [gemmRow, hs]

@[simp] theorem formed_gemmRows c g ws rs x : KeepsForm x.1 (gemmRows c g ws rs x).1 := .intro fun hs => by
  induction rs generalizing x with
  | nil => exact hs
  | cons r rs ih => simp [gemmRows, ih, hs]

@[simp] theorem formed_runGemm s c g : KeepsForm s (runGemm s c g) := .intro fun hs => by simp [runGemm, hs]

@[simp] theorem formed_vecRows c v rs s : KeepsForm s (vecRows c v rs s) := .intro fun hs => by
  induction rs generalizing s with
  | nil => exact hs
  | cons r rs ih => simp [vecRows, ih, hs]

@[simp] theorem formed_runVec s c v : KeepsForm s (runVec s c v) := .intro fun hs => by simp [runVec, hs]

/-! ### The operations of Conv -/

@[simp] theorem formed_convRow s c d oy k : KeepsForm s (convRow s c d oy k).1 := .intro fun hs => by
  unfold convRow
  split <;> simp [hs]

@[simp] theorem formed_convRows c d rs x : KeepsForm x.1 (convRows c d rs x).1 := .intro fun hs => by
  induction rs generalizing x with
  | nil => exact hs
  | cons r rs ih => simp [convRows, ih, hs]

@[simp] theorem formed_runConv s c d : KeepsForm s (runConv s c d) := .intro fun hs => by simp [runConv, hs]

@[simp] theorem formed_poolRow s c d oy k : KeepsForm s (poolRow s c d oy k).1 := .intro fun hs => by
  unfold poolRow
  split <;> simp [hs]

@[simp] theorem formed_poolRows c d rs x : KeepsForm x.1 (poolRows c d rs x).1 := .intro fun hs => by
  induction rs generalizing x with
  | nil => exact hs
  | cons r rs ih => simp [poolRows, ih, hs]

@[simp] theorem formed_runPool s c d : KeepsForm s (runPool s c d) := .intro fun hs => by simp [runPool, hs]

/-! ### The operations of Kv -/

@[simp] theorem formed_setSeq s k q : KeepsForm s (setSeq s k q) := .of_mem rfl
@[simp] theorem formed_dropHot s f : KeepsForm s (dropHot s f) := .intro fun hs => by simp [dropHot, hs]
@[simp] theorem formed_incRef s f : KeepsForm s (incRef s f) := .of_mem rfl
@[simp] theorem formed_decRef s f : KeepsForm s (decRef s f) := .intro fun hs => by simp [decRef, hs]
@[simp] theorem formed_pinFrame s f : KeepsForm s (pinFrame s f) := .of_mem rfl
@[simp] theorem formed_unpinFrame s f : KeepsForm s (unpinFrame s f) := .intro fun hs => by simp [unpinFrame, hs]
@[simp] theorem formed_copyBytes s src dst n : KeepsForm s (copyBytes s src dst n) := .intro fun hs => by simp [copyBytes, hs]
@[simp] theorem formed_copyHead q src dst n s g : KeepsForm s (copyHead q src dst n s g) := .intro fun hs => by simp [copyHead, hs]
@[simp] theorem formed_copyPage s q src dst n : KeepsForm s (copyPage s q src dst n) := .intro fun hs => by simp [copyPage, hs]

theorem formed_cow s k b t (h : cow s k b = some t) : KeepsForm s t := .intro fun hs => by
  simp only [cow] at h
  split at h
  · cases h
  · split at h
    · cases h; simp [hs]
    · cases h

theorem formed_ensureBlock s k b t (h : ensureBlock s k b = some t) : KeepsForm s t := .intro fun hs => by
  unfold ensureBlock at h
  split at h
  · cases h
  · split at h
    · cases h; exact hs
    · split at h
      · split at h
        · exact (formed_cow s k b t h).imp hs
        · cases h; exact hs
      · split at h
        · cases h
        · split at h <;> cases h
          simp [hs]

theorem formed_ensureBlocks k bs s t (h : ensureBlocks k bs s = some t) : KeepsForm s t := .intro fun hs => by
  induction bs generalizing s with
  | nil => cases h; exact hs
  | cons b bs ih =>
    unfold ensureBlocks at h
    split at h
    · cases h
    · exact ih _ h ((formed_ensureBlock s k b _ ‹_›).imp hs)

@[simp] theorem formed_putKv s q p g r isV bs : KeepsForm s (putKv s q p g r isV bs) := .intro fun hs => by simp [putKv, hs]
@[simp] theorem formed_putSummary s q p l : KeepsForm s (putSummary s q p l) := .intro fun hs => by simp [putSummary, hs]

@[simp] theorem formed_putPos s q l pos k v : KeepsForm s (putPos s q l pos k v) := .intro fun hs => by
  unfold putPos
  split <;> simp [hs]

@[simp] theorem formed_appendRows s c key a : KeepsForm s (appendRows s c key a) := .intro fun hs => by
  unfold appendRows
  split <;> simp [hs]

@[simp] theorem formed_attnOut s c q a mode : KeepsForm s (attnOut s c q a mode) := .intro fun hs => by simp [attnOut, hs]

/-! ### The operations of Shutter -/

@[simp] theorem formed_armHw s k own dev typ ln out len par target :
    KeepsForm s (armHw s k own dev typ ln out len par target) := .of_mem rfl

@[simp] theorem formed_releaseEntry s k : KeepsForm s (releaseEntry s k) := .intro fun hs => by
  unfold releaseEntry
  split <;> simp [hs]

@[simp] theorem formed_trimEntries s n ks : KeepsForm s (trimEntries s n ks) := .intro fun hs => by
  induction ks generalizing s with
  | nil => exact hs
  | cons k ks ih => simp [trimEntries, ih, hs]

@[simp] theorem formed_trimLane s n : KeepsForm s (trimLane s n) := .intro fun hs => by simp [trimLane, hs]

@[simp] theorem formed_reserveEntries s n m : KeepsForm s (reserveEntries s n m) := .intro fun hs => by
  induction m generalizing s with
  | zero => exact hs
  | succ m ih =>
    unfold reserveEntries
    split
    · exact hs
    · simp [ih, hs]

@[simp] theorem formed_reserveSpan s n : KeepsForm s (reserveSpan s n) := .intro fun hs => by
  unfold reserveSpan
  split
  · simp [hs]
  · split <;> simp [hs]

@[simp] theorem formed_armLine s n typ target : KeepsForm s (armLine s n typ target) := .intro fun hs => by
  unfold armLine
  split <;> simp [hs]

@[simp] theorem formed_freeLine s n typ : KeepsForm s (freeLine s n typ) := .intro fun hs => by simp [freeLine, hs]

@[simp] theorem formed_syncSpan s n : KeepsForm s (syncSpan s n) := .intro fun hs => by
  simp only [syncSpan]
  (repeat' split) <;> simp [hs]

@[simp] theorem formed_addSpan s n x : KeepsForm s (addSpan s n x) := .intro fun hs => by simp [addSpan, hs]
@[simp] theorem formed_openGap s n start cause : KeepsForm s (openGap s n start cause) := .intro fun hs => by simp [openGap, hs]

@[simp] theorem formed_closeGap s n stop : KeepsForm s (closeGap s n stop) := .intro fun hs => by
  simp only [closeGap]
  split <;> simp [hs]

@[simp] theorem formed_pushAdv s d : KeepsForm s (pushAdv s d) := .of_mem rfl
@[simp] theorem formed_putLaneState s n st cause : KeepsForm s (putLaneState s n st cause) := .intro fun hs => by simp [putLaneState, hs]
@[simp] theorem formed_checkStopped s n : KeepsForm s (checkStopped s n) := .intro fun hs => by simp [checkStopped, hs]
@[simp] theorem formed_startNow s n : KeepsForm s (startNow s n) := .intro fun hs => by simp [startNow, hs]
@[simp] theorem formed_stopNow s n : KeepsForm s (stopNow s n) := .intro fun hs => by simp [stopNow, hs]
@[simp] theorem formed_flagsOne s off bs : KeepsForm s (flagsOne s off bs) := .of_mem rfl
@[simp] theorem formed_encFaultLane cause s n : KeepsForm s (encFaultLane cause s n) := .intro fun hs => by simp [encFaultLane, hs]
@[simp] theorem formed_encCondition s bs cause : KeepsForm s (encCondition s bs cause) := .intro fun hs => by simp [encCondition, hs]
@[simp] theorem formed_periodCount s : KeepsForm s (periodCount s) := .intro fun hs => by simp [periodCount, hs]
@[simp] theorem formed_releaseHolds s : KeepsForm s (releaseHolds s) := .of_mem rfl
@[simp] theorem formed_afterAdvanceLane s n : KeepsForm s (afterAdvanceLane s n) := .intro fun hs => by simp [afterAdvanceLane, hs]
@[simp] theorem formed_afterAdvance s : KeepsForm s (afterAdvance s) := .intro fun hs => by simp [afterAdvance, hs]
@[simp] theorem formed_advanceTo s line rem frac : KeepsForm s (advanceTo s line rem frac) := .intro fun hs => by simp [advanceTo, hs]

/-! ### The operations of FaultOps -/

@[simp] theorem formed_dropBlocks k n bs s : KeepsForm s (dropBlocks k n bs s) := .intro fun hs => by
  induction bs generalizing s with
  | nil => exact hs
  | cons b bs ih =>
    unfold dropBlocks
    split
    · split <;> simp [ih, hs]
    · exact ih s hs

@[simp] theorem formed_truncateSeq s k n : KeepsForm s (truncateSeq s k n) := .intro fun hs => by
  unfold truncateSeq
  split <;> simp [hs]

@[simp] theorem formed_shareBlocks src dst bs s : KeepsForm s (shareBlocks src dst bs s) := .intro fun hs => by
  induction bs generalizing s with
  | nil => exact hs
  | cons b bs ih =>
    unfold shareBlocks
    split
    · split <;> simp [ih, hs]
    · exact hs

@[simp] theorem formed_shareSeq s src dst n : KeepsForm s (shareSeq s src dst n) := .intro fun hs => by
  simp only [shareSeq]
  split <;> simp [hs]

@[simp] theorem formed_closeSeq s k : KeepsForm s (closeSeq s k) := .intro fun hs => by simp [closeSeq, hs]

@[simp] theorem formed_applyEdit s k a2 : KeepsForm s (applyEdit s k a2) := .intro fun hs => by
  unfold applyEdit
  split <;> simp [hs]

@[simp] theorem formed_editReport s k gen steps e : KeepsForm s (editReport s k gen steps e) := .intro fun hs => by simp [editReport, hs]

@[simp] theorem formed_applyEdits k gen steps es s : KeepsForm s (applyEdits k gen steps es s) := .intro fun hs => by
  induction es generalizing s with
  | nil => exact hs
  | cons e es ih => simp [applyEdits, ih, hs]

@[simp] theorem formed_markBound s k : KeepsForm s (markBound s k) := .intro fun hs => by
  unfold markBound
  split <;> simp [hs]

@[simp] theorem formed_runEdits s k es begun : KeepsForm s (runEdits s k es begun) := .intro fun hs => by
  unfold runEdits
  split <;> simp [hs]

@[simp] theorem formed_countStep also s k : KeepsForm s (countStep also s k) := .intro fun hs => by
  unfold countStep
  split <;> simp [hs]

@[simp] theorem formed_countSteps s c also : KeepsForm s (countSteps s c also) := .intro fun hs => by simp [countSteps, hs]

@[simp] theorem formed_boundarySeq moved s k : KeepsForm s (boundarySeq moved s k) := .intro fun hs => by
  unfold boundarySeq
  split <;> simp [hs]

@[simp] theorem formed_closeSteps s c moved : KeepsForm s (closeSteps s c moved) := .intro fun hs => by simp [closeSteps, hs]
@[simp] theorem formed_stepBoundary s c : KeepsForm s (stepBoundary s c) := .intro fun hs => by simp [stepBoundary, hs]
@[simp] theorem formed_setCore s n k : KeepsForm s (setCore s n k) := .of_mem rfl
@[simp] theorem formed_dropDescs s c : KeepsForm s (dropDescs s c) := .intro fun hs => by simp [dropDescs, hs]
@[simp] theorem formed_countLane s n : KeepsForm s (countLane s n) := .of_mem rfl
@[simp] theorem formed_countDev s : KeepsForm s (countDev s) := .of_mem rfl
@[simp] theorem formed_writeRecord s h : KeepsForm s (writeRecord s h) := .intro fun hs => by simp [writeRecord, hs]
@[simp] theorem formed_laneOos s n cause hold : KeepsForm s (laneOos s n cause hold) := .intro fun hs => by simp [laneOos, hs]
@[simp] theorem formed_laneEscalate s n : KeepsForm s (laneEscalate s n) := .intro fun hs => by simp [laneEscalate, hs]
@[simp] theorem formed_oosLane cause s n : KeepsForm s (oosLane cause s n) := .intro fun hs => by simp [oosLane, hs]
@[simp] theorem formed_deviceOos s h : KeepsForm s (deviceOos s h) := .intro fun hs => by simp [deviceOos, hs]
@[simp] theorem formed_escalate s ls dev : KeepsForm s (escalate s ls dev) := .intro fun hs => by simp [escalate, hs]
@[simp] theorem formed_countEvent s ls dev : KeepsForm s (countEvent s ls dev).1 := .intro fun hs => by simp [countEvent, hs]
@[simp] theorem formed_eventFault s h ls dev : KeepsForm s (eventFault s h ls dev) := .intro fun hs => by simp [eventFault, hs]
@[simp] theorem formed_giveField s n key i o : KeepsForm s (giveField s n key i o) := .of_mem rfl
@[simp] theorem formed_giveCmp s n key o pixs cells : KeepsForm s (giveCmp s n key o pixs cells) := .of_mem rfl
@[simp] theorem formed_staleOwed s c : KeepsForm s (staleOwed s c) := formed_foldl _ (fun s w => by split <;> simp) _ _
@[simp] theorem formed_abortFor s c : KeepsForm s (abortFor s c) := .intro fun hs => by simp [abortFor, hs]
@[simp] theorem formed_sweepRing s g : KeepsForm s (sweepRing s g) := .intro fun hs => by simp [sweepRing, hs]
@[simp] theorem formed_sweepRings s : KeepsForm s (sweepRings s) := .intro fun hs => by simp [sweepRings, hs]
@[simp] theorem formed_setAdapt s k a : KeepsForm s (setAdapt s k a) := .of_mem rfl

@[simp] theorem formed_adaptMove s k st cause : KeepsForm s (adaptMove s k st cause) := .intro fun hs => by
  unfold adaptMove
  split <;> simp [hs]

@[simp] theorem formed_adaptFault s c : KeepsForm s (adaptFault s c) := .intro fun hs => by
  unfold adaptFault
  split
  · simp [hs]
  · split <;> simp [hs]

@[simp] theorem formed_faultSample s c cause : KeepsForm s (faultSample s c cause) := .intro fun hs => by
  unfold faultSample
  (repeat' split) <;> simp [hs]

@[simp] theorem formed_resetSteps s c : KeepsForm s (resetSteps s c) := .intro fun hs => by simp [resetSteps, hs]
@[simp] theorem formed_faultOne s c h : KeepsForm s (faultOne s c h) := .intro fun hs => by simp [faultOne, hs]
@[simp] theorem formed_faultCtx s c h : KeepsForm s (faultCtx s c h) := .intro fun hs => by simp [faultCtx, hs]
@[simp] theorem formed_faultDesc s c cause addr : KeepsForm s (faultDesc s c cause addr) := .intro fun hs => by simp [faultDesc, hs]
@[simp] theorem formed_abortPlaced s mask : KeepsForm s (abortPlaced s mask) := .intro fun hs => by simp [abortPlaced, hs]

@[simp] theorem formed_holdNamed s r : KeepsForm s (holdNamed s r) := .intro fun hs => by
  unfold holdNamed
  split <;> simp [hs]

@[simp] theorem formed_freeNamed s r : KeepsForm s (freeNamed s r) := .intro fun hs => by
  unfold freeNamed
  split <;> simp [hs]

@[simp] theorem formed_runTierB s r : KeepsForm s (runTierB s r) := .intro fun hs => by simp [runTierB, hs]
@[simp] theorem formed_askTierB s r : KeepsForm s (askTierB s r) := .intro fun hs => by simp [askTierB, hs]
@[simp] theorem formed_runWaiting s : KeepsForm s (runWaiting s) := .intro fun hs => by simp [runWaiting, hs]
@[simp] theorem formed_hangFault s c h : KeepsForm s (hangFault s c h) := .intro fun hs => by simp [hangFault, hs]

/-! ### The operations of Hoist -/

@[simp] theorem formed_noteExh s c : KeepsForm s (noteExh s c) := .intro fun hs => by simp [noteExh, hs]

@[simp] theorem formed_chargeUnit s c core u clocks : KeepsForm s (chargeUnit s c core u clocks) := .intro fun hs => by
  simp [chargeUnit, hs]

@[simp] theorem formed_chargeDram s c bytes : KeepsForm s (chargeDram s c bytes) := .intro fun hs => by simp [chargeDram, hs]

@[simp] theorem formed_chargeEntry n u p clocks s d : KeepsForm s (chargeEntry n u p clocks s d) := .intro fun hs => by
  simp [chargeEntry, hs]

@[simp] theorem formed_accrueUnit s n u : KeepsForm s (accrueUnit s n u) := .intro fun hs => by
  simp only [accrueUnit]
  split <;> simp [hs]

@[simp] theorem formed_accrue s : KeepsForm s (accrue s) := .intro fun hs => by simp [accrue, hs]
@[simp] theorem formed_applyShadows s : KeepsForm s (applyShadows s) := .of_mem rfl
@[simp] theorem formed_clearHeld s : KeepsForm s (clearHeld s) := .of_mem rfl
@[simp] theorem formed_boundary s : KeepsForm s (boundary s) := .intro fun hs => by simp [boundary, hs]
@[simp] theorem formed_commit s : KeepsForm s (commit s) := .intro fun hs => by simp [commit, hs]

/-! ### The operations of Caption -/

@[simp] theorem formed_setVocab s v x : KeepsForm s (setVocab s v x) := .of_mem rfl
@[simp] theorem formed_setDetok s c x : KeepsForm s (setDetok s c x) := .of_mem rfl
@[simp] theorem formed_setTokStream s n x : KeepsForm s (setTokStream s n x) := .of_mem rfl

@[simp] theorem formed_vocabLoad s f src len v : KeepsForm s (vocabLoad s f src len v) := .intro fun hs => by
  simp only [vocabLoad]
  (repeat' split) <;> simp [hs]

@[simp] theorem formed_capTokenize s f src dst len capn stream tflags vslot split :
    KeepsForm s (capTokenize s f src dst len capn stream tflags vslot split) := .intro fun hs => by
  unfold capTokenize
  (repeat' split) <;> simp [hs]

@[simp] theorem formed_writeChars cs s d : KeepsForm s (writeChars cs s d).1 := .intro fun hs => by
  induction cs generalizing s d with
  | nil => exact hs
  | cons c cs ih =>
    unfold writeChars
    split
    · exact ih s d hs
    · split <;> simp [ih, hs]

@[simp] theorem formed_pushByte s d c : KeepsForm s (pushByte s d c).1 := .intro fun hs => by
  simp only [pushByte]
  (repeat' split) <;> simp [hs]

@[simp] theorem formed_pushAll cs s d : KeepsForm s (pushAll cs s d).1 := .intro fun hs => by
  induction cs generalizing s d with
  | nil => exact hs
  | cons c cs ih => simp [pushAll, ih, hs]

@[simp] theorem formed_feedRaw s d bs final : KeepsForm s (feedRaw s d bs final).1 := .intro fun hs => by simp [feedRaw, hs]
@[simp] theorem formed_writeHeader s d : KeepsForm s (writeHeader s d) := .intro fun hs => by simp [writeHeader, hs]
@[simp] theorem formed_cacheLook s cls bytes : KeepsForm s (cacheLook s cls bytes) := .intro fun hs => by simp [cacheLook, hs]

@[simp] theorem formed_serveToken s cls d v t conf : KeepsForm s (serveToken s cls d v t conf).1 := .intro fun hs => by
  simp [serveToken, hs]

@[simp] theorem formed_flushHeld s d : KeepsForm s (flushHeld s d).1 := .intro fun hs => by
  unfold flushHeld
  split <;> simp [hs]

@[simp] theorem formed_finishText s d : KeepsForm s (finishText s d).1 := .intro fun hs => by simp [finishText, hs]
@[simp] theorem formed_chargeText s c old d : KeepsForm s (chargeText s c old d) := .intro fun hs => by simp [chargeText, hs]

@[simp] theorem formed_detokStep s c : KeepsForm s (detokStep s c) := .intro fun hs => by
  simp only [detokStep]
  (repeat' split) <;> simp [hs]

@[simp] theorem formed_detokPut s c t conf : KeepsForm s (detokPut s c t conf) := .intro fun hs => by
  unfold detokPut
  split <;> simp [hs]

@[simp] theorem formed_detokEnd s c : KeepsForm s (detokEnd s c) := .intro fun hs => by
  unfold detokEnd
  split <;> simp [hs]

/-! ### The operations of Ecc -/

@[simp] theorem formed_setChan s n c : KeepsForm s (setChan s n c) := .of_mem rfl
@[simp] theorem formed_corrected s a : KeepsForm s (corrected s a) := .intro fun hs => by simp [corrected, hs]
@[simp] theorem formed_poisonBurst s n a : KeepsForm s (poisonBurst s n a) := .intro fun hs => by simp [poisonBurst, hs]
@[simp] theorem formed_uncorrected s a : KeepsForm s (uncorrected s a) := .intro fun hs => by simp [uncorrected, hs]
@[simp] theorem formed_eccErrors s l : KeepsForm s (eccErrors s l) := .intro fun hs => by simp [eccErrors, hs]

/-! ### The operations of Channels -/

@[simp] theorem formed_newMode s t : KeepsForm s (newMode s t) := .of_mem rfl
@[simp] theorem formed_refreshSlot s n : KeepsForm s (refreshSlot s n) := .intro fun hs => by simp [refreshSlot, hs]
@[simp] theorem formed_caFail s n : KeepsForm s (caFail s n) := .intro fun hs => by simp [caFail, hs]
@[simp] theorem formed_replay s n b row : KeepsForm s (replay s n b row) := .intro fun hs => by simp [replay, hs]
@[simp] theorem formed_scrub s n errs : KeepsForm s (scrub s n errs) := .intro fun hs => by simp [scrub, hs]
@[simp] theorem formed_neighbourRefresh s n key : KeepsForm s (neighbourRefresh s n key) := .of_mem rfl
@[simp] theorem formed_holdNeighbour s n key : KeepsForm s (holdNeighbour s n key) := .intro fun hs => by simp [holdNeighbour, hs]
@[simp] theorem formed_releaseHeld s n : KeepsForm s (releaseHeld s n) := .intro fun hs => by simp [releaseHeld, hs]
@[simp] theorem formed_setFill s e : KeepsForm s (setFill s e) := .intro fun hs => by simp [setFill, hs]

/-! ### The operations of Front -/

@[simp] theorem formed_setFe s f : KeepsForm s (setFe s f) := .of_mem rfl
@[simp] theorem formed_trackSum s p ys : KeepsForm s (trackSum s p ys) := .intro fun hs => by simp [trackSum, hs]
@[simp] theorem formed_whiteUpdate s sums : KeepsForm s (whiteUpdate s sums) := .intro fun hs => by simp [whiteUpdate, hs]
@[simp] theorem formed_endCapture s c : KeepsForm s (endCapture s c) := .intro fun hs => by simp [endCapture, hs]
@[simp] theorem formed_capLine s p raws : KeepsForm s (capLine s p raws) := .intro fun hs => by simp [capLine, hs]
@[simp] theorem formed_copyRefs s p : KeepsForm s (copyRefs s p) := .of_mem rfl

@[simp] theorem formed_applyPort p as s : KeepsForm s (applyPort p as s) := .intro fun hs => by
  induction as generalizing s with
  | nil => exact hs
  | cons a as ih => simp [applyPort, ih, hs]

@[simp] theorem formed_lineBoundary s p : KeepsForm s (lineBoundary s p) := .intro fun hs => by simp [lineBoundary, hs]

@[simp] theorem formed_takeLine s p xs : KeepsForm s (takeLine s p xs) := .intro fun hs => by
  unfold takeLine
  split <;> simp [hs]

@[simp] theorem formed_endLine s p : KeepsForm s (endLine s p) := .intro fun hs => by simp [endLine, hs]
@[simp] theorem formed_stripLink s p lost lock : KeepsForm s (stripLink s p lost lock) := .intro fun hs => by simp [stripLink, hs]
@[simp] theorem formed_portOff s p : KeepsForm s (portOff s p) := .intro fun hs => by simp [portOff, hs]
@[simp] theorem formed_addSeg s tgt p g : KeepsForm s (addSeg s tgt p g) := .intro fun hs => by simp [addSeg, hs]
@[simp] theorem formed_pulseLsync s p : KeepsForm s (pulseLsync s p) := .intro fun hs => by simp [pulseLsync, hs]
@[simp] theorem formed_trigPort tgt s p : KeepsForm s (trigPort tgt s p) := .intro fun hs => by simp [trigPort, hs]
@[simp] theorem formed_fireTrig s k : KeepsForm s (fireTrig s k) := .intro fun hs => by simp [fireTrig, hs]
@[simp] theorem formed_startGen s ports start period : KeepsForm s (startGen s ports start period) := .of_mem rfl

@[simp] theorem formed_trigArm s f start period ports : KeepsForm s (trigArm s f start period ports) := .intro fun hs => by
  unfold trigArm
  split
  · simp [hs]
  · split <;> simp [hs]

@[simp] theorem formed_stopPorts ports s k : KeepsForm s (stopPorts ports s k) := .intro fun hs => by simp [stopPorts, hs]
@[simp] theorem formed_putSeg l s g : KeepsForm s (putSeg l s g) := .intro fun hs => by simp [putSeg, hs]

@[simp] theorem formed_closeWin s w : KeepsForm s (closeWin s w) := .intro fun hs => by
  simp only [closeWin]
  (repeat' split) <;> simp [hs]

@[simp] theorem formed_closeWins s : KeepsForm s (closeWins s) := .intro fun hs => by simp [closeWins, hs]
@[simp] theorem formed_stripeAcc s l segs : KeepsForm s (stripeAcc s l segs) := .intro fun hs => by simp [stripeAcc, hs]
@[simp] theorem formed_overflow s o : KeepsForm s (overflow s o) := .intro fun hs => by simp [overflow, hs]

@[simp] theorem formed_rasterRow s g ovf : KeepsForm s (rasterRow s g ovf) := .intro fun hs => by
  simp only [rasterRow]
  (repeat' split) <;> simp [hs]

@[simp] theorem formed_setSb s b x : KeepsForm s (setSb s b x) := .of_mem rfl
@[simp] theorem formed_release1 s b pos x : KeepsForm s (release1 s b pos x) := .of_mem rfl

@[simp] theorem formed_releaseUpTo b pos n s : KeepsForm s (releaseUpTo b pos n s) := .intro fun hs => by
  induction n generalizing s with
  | zero => exact hs
  | succ n ih =>
    unfold releaseUpTo
    split
    · simp [ih, hs]
    · exact hs

@[simp] theorem formed_releaseAll s b : KeepsForm s (releaseAll s b) := .intro fun hs => by simp [releaseAll, hs]

@[simp] theorem formed_makeStale b s k : KeepsForm s (makeStale b s k) := .intro fun hs => by
  unfold makeStale
  split <;> simp [hs]

@[simp] theorem formed_overwriteRow s b r x : KeepsForm s (overwriteRow s b r x) := .intro fun hs => by simp [overwriteRow, hs]

@[simp] theorem formed_writeStripe s b row : KeepsForm s (writeStripe s b row) := .intro fun hs => by
  unfold writeStripe
  split <;> simp [hs]

@[simp] theorem formed_sbWrite s b v : KeepsForm s (sbWrite s b v) := .intro fun hs => by simp [sbWrite, hs]

/-! ### The operations of Codes -/

@[simp] theorem formed_setCode s c : KeepsForm s (setCode s c) := .of_mem rfl
@[simp] theorem formed_queueField n o s i : KeepsForm s (queueField n o s i) := .intro fun hs => by simp [queueField, hs]
@[simp] theorem formed_queueObj n s o : KeepsForm s (queueObj n s o) := .intro fun hs => by simp [queueObj, hs]
@[simp] theorem formed_queueLane s n : KeepsForm s (queueLane s n) := .intro fun hs => by simp [queueLane, hs]
@[simp] theorem formed_queueCaptured s : KeepsForm s (queueCaptured s) := .intro fun hs => by simp [queueCaptured, hs]

@[simp] theorem formed_codeStart s : KeepsForm s (codeStart s) := .intro fun hs => by
  simp only [codeStart]
  (repeat' split) <;> simp [hs]

@[simp] theorem formed_countDecoded s c l : KeepsForm s (countDecoded s c l) := .of_mem rfl
@[simp] theorem formed_rsFlag s bad : KeepsForm s (rsFlag s bad) := .intro fun hs => by simp [rsFlag, hs]

@[simp] theorem formed_codeOut s o b c r : KeepsForm s (codeOut s o b c r).1 := .intro fun hs => by
  simp only [codeOut]
  (repeat' split) <;> simp [hs]

@[simp] theorem formed_codeDone s q r : KeepsForm s (codeDone s q r) := .intro fun hs => by
  simp only [codeDone]
  (repeat' split) <;> simp [hs]

/-! ### The operations of Capture -/

@[simp] theorem formed_captureOne k s d : KeepsForm s (captureOne k s d) := .intro fun hs => by
  unfold captureOne
  split <;> simp [hs]

@[simp] theorem formed_captureSlot s k : KeepsForm s (captureSlot s k) := .intro fun hs => by
  unfold captureSlot
  split <;> simp [hs]

@[simp] theorem formed_captureDue s : KeepsForm s (captureDue s) := .intro fun hs => by simp [captureDue, hs]

@[simp] theorem formed_captureFor n o s k : KeepsForm s (captureFor n o s k) := .intro fun hs => by
  unfold captureFor
  split <;> simp [hs]

@[simp] theorem formed_captureObj s n o : KeepsForm s (captureObj s n o) := .intro fun hs => by simp [captureObj, hs]

/-! ### The operations of Dev -/

@[simp] theorem formed_setStream s k x : KeepsForm s (setStream s k x) := .of_mem rfl
@[simp] theorem formed_countPix s n : KeepsForm s (countPix s n) := .of_mem rfl

@[simp] theorem formed_streamOpen s f x : KeepsForm s (streamOpen s f x) := .intro fun hs => by
  unfold streamOpen
  (repeat' split) <;> simp [hs]

@[simp] theorem formed_auxReport s typ k u reason : KeepsForm s (auxReport s typ k u reason) := .intro fun hs => by simp [auxReport, hs]
@[simp] theorem formed_auxSkip reason s k u : KeepsForm s (auxSkip reason s k u) := .intro fun hs => by simp [auxSkip, hs]
@[simp] theorem formed_lowWater s k : KeepsForm s (lowWater s k) := .intro fun hs => by simp [lowWater, hs]
@[simp] theorem formed_takeUnit k s u : KeepsForm s (takeUnit k s u) := .intro fun hs => by simp [takeUnit, hs]
@[simp] theorem formed_enterSkip s k : KeepsForm s (enterSkip s k) := .intro fun hs => by simp [enterSkip, hs]

@[simp] theorem formed_startPic s p : KeepsForm s (startPic s p) := .intro fun hs => by
  simp only [startPic]
  (repeat' split) <;> simp [hs]

@[simp] theorem formed_startPics s : KeepsForm s (startPics s) := .intro fun hs => by simp [startPics, hs]
@[simp] theorem formed_addRef s k u : KeepsForm s (addRef s k u) := .of_mem rfl
@[simp] theorem formed_enqueueRefs s slot is rep : KeepsForm s (enqueueRefs s slot is rep) := .intro fun hs => by simp [enqueueRefs, hs]
@[simp] theorem formed_freeRef s k : KeepsForm s (freeRef s k) := .intro fun hs => by simp [freeRef, hs]
@[simp] theorem formed_dropRef slot s k : KeepsForm s (dropRef slot s k) := .intro fun hs => by simp [dropRef, hs]
@[simp] theorem formed_dropRefs s slot : KeepsForm s (dropRefs s slot) := .intro fun hs => by simp [dropRefs, hs]
@[simp] theorem formed_refNext s k : KeepsForm s (refNext s k) := .intro fun hs => by simp [refNext, hs]
@[simp] theorem formed_refDone s k u p : KeepsForm s (refDone s k u p) := .intro fun hs => by simp [refDone, hs]
@[simp] theorem formed_refBad s k u : KeepsForm s (refBad s k u) := .intro fun hs => by simp [refBad, hs]
@[simp] theorem formed_streamFeed s f src k u : KeepsForm s (streamFeed s f src k u) := .intro fun hs => by simp [streamFeed, hs]
@[simp] theorem formed_streamClose s f k : KeepsForm s (streamClose s f k) := .intro fun hs => by simp [streamClose, hs]

@[simp] theorem formed_flushDone s k bytes : KeepsForm s (flushDone s k bytes) := .intro fun hs => by
  simp only [flushDone]
  split <;> simp [hs]

@[simp] theorem formed_abandonPic s k u reason : KeepsForm s (abandonPic s k u reason) := .intro fun hs => by simp [abandonPic, hs]
@[simp] theorem formed_putPlane b base pitch rows s : KeepsForm s (putPlane b base pitch rows s) := .intro fun hs => by simp [putPlane, hs]
@[simp] theorem formed_putFrame s x p : KeepsForm s (putFrame s x p) := .intro fun hs => by simp [putFrame, hs]
@[simp] theorem formed_queueFrame s k u p : KeepsForm s (queueFrame s k u p) := .intro fun hs => by simp [queueFrame, hs]
@[simp] theorem formed_decodeErr s k u err : KeepsForm s (decodeErr s k u err) := .intro fun hs => by simp [decodeErr, hs]

@[simp] theorem formed_dequeueFrom k us s : KeepsForm s (dequeueFrom k us s) := .intro fun hs => by
  induction us generalizing s with
  | nil => exact hs
  | cons u us ih =>
    simp only [dequeueFrom]
    split <;> simp [ih, hs]

@[simp] theorem formed_tileStale s w : KeepsForm s (tileStale s w) := .intro fun hs => by
  unfold tileStale
  split <;> simp [hs]

@[simp] theorem formed_poisonTile s k tile w : KeepsForm s (poisonTile s k tile w) := .intro fun hs => by simp [poisonTile, hs]
@[simp] theorem formed_tileRepaired s k tile : KeepsForm s (tileRepaired s k tile) := .intro fun hs => by simp [tileRepaired, hs]
@[simp] theorem formed_bumpWrap s off : KeepsForm s (bumpWrap s off) := .of_mem rfl
@[simp] theorem formed_installTile s t : KeepsForm s (installTile s t) := .of_mem rfl

@[simp] theorem formed_noteTile s tile w : KeepsForm s (noteTile s tile w) := .intro fun hs => by
  unfold noteTile
  split <;> simp [hs]

@[simp] theorem formed_readTile s t w : KeepsForm s (readTile s t w) := .intro fun hs => by simp [readTile, hs]

/-! ### The operations of Adaptation -/

@[simp] theorem formed_putBuffer s a b : KeepsForm s (putBuffer s a b) := .intro fun hs => by simp [putBuffer, hs]
@[simp] theorem formed_initBuffers s a : KeepsForm s (initBuffers s a) := .intro fun hs => by simp [initBuffers, hs]

@[simp] theorem formed_adaptOpen s f a : KeepsForm s (adaptOpen s f a) := .intro fun hs => by
  unfold adaptOpen
  (repeat' split) <;> simp [hs]

@[simp] theorem formed_adaptConfirm s f first last k n : KeepsForm s (adaptConfirm s f first last k n) := .intro fun hs => by
  unfold adaptConfirm
  split <;> simp [hs]

@[simp] theorem formed_adaptSample s f src lbl map len w h ll k kind :
    KeepsForm s (adaptSample s f src lbl map len w h ll k kind) := .intro fun hs => by
  unfold adaptSample
  split <;> simp [hs]

theorem formed_takeStream s a r (h : takeStream s a = some r) : KeepsForm s r.1 := .intro fun hs => by
  unfold takeStream at h
  split at h
  · split at h <;> cases h
    simp [hs]
  · cases h; exact hs

@[simp] theorem formed_adaptRun s f k : KeepsForm s (adaptRun s f k) := .intro fun hs => by
  unfold adaptRun
  split
  · simp [hs]
  · rename_i a _
    cases h : takeStream s a with
    | none => simp [hs]
    | some r => simp [formed_takeStream s a r h, hs]

@[simp] theorem formed_adaptPause s f k : KeepsForm s (adaptPause s f k) := .intro fun hs => by
  unfold adaptPause
  split <;> simp [hs]

@[simp] theorem formed_putGrad s a g : KeepsForm s (putGrad s a g) := .intro fun hs => by simp [putGrad, hs]

@[simp] theorem formed_sampleResolve s k slot a r : KeepsForm s (sampleResolve s k slot a r) := .intro fun hs => by
  simp only [sampleResolve]
  split <;> simp [hs]

@[simp] theorem formed_putStep s a grads : KeepsForm s (putStep s a grads) := .intro fun hs => by simp [putStep, hs]
@[simp] theorem formed_batchClose s k a : KeepsForm s (batchClose s k a) := .intro fun hs => by simp [batchClose, hs]

@[simp] theorem formed_adaptEval s f k : KeepsForm s (adaptEval s f k) := .intro fun hs => by
  unfold adaptEval
  split <;> simp [hs]

@[simp] theorem formed_evalDone s k a res : KeepsForm s (evalDone s k a res) := .intro fun hs => by simp [evalDone, hs]

@[simp] theorem formed_adaptCommit s f k slot : KeepsForm s (adaptCommit s f k slot) := .intro fun hs => by
  unfold adaptCommit
  split <;> simp [hs]

@[simp] theorem formed_adaptClose s f k : KeepsForm s (adaptClose s f k) := .intro fun hs => by
  unfold adaptClose
  split
  · simp [hs]
  · split <;> simp [hs]

/-! ### The operations of Bed -/

@[simp] theorem formed_setBed s b : KeepsForm s (setBed s b) := .of_mem rfl

@[simp] theorem formed_armStep s at' dir : KeepsForm s (armStep s at' dir) := .intro fun hs => by
  unfold armStep
  split <;> simp [hs]

@[simp] theorem formed_bedRetry s : KeepsForm s (bedRetry s) := .intro fun hs => by
  unfold bedRetry
  split <;> simp [hs]

@[simp] theorem formed_freeBedEntries s : KeepsForm s (freeBedEntries s) := .intro fun hs => by simp [freeBedEntries, hs]
@[simp] theorem formed_bedGo s : KeepsForm s (bedGo s) := .intro fun hs => by simp [bedGo, hs]
@[simp] theorem formed_bedResumeAuto s : KeepsForm s (bedResumeAuto s) := .intro fun hs => by simp [bedResumeAuto, hs]
@[simp] theorem formed_bedStops s : KeepsForm s (bedStops s) := .intro fun hs => by simp [bedStops, hs]
@[simp] theorem formed_stepFire s k : KeepsForm s (stepFire s k) := .intro fun hs => by simp [stepFire, hs]
@[simp] theorem formed_bedLine s : KeepsForm s (bedLine s) := .intro fun hs => by simp [bedLine, hs]
@[simp] theorem formed_lineStep s : KeepsForm s (lineStep s) := .intro fun hs => by simp [lineStep, hs]
@[simp] theorem formed_goHome s : KeepsForm s (goHome s) := .intro fun hs => by simp [goHome, hs]
@[simp] theorem formed_runEnd s : KeepsForm s (runEnd s) := .intro fun hs => by simp [runEnd, hs]

/-! ### The operations of Desc -/

@[simp] theorem formed_settleIdle s c : KeepsForm s (settleIdle s c) := .intro fun hs => by simp [settleIdle, hs]

/-! ### The operations of Search -/

@[simp] theorem formed_putNextIn x d s l : KeepsForm s (putNextIn x d s l) := .intro fun hs => by simp [putNextIn, hs]

@[simp] theorem formed_beamTake k olds s ij : KeepsForm s (beamTake k olds s ij) := .intro fun hs => by
  unfold beamTake
  split <;> simp [hs]

@[simp] theorem formed_beamMove s k parents : KeepsForm s (beamMove s k parents).1 := .intro fun hs => by simp [beamMove, hs]

@[simp] theorem formed_setDec s k d : KeepsForm s (setDec s k d) := .intro fun hs => by
  unfold setDec
  split <;> simp [hs]

@[simp] theorem formed_handOn s c d w finish : KeepsForm s (handOn s c d w finish) := .intro fun hs => by
  simp only [handOn]
  split
  · split
    · exact hs
    · simp [hs]
  · split
    · exact (formed_foldl _ (fun s t => by simp) _ _).imp (by simp [hs])
    · exact hs

@[simp] theorem formed_selectToken c sm k : KeepsForm sm.1 (selectToken c sm k).1 := .intro fun hs => by
  simp only [selectToken]
  (repeat' split) <;> simp [hs]

@[simp] theorem formed_endProgram s c : KeepsForm s (endProgram s c) := .intro fun hs => by simp [endProgram, hs]
@[simp] theorem formed_nextStep s c : KeepsForm s (nextStep s c) := .intro fun hs => by simp [nextStep, hs]

@[simp] theorem formed_endRun s c : KeepsForm s (endRun s c) := .intro fun hs => by
  simp only [endRun]
  split
  · simp [hs]
  · split
    · refine (formed_foldl _ (fun s k => ?_) _ _).imp hs
      (repeat' split) <;> simp
    · split
      · simp [hs]
      · simp [hs]

@[simp] theorem formed_settle s c : KeepsForm s (settle s c) := .intro fun hs => by simp [settle, hs]

/-! ### The operations of Issue -/

@[simp] theorem formed_hold s c : KeepsForm s (hold s c) := .of_mem rfl
@[simp] theorem formed_advance s c k : KeepsForm s (advance s c k) := .intro fun hs => by simp [advance, hs]
@[simp] theorem formed_enqueue s c q : KeepsForm s (enqueue s c q) := .of_mem rfl
@[simp] theorem formed_issueWith s c k q : KeepsForm s (issueWith s c k q) := .intro fun hs => by simp [issueWith, hs]
@[simp] theorem formed_faultPoison s c p : KeepsForm s (faultPoison s c p) := .intro fun hs => by simp [faultPoison, hs]

@[simp] theorem formed_dispatch s c typ go (h : ∀ (s : FormedState) k op, formed (go s.1 k op) = true) :
    KeepsForm s (dispatch s c typ go) := .intro fun hs => by
  have hg s k op (hs : formed s = true) : formed (go s k op) = true := h ⟨s, hs⟩ k op
  simp only [dispatch]
  repeat' split
  all_goals simp [hg, hs]

@[simp] theorem formed_issueGemm s c k g : KeepsForm s (issueGemm s c k g) := .intro fun hs => by simp [issueGemm, hs]

@[simp] theorem formed_readPage q l sn b : KeepsForm sn.1 (readPage q l sn b).1 := .intro fun hs => by
  simp only [readPage]
  (repeat' split) <;> simp [hs]

@[simp] theorem formed_takeReads s q l r : KeepsForm s (takeReads s q l r).1 := .intro fun hs => by simp [takeReads, hs]

@[simp] theorem formed_poisonFlags s c a : KeepsForm s (poisonFlags s c a).1 := .intro fun hs => by
  unfold poisonFlags
  split <;> simp [hs]

@[simp] theorem formed_kvPoisonFault s c a : KeepsForm s (kvPoisonFault s c a) := .intro fun hs => by simp [kvPoisonFault, hs]
@[simp] theorem formed_kvFault s c cause : KeepsForm s (kvFault s c cause) := .intro fun hs => by simp [kvFault, hs]

@[simp] theorem formed_beginStep s k : KeepsForm s (beginStep s k) := .intro fun hs => by
  unfold beginStep
  split <;> simp [hs]

@[simp] theorem formed_setDeg s c : KeepsForm s (setDeg s c) := .of_mem rfl

@[simp] theorem formed_issueAttn s c k a : KeepsForm s (issueAttn s c k a) := .intro fun hs => by
  simp only [issueAttn]
  split
  · simp [hs]
  · simp [hs]
  · split
    · simp [hs]
    · split
      · simp [hs]
      · rename_i t h
        split <;> simp [formed_ensureBlocks _ _ s t h, hs]

@[simp] theorem formed_issueRing s c k a : KeepsForm s (issueRing s c k a) := .intro fun hs => by
  unfold issueRing
  split <;> simp [hs]

@[simp] theorem formed_updDesc s g c f : KeepsForm s (updDesc s g c f) := .of_mem rfl
@[simp] theorem formed_scratch r q s e : KeepsForm s (scratch r q s e) := .intro fun hs => by simp [scratch, hs]

@[simp] theorem formed_memberTake g q nb falls extra s m rd : KeepsForm s (memberTake g q nb falls extra s m rd) := .intro fun hs => by
  simp [memberTake, hs]

@[simp] theorem formed_ringPoison s g c a : KeepsForm s (ringPoison s g c a) := .intro fun hs => by simp [ringPoison, hs]

theorem formed_ringEnsure k ms s t (h : ringEnsure k ms s = .ok t) : KeepsForm s t := .intro fun hs => by
  induction ms generalizing s with
  | nil => cases h; exact hs
  | cons m ms ih =>
    unfold ringEnsure at h
    split at h
    · cases h
    · exact ih _ h ((formed_ensureBlocks k _ s _ ‹_›).imp hs)

@[simp] theorem formed_leaveBarrier g k s m : KeepsForm s (leaveBarrier g k s m) := .intro fun hs => by simp [leaveBarrier, hs]

@[simp] theorem formed_ringGo s g r ms : KeepsForm s (ringGo s g r ms) := .intro fun hs => by
  simp only [ringGo]
  split
  · split
    · simp [hs]
    · split
      · simp [hs]
      · rename_i t h
        have ht : formed t = true := by
          split at h
          · exact (formed_ringEnsure _ _ _ t h).imp (by simp [hs])
          · cases h; simp [hs]
        split <;> simp [ht]
  · exact hs

@[simp] theorem formed_ringFinish s d a q r : KeepsForm s (ringFinish s d a q r) := .intro fun hs => by simp [ringFinish, hs]

@[simp] theorem formed_runAttn s d a : KeepsForm s (runAttn s d a) := .intro fun hs => by
  simp only [runAttn]
  (repeat' split) <;> simp [hs]

@[simp] theorem formed_control s c k pc : KeepsForm s (control s c k pc) := .intro fun hs => by simp [control, hs]

/-! ### The operations of Fetch -/

@[simp] theorem formed_dmaRows x d rs s : KeepsForm s (dmaRows x d rs s) := .intro fun hs => by
  induction rs generalizing s with
  | nil => exact hs
  | cons r rs ih => simp [dmaRows, ih, hs]

@[simp] theorem formed_runDma s x d : KeepsForm s (runDma s x d) := .intro fun hs => by simp [runDma, hs]

@[simp] theorem formed_staleFetch s c w : KeepsForm s (staleFetch s c w) := .intro fun hs => by
  unfold staleFetch
  (repeat' split) <;> simp [hs]

@[simp] theorem formed_deliverMap s c m : KeepsForm s (deliverMap s c m) := .intro fun hs => by
  simp only [deliverMap]
  (repeat' split) <;> simp [hs]

@[simp] theorem formed_runQ s d : KeepsForm s (runQ s d) := .intro fun hs => by
  unfold runQ
  split <;> simp [hs]

@[simp] theorem formed_commitApp s d : KeepsForm s (commitApp s d) := .intro fun hs => by
  unfold commitApp
  split
  · simp [hs]
  · split <;> simp [hs]

@[simp] theorem formed_finishEntry u p clocks map s d : KeepsForm s (finishEntry u p clocks map s d) := .intro fun hs => by
  simp only [finishEntry]
  split <;> simp [hs]

@[simp] theorem formed_descComplete s n u clocks map : KeepsForm s (descComplete s n u clocks map) := .intro fun hs => by
  simp only [descComplete]
  split <;> simp [hs]

/-! ### The operations of Ctx -/

@[simp] theorem formed_ctxOpen s f a c : KeepsForm s (ctxOpen s f a c) := .intro fun hs => by simp [ctxOpen, hs]
@[simp] theorem formed_resetSearches s c : KeepsForm s (resetSearches s c) := .of_mem rfl

@[simp] theorem formed_launch s c cnt : KeepsForm s (launch s c cnt).1 := .intro fun hs => by
  simp only [launch]
  (repeat' split) <;> simp [hs]

@[simp] theorem formed_launchFire s k : KeepsForm s (launchFire s k) := .intro fun hs => by simp [launchFire, hs]
@[simp] theorem formed_launchesDue s c : KeepsForm s (launchesDue s c) := .intro fun hs => by simp [launchesDue, hs]
@[simp] theorem formed_stopNowCtx s c : KeepsForm s (stopNowCtx s c) := .of_mem rfl
@[simp] theorem formed_ctxStop s f c : KeepsForm s (ctxStop s f c) := .intro fun hs => by simp [ctxStop, hs]

@[simp] theorem formed_resumeCtx s c : KeepsForm s (resumeCtx s c) := .intro fun hs => by
  simp only [resumeCtx]
  split <;> simp [hs]

@[simp] theorem formed_closeCtx s c : KeepsForm s (closeCtx s c) := .intro fun hs => by simp [closeCtx, hs]
@[simp] theorem formed_seqOpen s f param c n : KeepsForm s (seqOpen s f param c n) := .intro fun hs => by simp [seqOpen, hs]

@[simp] theorem formed_giveEdit s k e : KeepsForm s (giveEdit s k e).1 := .intro fun hs => by
  unfold giveEdit
  split
  · simp [hs]
  · split <;> simp [hs]

@[simp] theorem formed_seqClose s f c n : KeepsForm s (seqClose s f c n) := .intro fun hs => by
  unfold seqClose
  split
  · simp [hs]
  · simp [hs]

@[simp] theorem formed_ptEdit s f n c k srcC srcK op : KeepsForm s (ptEdit s f n c k srcC srcK op) := .intro fun hs => by
  simp only [ptEdit]
  (repeat' split) <;> simp [hs]

@[simp] theorem formed_setGroup s g r : KeepsForm s (setGroup s g r) := .of_mem rfl

@[simp] theorem formed_ringOpen s f param : KeepsForm s (ringOpen s f param) := .intro fun hs => by
  unfold ringOpen
  (repeat' split) <;> simp [hs]

/-! ### The operations of Time -/

@[simp] theorem formed_forwardStep s : KeepsForm s (forwardStep s) := .intro fun hs => by simp [forwardStep, hs]
@[simp] theorem formed_forwardCount s : KeepsForm s (forwardCount s) := .intro fun hs => by simp [forwardCount, hs]
@[simp] theorem formed_reverseCount s : KeepsForm s (reverseCount s) := .intro fun hs => by simp [reverseCount, hs]
@[simp] theorem formed_zEdge s : KeepsForm s (zEdge s) := .intro fun hs => by simp [zEdge, hs]
@[simp] theorem formed_illegalTransition s : KeepsForm s (illegalTransition s) := .intro fun hs => by simp [illegalTransition, hs]
@[simp] theorem formed_shutterArm s k w2 : KeepsForm s (shutterArm s k w2) := .intro fun hs => by simp [shutterArm, hs]
@[simp] theorem formed_armPulse s k n i cfg a origin : KeepsForm s (armPulse s k n i cfg a origin) := formed_armHw ..

@[simp] theorem formed_deadlineFire s k : KeepsForm s (deadlineFire s k) := .intro fun hs => by
  simp only [deadlineFire]
  split <;> simp [hs]

@[simp] theorem formed_startLine s n : KeepsForm s (startLine s n) := .intro fun hs => by simp [startLine, hs]
@[simp] theorem formed_stopLine s n : KeepsForm s (stopLine s n) := .intro fun hs => by simp [stopLine, hs]
@[simp] theorem formed_spanStep s n : KeepsForm s (spanStep s n) := .intro fun hs => by simp [spanStep, hs]

/-! ### The operations of Lanes -/

@[simp] theorem formed_badImage s f i : KeepsForm s (badImage s f i) := .intro fun hs => by simp [badImage, hs]
@[simp] theorem formed_jobLoad s f src len slot i : KeepsForm s (jobLoad s f src len slot i) := .intro fun hs => by simp [jobLoad, hs]

@[simp] theorem formed_jobLoadDone s slot : KeepsForm s (jobLoadDone s slot) := .intro fun hs => by
  simp only [jobLoadDone]
  (repeat' split) <;> simp [hs]

@[simp] theorem formed_jobUnload s f slot : KeepsForm s (jobUnload s f slot) := .intro fun hs => by simp [jobUnload, hs]
@[simp] theorem formed_lateGap s n start : KeepsForm s (lateGap s n start) := .intro fun hs => by simp [lateGap, hs]
@[simp] theorem formed_laneStart s n start : KeepsForm s (laneStart s n start) := .intro fun hs => by simp [laneStart, hs]
@[simp] theorem formed_laneStop s n stop : KeepsForm s (laneStop s n stop) := .intro fun hs => by simp [laneStop, hs]
@[simp] theorem formed_setVar s f src n v len : KeepsForm s (setVar s f src n v len) := .intro fun hs => by simp [setVar, hs]
@[simp] theorem formed_laneRestore s n : KeepsForm s (laneRestore s n) := .intro fun hs => by simp [laneRestore, hs]

/-! ### The operations of Rings -/

@[simp] theorem formed_sqDelete s f n : KeepsForm s (sqDelete s f n) := .intro fun hs => by
  unfold sqDelete
  split <;> simp [hs]

@[simp] theorem formed_badDoorbell s off : KeepsForm s (badDoorbell s off) := .intro fun hs => by simp [badDoorbell, hs]

@[simp] theorem formed_sqTail s n idx : KeepsForm s (sqTail s n idx) := .intro fun hs => by
  unfold sqTail
  split <;> simp [hs]

@[simp] theorem formed_postWaiting n ps s : KeepsForm s (postWaiting n ps s) := .intro fun hs => by
  induction ps generalizing s with
  | nil => exact hs
  | cons p ps ih =>
    unfold postWaiting
    split
    · exact hs
    · simp [ih, hs]

@[simp] theorem formed_cqHead s n idx : KeepsForm s (cqHead s n idx) := .intro fun hs => by
  unfold cqHead
  split <;> simp [hs]

@[simp] theorem formed_rqHead s n idx : KeepsForm s (rqHead s n idx) := .intro fun hs => by
  unfold rqHead
  split <;> simp [hs]

@[simp] theorem formed_failedCopy s dst len : KeepsForm s (failedCopy s dst len) := formed_fillFree ..
@[simp] theorem formed_runCopy s f src dst len ecc : KeepsForm s (runCopy s f src dst len ecc) := .intro fun hs => by simp [runCopy, hs]
@[simp] theorem formed_dmaCopy s f src dst len ecc : KeepsForm s (dmaCopy s f src dst len ecc) := .intro fun hs => by simp [dmaCopy, hs]
@[simp] theorem formed_runFill s f dst pattern len : KeepsForm s (runFill s f dst pattern len) := .intro fun hs => by simp [runFill, hs]
@[simp] theorem formed_memFill s f dst pattern len : KeepsForm s (memFill s f dst pattern len) := .intro fun hs => by simp [memFill, hs]

@[simp] theorem formed_runHeld fs s : KeepsForm s (runHeld fs s) := .intro fun hs => by
  induction fs generalizing s with
  | nil => exact hs
  | cons f fs ih =>
    unfold runHeld
    split
    · exact hs
    · split <;> simp [ih, hs]

@[simp] theorem formed_releaseHeldDram s : KeepsForm s (releaseHeldDram s) := .intro fun hs => by simp [releaseHeldDram, hs]
@[simp] theorem formed_fltRead s f dst idx : KeepsForm s (fltRead s f dst idx) := .intro fun hs => by simp [fltRead, hs]

/-! ### The operations of Faults -/

@[simp] theorem formed_detected s c cause a : KeepsForm s (detected s c cause a) := .intro fun hs => by simp [detected, hs]

@[simp] theorem formed_staleStripe b pos s k : KeepsForm s (staleStripe b pos s k) := .intro fun hs => by
  unfold staleStripe
  split <;> simp [hs]

@[simp] theorem formed_stalePosition b s pos : KeepsForm s (stalePosition b s pos) := .intro fun hs => by
  unfold stalePosition
  split <;> simp [hs]

@[simp] theorem formed_staleStripesOf s c : KeepsForm s (staleStripesOf s c) := .intro fun hs => by simp [staleStripesOf, hs]

@[simp] theorem formed_startQueued s : KeepsForm s (startQueued s) := .intro fun hs => by
  unfold startQueued
  split
  · simp [hs]
  · split <;> simp [hs]

@[simp] theorem formed_resetDone s r : KeepsForm s (resetDone s r) := .intro fun hs => by simp [resetDone, hs]

@[simp] theorem formed_reportKnot s k : KeepsForm s (reportKnot s k) := .intro fun hs => by
  unfold reportKnot
  split <;> simp [hs]

@[simp] theorem formed_scan s : KeepsForm s (scan s) := .intro fun hs => by simp [scan, hs]
@[simp] theorem formed_resetCoreRegs s n : KeepsForm s (resetCoreRegs s n) := .intro fun hs => by
  simp [resetCoreRegs, -List.foldl_cons, hs]
@[simp] theorem formed_zeroTray s n : KeepsForm s (zeroTray s n) := .intro (twf_filter 0 _ s.mem)
@[simp] theorem formed_resetCore s n : KeepsForm s (resetCore s n) := .intro fun hs => by simp [resetCore, hs]
@[simp] theorem formed_tierBDone s r : KeepsForm s (tierBDone s r) := .intro fun hs => by simp [tierBDone, hs]
@[simp] theorem formed_setMis s n m : KeepsForm s (setMis s n m) := .of_mem rfl
@[simp] theorem formed_readback s n pad : KeepsForm s (readback s n pad) := .intro fun hs => by simp [readback, hs]

@[simp] theorem formed_groupEvent s g code old : KeepsForm s (groupEvent s g code old) := .intro fun hs => by
  unfold groupEvent
  split <;> simp [hs]

@[simp] theorem formed_restartMember g r was s c : KeepsForm s (restartMember g r was s c) := .intro fun hs => by
  simp only [restartMember]
  (repeat' split) <;> simp [hs]

@[simp] theorem formed_restartGroup was s g : KeepsForm s (restartGroup was s g) := .intro fun hs => by
  unfold restartGroup
  split <;> simp [hs]

@[simp] theorem formed_linksFail s ks : KeepsForm s (linksFail s ks) := .intro fun hs => by simp [linksFail, hs]
@[simp] theorem formed_countRetries s retries : KeepsForm s (countRetries s retries) := .of_mem rfl

@[simp] theorem formed_forceCoarse s on : KeepsForm s (forceCoarse s on) := .intro fun hs => by
  unfold forceCoarse
  split
  · exact hs
  · refine (formed_foldl _ (fun s g => ?_) _ _).imp (by simp [hs])
    (repeat' split) <;> simp

/-! ### The operations of Power -/

@[simp] theorem formed_setTarget s mv : KeepsForm s (setTarget s mv) := .of_mem rfl
@[simp] theorem formed_startStop s n f : KeepsForm s (startStop s n f) := .of_mem rfl
@[simp] theorem formed_beginChange s n : KeepsForm s (beginChange s n) := .intro fun hs => by simp [beginChange, hs]
@[simp] theorem formed_retarget s n : KeepsForm s (retarget s n) := .intro fun hs => by simp [retarget, hs]
@[simp] theorem formed_settleVolt s : KeepsForm s (settleVolt s) := .intro fun hs => by simp [settleVolt, hs]
@[simp] theorem formed_dvfsWrite s n v : KeepsForm s (dvfsWrite s n v) := .intro fun hs => by simp [dvfsWrite, hs]
@[simp] theorem formed_stopEnd s n : KeepsForm s (stopEnd s n) := .intro fun hs => by simp [stopEnd, hs]
@[simp] theorem formed_railReady s : KeepsForm s (railReady s) := .intro fun hs => by simp [railReady, hs]
@[simp] theorem formed_readVout s mv : KeepsForm s (readVout s mv) := .intro fun hs => by simp [readVout, hs]

@[simp] theorem formed_noteIout s mv a2 : KeepsForm s (noteIout s mv a2) := .intro fun hs => by
  unfold noteIout
  split <;> simp [hs]

@[simp] theorem formed_pmbusFail s : KeepsForm s (pmbusFail s) := .intro fun hs => by simp [pmbusFail, hs]
@[simp] theorem formed_abandon s : KeepsForm s (abandon s) := .intro fun hs => by simp [abandon, hs]
@[simp] theorem formed_avsWrite s on : KeepsForm s (avsWrite s on) := .intro fun hs => by simp [avsWrite, hs]
@[simp] theorem formed_sample s k code : KeepsForm s (sample s k code) := .intro fun hs => by simp [sample, hs]
@[simp] theorem formed_capStep s n : KeepsForm s (capStep s n) := .intro fun hs => by simp [capStep, hs]
@[simp] theorem formed_capUpdate s : KeepsForm s (capUpdate s) := .intro fun hs => by simp [capUpdate, hs]
@[simp] theorem formed_trip s : KeepsForm s (trip s) := .of_mem rfl

/-! ### The operations of Startup -/

@[simp] theorem formed_setBank s b k : KeepsForm s (setBank s b k) := .of_mem rfl
@[simp] theorem formed_powerDown s : KeepsForm s (powerDown s) := .of_mem rfl
@[simp] theorem formed_release s : KeepsForm s (release s) := .of_mem rfl
@[simp] theorem formed_startSl s b : KeepsForm s (startSl s b) := .of_mem rfl
@[simp] theorem formed_bootRom s r : KeepsForm s (bootRom s r) := .intro fun hs => by simp [bootRom, hs]
@[simp] theorem formed_startRail s r : KeepsForm s (startRail s r) := .intro fun hs => by simp [startRail, hs]
@[simp] theorem formed_trainFail s m : KeepsForm s (trainFail s m) := .intro fun hs => by simp [trainFail, hs]
@[simp] theorem formed_fail s code : KeepsForm s (fail s code) := .of_mem rfl
@[simp] theorem formed_startUp s r : KeepsForm s (startUp s r) := .intro fun hs => by simp [startUp, hs]

/-! ### The operations of Mgmt -/

@[simp] theorem formed_devInfo s f : KeepsForm s (devInfo s f) := .intro fun hs => by simp [devInfo, hs]
@[simp] theorem formed_chargeMgmt s a n : KeepsForm s (chargeMgmt s a n) := .intro fun hs => by simp [chargeMgmt, hs]

@[simp] theorem formed_fwStage s f src len bank sigOk : KeepsForm s (fwStage s f src len bank sigOk) := .intro fun hs => by
  simp [fwStage, hs]

@[simp] theorem formed_writeSelector s f bank : KeepsForm s (writeSelector s f bank) := .intro fun hs => by simp [writeSelector, hs]
@[simp] theorem formed_boardCfg s f src len cfg : KeepsForm s (boardCfg s f src len cfg) := .intro fun hs => by simp [boardCfg, hs]
@[simp] theorem formed_laneReturn s f n : KeepsForm s (laneReturn s f n) := .intro fun hs => by simp [laneReturn, hs]

@[simp] theorem formed_escCfg s f laneN laneS devN devS : KeepsForm s (escCfg s f laneN laneS devN devS) := .intro fun hs => by
  simp [escCfg, hs]

@[simp] theorem formed_reserveChart s origin out pixStart x : KeepsForm s (reserveChart s origin out pixStart x) := .of_mem rfl
@[simp] theorem formed_colourCal s f : KeepsForm s (colourCal s f) := .of_mem rfl
@[simp] theorem formed_endChart s r : KeepsForm s (endChart s r) := .of_mem rfl

@[simp] theorem formed_fitChart s r : KeepsForm s (fitChart s r) := .intro fun hs => by
  simp only [fitChart]
  split <;> simp [hs]

@[simp] theorem formed_tryHandover s : KeepsForm s (tryHandover s) := .intro fun hs => by simp [tryHandover, hs]
@[simp] theorem formed_fwActivate s f bank : KeepsForm s (fwActivate s f bank) := .intro fun hs => by simp [fwActivate, hs]

@[simp] theorem formed_mgmtReserve i s : KeepsForm s (mgmtReserve i s) := .intro fun hs => by
  unfold mgmtReserve
  split <;> simp [hs]

@[simp] theorem formed_busyMgmt s f : KeepsForm s (busyMgmt s f) := .intro fun hs => by simp [busyMgmt, hs]
@[simp] theorem formed_loseTierB s : KeepsForm s (loseTierB s) := .intro fun hs => by simp [loseTierB, hs]
@[simp] theorem formed_startTierM s cause keep : KeepsForm s (startTierM s cause keep) := .intro fun hs => by simp [startTierM, hs]
@[simp] theorem formed_swapFails s : KeepsForm s (swapFails s) := .intro fun hs => by simp [swapFails, hs]

/-! ### The operations of Live -/

theorem formed_pairRead s off r (h : pairRead s off = some r) : KeepsForm s r.1 := .of_mem <| by
  unfold pairRead at h
  split at h
  · cases h; rfl
  · split at h
    · cases h
    · split at h
      · split at h <;> cases h <;> rfl
      · cases h

@[simp] theorem formed_hostRead s off : KeepsForm s (hostRead s off).1 := .intro fun hs => by
  unfold hostRead
  split
  · simp [hs]
  · split
    · rename_i r h
      exact (formed_pairRead s off r h).imp hs
    · (repeat' split) <;> simp [hs]

@[simp] theorem formed_busRead s off len : KeepsForm s (busRead s off len) := .intro fun hs => by simp [busRead, hs]

/-! ### The operations of Regs -/

@[simp] theorem formed_discard s off : KeepsForm s (discard s off) := .of_mem rfl
@[simp] theorem formed_plainWrite s r off v : KeepsForm s (plainWrite s r off v) := .of_mem rfl
@[simp] theorem formed_setWt s v : KeepsForm s (setWt s v) := .of_mem rfl
@[simp] theorem formed_wtSetHi s v : KeepsForm s (wtSetHi s v) := .intro fun hs => by simp [wtSetHi, hs]
@[simp] theorem formed_divWrite s v : KeepsForm s (divWrite s v) := .intro fun hs => by simp [divWrite, hs]
@[simp] theorem formed_shPart s v : KeepsForm s (shPart s v) := .intro fun hs => by simp [shPart, hs]
@[simp] theorem formed_aptWrite s v : KeepsForm s (aptWrite s v) := .intro fun hs => by simp [aptWrite, hs]
@[simp] theorem formed_spnWrite s p v : KeepsForm s (spnWrite s p v) := .intro fun hs => by simp [spnWrite, hs]
@[simp] theorem formed_poolWrite s p v : KeepsForm s (poolWrite s p v) := .intro fun hs => by simp [poolWrite, hs]
@[simp] theorem formed_makeAdmin s : KeepsForm s (makeAdmin s) := .of_mem rfl
@[simp] theorem formed_admWrite s v : KeepsForm s (admWrite s v) := .intro fun hs => by simp [admWrite, hs]
@[simp] theorem formed_encClear s : KeepsForm s (encClear s) := .of_mem rfl
@[simp] theorem formed_tmuStatusWrite s v : KeepsForm s (tmuStatusWrite s v) := .intro fun hs => by simp [tmuStatusWrite, hs]
@[simp] theorem formed_feStatusWrite s v : KeepsForm s (feStatusWrite s v) := .of_mem rfl
@[simp] theorem formed_shutterWrite s off v : KeepsForm s (shutterWrite s off v) := .intro fun hs => by simp [shutterWrite, hs]
@[simp] theorem formed_laneWrite s off v : KeepsForm s (laneWrite s off v) := .intro fun hs => by simp [laneWrite, hs]
@[simp] theorem formed_markWrite s off v : KeepsForm s (markWrite s off v) := .intro fun hs => by simp [markWrite, hs]
@[simp] theorem formed_doorbell s off v : KeepsForm s (doorbell s off v) := .intro fun hs => by simp [doorbell, hs]

@[simp] theorem formed_unsupportedAccess s bar off write : KeepsForm s (unsupportedAccess s bar off write) := .intro fun hs => by
  simp [unsupportedAccess, hs]

@[simp] theorem formed_barAccess s a data : KeepsForm s (barAccess s a data) := .intro fun hs => by
  unfold barAccess
  split <;> simp [hs]

@[simp] theorem formed_bar2 s off data : KeepsForm s (bar2 s off data) := .intro fun hs => by simp [bar2, hs]
@[simp] theorem formed_barErrors s a data ecc : KeepsForm s (barErrors s a data ecc) := .intro fun hs => by simp [barErrors, hs]
@[simp] theorem formed_bar4 s off data : KeepsForm s (bar4 s off data) := .intro fun hs => by simp [bar4, hs]

/-! ### The operations of Debug -/

@[simp] theorem formed_scanOut s v : KeepsForm s (scanOut s v) := .of_mem rfl
@[simp] theorem formed_setTap s c : KeepsForm s (setTap s c) := .of_mem rfl
@[simp] theorem formed_capturePins s : KeepsForm s (capturePins s) := .of_mem rfl
@[simp] theorem formed_bypass s : KeepsForm s (bypass s) := .of_mem rfl

@[simp] theorem formed_bscan s c f (h : ∀ s : FormedState, formed (f s.1) = true) : KeepsForm s (bscan s c f) := .intro fun hs => by
  have hf := h ⟨setTap s c, by simp [hs]⟩
  simp [bscan, hf, hs]

@[simp] theorem formed_challenge s : KeepsForm s (challenge s) := .of_mem <| by
  simp only [challenge]
  split <;> rfl

@[simp] theorem formed_dbgResult s code data : KeepsForm s (dbgResult s code data) := .of_mem rfl
@[simp] theorem formed_dbgOk s : KeepsForm s (dbgOk s) := .of_mem rfl
@[simp] theorem formed_badAddr s : KeepsForm s (badAddr s) := .of_mem rfl

@[simp] theorem formed_dbgCmd s level f (h : ∀ s : FormedState, formed (f s.1) = true) :
    KeepsForm s (dbgCmd s level f) := .intro fun hs => by
  have hf := h ⟨setTap s 0x20, by simp [hs]⟩
  simp [dbgCmd, hf, hs]

@[simp] theorem formed_rdMem s a : KeepsForm s (rdMem s a) := .intro fun hs => by simp [rdMem, hs]
@[simp] theorem formed_rdFree s : KeepsForm s (rdFree s) := .of_mem rfl

@[simp] theorem formed_rd32 s a : KeepsForm s (rd32 s a) := .intro fun hs => by
  unfold rd32
  (repeat' split) <;> simp [hs]

@[simp] theorem formed_wrMem s a v : KeepsForm s (wrMem s a v) := .intro (wf_wrBytes s a _)
@[simp] theorem formed_haltSl s : KeepsForm s (haltSl s) := .of_mem rfl
@[simp] theorem formed_slHalt s : KeepsForm s (slHalt s) := .intro fun hs => by simp [slHalt, hs]
@[simp] theorem formed_slStep s : KeepsForm s (slStep s) := .intro fun hs => by simp [slStep, hs]
@[simp] theorem formed_softHalt s n : KeepsForm s (softHalt s n) := .intro fun hs => by simp [softHalt, hs]
@[simp] theorem formed_hardHalt s n : KeepsForm s (hardHalt s n) := .intro fun hs => by simp [hardHalt, hs]
@[simp] theorem formed_coreStep s n c : KeepsForm s (coreStep s n c) := .intro fun hs => by simp [coreStep, hs]
@[simp] theorem formed_coreResume s n : KeepsForm s (coreResume s n) := .of_mem rfl

@[simp] theorem formed_smbRead s code : KeepsForm s (smbRead s code) := .intro fun hs => by
  unfold smbRead
  split <;> simp [hs]

/-! ### The operations of Objects -/

@[simp] theorem formed_writeGroup s n o v : KeepsForm s (writeGroup s n o v) := .intro fun hs => by simp [writeGroup, hs]
@[simp] theorem formed_dropObj s n key : KeepsForm s (dropObj s n key) := .of_mem rfl

@[simp] theorem formed_deadlineFirst s o : KeepsForm s (deadlineFirst s o) := .intro fun hs => by
  unfold deadlineFirst
  split <;> simp [hs]

@[simp] theorem formed_entryAction s n o a : KeepsForm s (entryAction s n o a) := .intro fun hs => by
  unfold entryAction
  split <;> simp [hs]

@[simp] theorem formed_post s n o v : KeepsForm s (post s n o v) := .intro fun hs => by
  simp only [post]
  split <;> simp [hs]

@[simp] theorem formed_mismatchEvent s n v : KeepsForm s (mismatchEvent s n v) := .intro fun hs => by simp [mismatchEvent, hs]
@[simp] theorem formed_postWith s n o v b : KeepsForm s (postWith s n o v b) := .intro fun hs => by simp [postWith, hs]
@[simp] theorem formed_postNoOutcome s n o b : KeepsForm s (postNoOutcome s n o b) := .intro fun hs => by simp [postNoOutcome, hs]

@[simp] theorem formed_openWin n o s i : KeepsForm s (openWin n o s i) := .intro fun hs => by
  unfold openWin
  split <;> simp [hs]

@[simp] theorem formed_openWins s n o : KeepsForm s (openWins s n o) := .intro fun hs => by simp [openWins, hs]
@[simp] theorem formed_overrun s n o b : KeepsForm s (overrun s n o b) := .intro fun hs => by simp [overrun, hs]

@[simp] theorem formed_makeObj s n c origin tf deg synth b : KeepsForm s (makeObj s n c origin tf deg synth b) := .intro fun hs => by
  simp only [makeObj]
  split <;> simp [hs]

@[simp] theorem formed_acquired s n origin : KeepsForm s (acquired s n origin) := .intro fun hs => by simp [acquired, hs]

@[simp] theorem formed_objectRegister s n origin tf c old deg b :
    KeepsForm s (objectRegister s n origin tf c old deg b) := .intro fun hs => by
  simp [objectRegister, hs]

@[simp] theorem formed_lostRegister s n pred c old : KeepsForm s (lostRegister s n pred c old) := .intro fun hs => by
  simp [lostRegister, hs]

@[simp] theorem formed_windowClose s n pred c old b : KeepsForm s (windowClose s n pred c old b) := .intro fun hs => by
  simp [windowClose, hs]

@[simp] theorem formed_fieldMatch s n o i c d : KeepsForm s (fieldMatch s n o i c d) := .intro fun hs => by
  unfold fieldMatch
  split <;> simp [hs]

/-! ### The operations of Parity -/

@[simp] theorem formed_coreParity s n : KeepsForm s (coreParity s n) := .intro fun hs => by simp [coreParity, hs]
@[simp] theorem formed_unitParity s c : KeepsForm s (unitParity s c) := .intro fun hs => by simp [unitParity, hs]
@[simp] theorem formed_captionParity s c : KeepsForm s (captionParity s c) := .intro fun hs => by simp [captionParity, hs]

@[simp] theorem formed_codeParity s : KeepsForm s (codeParity s) := .intro fun hs => by
  simp only [codeParity]
  split <;> simp [hs]

@[simp] theorem formed_devParity s p : KeepsForm s (devParity s p) := .intro fun hs => by
  simp only [devParity]
  split <;> simp [hs]

@[simp] theorem formed_parity s block n : KeepsForm s (parity s block n) := .intro fun hs => by
  unfold parity
  split <;> simp [hs]

/-! ### The operations of Tick -/

@[simp] theorem formed_tick s : KeepsForm s (tick s) := .intro fun hs => by simp [tick, hs]

/-! ### Resets, management commands and register writes -/

@[simp] theorem formed_freshState s : KeepsForm s (freshState s) := .intro (twf_filter 0 _ s.mem)
@[simp] theorem formed_powerUp s : KeepsForm s (powerUp s) := .intro fun hs => by simp [powerUp, hs]
@[simp] theorem formed_perst s : KeepsForm s (perst s) := .intro fun hs => by simp [perst, hs]
@[simp] theorem formed_tierC s : KeepsForm s (tierC s) := .intro fun hs => by simp [tierC, hs]
@[simp] theorem formed_recoverC s f : KeepsForm s (recoverC s f) := .intro fun hs => by simp [recoverC, hs]
@[simp] theorem formed_devRecover s f tier cores : KeepsForm s (devRecover s f tier cores) := .intro fun hs => by simp [devRecover, hs]

@[simp] theorem formed_mgmtBody i s f : KeepsForm s (mgmtBody i s f) := .intro fun hs => by
  unfold mgmtBody
  split <;> simp [hs]

@[simp] theorem formed_acceptMgmt i s f : KeepsForm s (acceptMgmt i s f) := .intro fun hs => by
  unfold acceptMgmt
  split
  · simp [hs]
  · split <;> simp [hs]

@[simp] theorem formed_takeMgmt s e : KeepsForm s (takeMgmt s e) := .intro fun hs => by simp [takeMgmt, hs]

@[simp] theorem formed_drainMgmt es s : KeepsForm s (drainMgmt es s) := .intro fun hs => by
  induction es generalizing s with
  | nil => exact hs
  | cons e es ih =>
    unfold drainMgmt
    split
    · exact ih _ (by simp [hs])
    · exact hs

@[simp] theorem formed_drain s : KeepsForm s (drain s) := .intro fun hs => by simp [drain, hs]
@[simp] theorem formed_resumeSl s : KeepsForm s (resumeSl s) := .intro fun hs => by simp [resumeSl, hs]
@[simp] theorem formed_slResume s : KeepsForm s (slResume s) := .intro fun hs => by simp [slResume, hs]
@[simp] theorem formed_swapDone s b : KeepsForm s (swapDone s b) := .intro fun hs => by simp [swapDone, hs]
@[simp] theorem formed_finishStart s r : KeepsForm s (finishStart s r) := .intro fun hs => by simp [finishStart, hs]

theorem formed_windowWrite s off v (hs : formed s = true) : ∀ t, windowWrite s off v = some t → formed t = true := by
  simp [windowWrite, forall_eq_some_ite, hs]

@[simp] theorem formed_dbgCtrl s v : KeepsForm s (dbgCtrl s v) := .of_mem rfl

theorem formed_special s off v (hs : formed s = true) : ∀ t, special s off v = some t → formed t = true := by
  simp [special, forall_eq_some_ite, hs]

@[simp] theorem formed_hostWrite s off v : KeepsForm s (hostWrite s off v) := .intro fun hs => by
  unfold hostWrite
  split
  · simp [hs]
  · split
    · exact formed_windowWrite s off v hs _ ‹_›
    · split
      · simp [hs]
      · split
        · exact formed_special s off v hs _ ‹_›
        · split <;> simp [hs]

@[simp] theorem formed_wr32 s a v : KeepsForm s (wr32 s a v) := .intro fun hs => by simp [wr32, hs]
@[simp] theorem formed_svnRaise s v : KeepsForm s (svnRaise s v) := .intro fun hs => by simp [svnRaise, hs]
@[simp] theorem formed_response s level valid : KeepsForm s (response s level valid) := .intro fun hs => by simp [response, hs]

/-! ### The commands -/

theorem formed_execFwSwapTimeout s : KeepsForm s (outcome s (execFwSwapTimeout s)) := .intro fun hs => by
  simp only [execFwSwapTimeout, outcome_next]
  split <;> simp [hs]

theorem formed_execTierBComplete s : KeepsForm s (outcome s (execTierBComplete s)) := .intro fun hs => by
  simp only [execTierBComplete, outcome_next]
  split <;> simp [hs]

theorem formed_execColourCalFit s : KeepsForm s (outcome s (execColourCalFit s)) := .intro fun hs => by
  simp only [execColourCalFit, outcome_next]
  split <;> simp [hs]

theorem formed_execLaneStart c start lane s : KeepsForm s (outcome s (execLaneStart c start lane s)) := .intro fun hs => by
  simp only [execLaneStart, outcome_next]
  refine (formed_accept s _ _ _ _ fun s f => ?_).imp hs
  (repeat' split) <;> simp

theorem formed_execPbPause c s : KeepsForm s (outcome s (execPbPause c s)) := .intro fun hs => by
  simp only [execPbPause, outcome_next]
  refine (formed_accept s _ _ _ _ fun s f => ?_).imp hs
  (repeat' split) <;> simp

theorem formed_execRingGroupClose c group s : KeepsForm s (outcome s (execRingGroupClose c group s)) := .intro fun hs => by
  simp only [execRingGroupClose, outcome_next]
  refine (formed_accept s _ _ _ _ fun s f => ?_).imp hs
  split <;> simp

theorem formed_execRqDelete c rq s : KeepsForm s (outcome s (execRqDelete c rq s)) := .intro fun hs => by
  simp only [execRqDelete, outcome_next]
  refine (formed_accept s _ _ _ _ fun s f => ?_).imp hs
  split <;> simp

theorem formed_execAdaptEvalComplete ad res s : KeepsForm s (outcome s (execAdaptEvalComplete ad res s)) := .intro fun hs => by
  simp only [execAdaptEvalComplete, outcome_next]
  split <;> simp [hs]

theorem formed_execSampleResolve ad slot res s : KeepsForm s (outcome s (execSampleResolve ad slot res s)) := .intro fun hs => by
  simp only [execSampleResolve, outcome_next]
  split <;> simp [hs]

theorem formed_execBatchClose ad s : KeepsForm s (outcome s (execBatchClose ad s)) := .intro fun hs => by
  simp only [execBatchClose, outcome_next]
  split <;> simp [hs]

theorem formed_execRqHoldTimer rq s : KeepsForm s (outcome s (execRqHoldTimer rq s)) := .intro fun hs => by
  simp only [execRqHoldTimer, outcome_next]
  (repeat' split) <;> simp [hs]

theorem formed_execGemm ctx s : KeepsForm s (outcome s (execGemm ctx s)) := .intro fun hs => by
  simp only [execGemm, outcome_next]
  refine (formed_dispatch s _ _ _ fun s k op => ?_).imp hs
  split <;> simp

theorem formed_execAttn ctx s : KeepsForm s (outcome s (execAttn ctx s)) := .intro fun hs => by
  simp only [execAttn, outcome_next]
  refine (formed_dispatch s _ _ _ fun s k op => ?_).imp hs
  split <;> simp

theorem formed_execRingBarrierComplete group s : KeepsForm s (outcome s (execRingBarrierComplete group s)) := .intro fun hs => by
  simp only [execRingBarrierComplete, outcome_next]
  (repeat' split) <;> simp [hs]

theorem formed_execDma ctx fetch tile s : KeepsForm s (outcome s (execDma ctx fetch tile s)) := .intro fun hs => by
  simp only [execDma, outcome_next]
  refine (formed_dispatch s _ _ _ fun s k op => ?_).imp hs
  (repeat' split) <;> simp

theorem formed_execWaitMark ctx s : KeepsForm s (outcome s (execWaitMark ctx s)) := .intro fun hs => by
  simp only [execWaitMark, outcome_next]
  refine (formed_dispatch s _ _ _ fun s k op => ?_).imp hs
  split <;> simp

theorem formed_execSignalMark ctx s : KeepsForm s (outcome s (execSignalMark ctx s)) := .intro fun hs => by
  simp only [execSignalMark, outcome_next]
  refine (formed_dispatch s _ _ _ fun s k op => ?_).imp hs
  split <;> simp

theorem formed_execBranchOnCount ctx s : KeepsForm s (outcome s (execBranchOnCount ctx s)) := .intro fun hs => by
  simp only [execBranchOnCount, outcome_next]
  refine (formed_dispatch s _ _ _ fun s k op => ?_).imp hs
  (repeat' split) <;> simp

theorem formed_execDescComplete core unit clocks map ecc s :
    KeepsForm s (outcome s (execDescComplete core unit clocks map ecc s)) := .intro fun hs => by
  simp only [execDescComplete, outcome_next]
  (repeat' split) <;> simp [hs]

theorem formed_execFieldMatch lane key field ctx s : KeepsForm s (outcome s (execFieldMatch lane key field ctx s)) := .intro fun hs => by
  simp only [execFieldMatch, outcome_next]
  split <;> simp [hs]

theorem formed_execObjectRegister lane origin tf det copyB s :
    KeepsForm s (outcome s (execObjectRegister lane origin tf det copyB s)) := .intro fun hs => by
  simp only [execObjectRegister, outcome_next]
  (repeat' split) <;> simp [hs]

theorem formed_execSearchWindowClose lane copyB s : KeepsForm s (outcome s (execSearchWindowClose lane copyB s)) := .intro fun hs => by
  simp only [execSearchWindowClose, outcome_next]
  (repeat' split) <;> simp [hs]

theorem formed_execVerdictPost lane key copyB s : KeepsForm s (outcome s (execVerdictPost lane key copyB s)) := .intro fun hs => by
  simp only [execVerdictPost, outcome_next]
  split <;> simp [hs]

theorem formed_execRasterRowWrite ovf fills s : KeepsForm s (outcome s (execRasterRowWrite ovf fills s)) := .intro fun hs => by
  simp only [execRasterRowWrite, outcome_next]
  (repeat' split) <;> simp [hs]

theorem formed_execStripeRowWrite buf s : KeepsForm s (outcome s (execStripeRowWrite buf s)) := .intro fun hs => by
  simp only [execStripeRowWrite, outcome_next]
  (repeat' split) <;> simp [hs]

theorem formed_execStripeRelease buf pos s : KeepsForm s (outcome s (execStripeRelease buf pos s)) := .intro fun hs => by
  simp only [execStripeRelease, outcome_next]
  split <;> simp [hs]

theorem formed_execWhiteTrackUpdate s : KeepsForm s (outcome s (execWhiteTrackUpdate s)) := .intro fun hs => by
  simp only [execWhiteTrackUpdate, outcome_next]
  split <;> simp [hs]

theorem formed_execDecodePictureDone pipe pic bytes s :
    KeepsForm s (outcome s (execDecodePictureDone pipe pic bytes s)) := .intro fun hs => by
  simp only [execDecodePictureDone, outcome_next]
  (repeat' split) <;> simp [hs]

theorem formed_execAuxLate pipe bytes s : KeepsForm s (outcome s (execAuxLate pipe bytes s)) := .intro fun hs => by
  simp only [execAuxLate, outcome_next]
  (repeat' split) <;> simp [hs]

theorem formed_execRefRepair job tile rd s : KeepsForm s (outcome s (execRefRepair job tile rd s)) := .intro fun hs => by
  simp only [execRefRepair, outcome_next]
  (repeat' split) <;> simp [hs]

theorem formed_execCodeRequestDone r s : KeepsForm s (outcome s (execCodeRequestDone r s)) := .intro fun hs => by
  simp only [execCodeRequestDone, outcome_next]
  split <;> simp [hs]

theorem formed_execContextResetComplete ctx s : KeepsForm s (outcome s (execContextResetComplete ctx s)) := .intro fun hs => by
  simp only [execContextResetComplete, outcome_next]
  split <;> simp [hs]

theorem formed_execFwSwapComplete ok s : KeepsForm s (outcome s (execFwSwapComplete ok s)) := .intro fun hs => by
  simp only [execFwSwapComplete, outcome_next]
  split <;> simp [hs]

theorem formed_execLineStartTimeout port s : KeepsForm s (outcome s (execLineStartTimeout port s)) := .intro fun hs => by
  simp only [execLineStartTimeout, outcome_next]
  (repeat' split) <;> simp [hs]

theorem formed_execDevDecodeErr pipe err bytes s : KeepsForm s (outcome s (execDevDecodeErr pipe err bytes s)) := .intro fun hs => by
  simp only [execDevDecodeErr, outcome_next]
  split <;> simp [hs]

/-- Every command keeps the form of memory. -/
theorem formed_exec (i : Instr) (s : State) : KeepsForm s (outcome s (exec i s)) := .intro fun hs => by
  cases i with
  | devInfo => simp [exec, execDevInfo, hs]
  | fwStage => simp [exec, execFwStage, hs]
  | fwActivate => simp [exec, execFwActivate, hs]
  | fwSwapTimeout => exact (formed_execFwSwapTimeout s).imp hs
  | bootBank => simp [exec, execBootBank, hs]
  | boardCfg => simp [exec, execBoardCfg, hs]
  | devRecover => simp [exec, execDevRecover, hs]
  | tierBComplete => exact (formed_execTierBComplete s).imp hs
  | tierCComplete => simp [exec, execTierCComplete, hs]
  | laneRestore => simp [exec, execLaneRestore, hs]
  | escCfg => simp [exec, execEscCfg, hs]
  | colourCal => simp [exec, execColourCal, hs]
  | colourCalFit => exact (formed_execColourCalFit s).imp hs
  | jobLoad => simp [exec, execJobLoad, hs]
  | jobLoadComplete => simp [exec, execJobLoadComplete, hs]
  | jobUnload => simp [exec, execJobUnload, hs]
  | laneStart c start lane => exact (formed_execLaneStart c start lane s).imp hs
  | laneStop => simp [exec, execLaneStop, hs]
  | laneSetVar => simp [exec, execLaneSetVar, hs]
  | vocabLoad => simp [exec, execVocabLoad, hs]
  | vocabUnload => simp [exec, execVocabUnload, hs]
  | capTokenize => simp [exec, execCapTokenize, hs]
  | streamOpen => simp [exec, execStreamOpen, hs]
  | streamFeed => simp [exec, execStreamFeed, hs]
  | streamClose => simp [exec, execStreamClose, hs]
  | streamFlushDone => simp [exec, execStreamFlushDone, hs]
  | trigArm => simp [exec, execTrigArm, hs]
  | trigStop => simp [exec, execTrigStop, hs]
  | feRefCapture => simp [exec, execFeRefCapture, hs]
  | feRefApply => simp [exec, execFeRefApply, hs]
  | pbStart => simp [exec, execPbStart, hs]
  | pbPause c => exact (formed_execPbPause c s).imp hs
  | pbResume => simp [exec, execPbResume, hs]
  | pbLineStep => simp [exec, execPbLineStep, hs]
  | pbRunEnd => simp [exec, execPbRunEnd, hs]
  | ctxOpen => simp [exec, execCtxOpen, hs]
  | ctxLaunch => simp [exec, execCtxLaunch, hs]
  | ctxStop => simp [exec, execCtxStop, hs]
  | ctxResume => simp [exec, execCtxResume, hs]
  | ctxClose => simp [exec, execCtxClose, hs]
  | ctxAbort => simp [exec, execCtxAbort, hs]
  | seqOpen => simp [exec, execSeqOpen, hs]
  | seqClose => simp [exec, execSeqClose, hs]
  | ptEdit => simp [exec, execPtEdit, hs]
  | ringGroupOpen => simp [exec, execRingGroupOpen, hs]
  | ringGroupClose c group => exact (formed_execRingGroupClose c group s).imp hs
  | markSignal => simp [exec, execMarkSignal, hs]
  | sqCreate => simp [exec, execSqCreate, hs]
  | sqDelete => simp [exec, execSqDelete, hs]
  | cqCreate => simp [exec, execCqCreate, hs]
  | cqDelete => simp [exec, execCqDelete, hs]
  | rqCreate => simp [exec, execRqCreate, hs]
  | rqDelete c rq => exact (formed_execRqDelete c rq s).imp hs
  | dmaCopy => simp [exec, execDmaCopy, hs]
  | memFill => simp [exec, execMemFill, hs]
  | adaptOpen => simp [exec, execAdaptOpen, hs]
  | adaptConfirm => simp [exec, execAdaptConfirm, hs]
  | adaptSample => simp [exec, execAdaptSample, hs]
  | adaptRun => simp [exec, execAdaptRun, hs]
  | adaptPause => simp [exec, execAdaptPause, hs]
  | adaptEval => simp [exec, execAdaptEval, hs]
  | adaptEvalComplete ad res => exact (formed_execAdaptEvalComplete ad res s).imp hs
  | adaptCommit => simp [exec, execAdaptCommit, hs]
  | adaptClose => simp [exec, execAdaptClose, hs]
  | sampleResolve ad slot res => exact (formed_execSampleResolve ad slot res s).imp hs
  | batchClose ad => exact (formed_execBatchClose ad s).imp hs
  | fltRead => simp [exec, execFltRead, hs]
  | nop => simp [exec, execNop, hs]
  | sqTailDoorbell => simp [exec, execSqTailDoorbell, hs]
  | cqHeadDoorbell => simp [exec, execCqHeadDoorbell, hs]
  | rqHeadDoorbell => simp [exec, execRqHeadDoorbell, hs]
  | rqHoldTimer rq => exact (formed_execRqHoldTimer rq s).imp hs
  | gemm ctx => exact (formed_execGemm ctx s).imp hs
  | convTap => simp [exec, execConvTap, hs]
  | pool => simp [exec, execPool, hs]
  | vec => simp [exec, execVec, hs]
  | attn ctx => exact (formed_execAttn ctx s).imp hs
  | ringBarrierComplete group => exact (formed_execRingBarrierComplete group s).imp hs
  | dma ctx fetch tile => exact (formed_execDma ctx fetch tile s).imp hs
  | waitMark ctx => exact (formed_execWaitMark ctx s).imp hs
  | signalMark ctx => exact (formed_execSignalMark ctx s).imp hs
  | branchOnCount ctx => exact (formed_execBranchOnCount ctx s).imp hs
  | descComplete core unit clocks map ecc => exact (formed_execDescComplete core unit clocks map ecc s).imp hs
  | detokeniseToken => simp [exec, execDetokeniseToken, hs]
  | fieldMatch lane key field ctx => exact (formed_execFieldMatch lane key field ctx s).imp hs
  | encoderForwardCount => simp [exec, execEncoderForwardCount, hs]
  | encoderReverseCount => simp [exec, execEncoderReverseCount, hs]
  | encZEdge => simp [exec, execEncZEdge, hs]
  | encIllegalTransition => simp [exec, execEncIllegalTransition, hs]
  | shutterArm => simp [exec, execShutterArm, hs]
  | markerPulseFire => simp [exec, execMarkerPulseFire, hs]
  | markerAssert => simp [exec, execMarkerAssert, hs]
  | markerDeassert => simp [exec, execMarkerDeassert, hs]
  | markerReadback => simp [exec, execMarkerReadback, hs]
  | stepFire => simp [exec, execStepFire, hs]
  | lineTrigFire => simp [exec, execLineTrigFire, hs]
  | ctxLaunchFire => simp [exec, execCtxLaunchFire, hs]
  | laneStartLine => simp [exec, execLaneStartLine, hs]
  | laneStopLine => simp [exec, execLaneStopLine, hs]
  | deadlineFire => simp [exec, execDeadlineFire, hs]
  | spanFire => simp [exec, execSpanFire, hs]
  | objectRegister lane origin tf det copyB => exact (formed_execObjectRegister lane origin tf det copyB s).imp hs
  | searchWindowClose lane copyB => exact (formed_execSearchWindowClose lane copyB s).imp hs
  | verdictPost lane key copyB => exact (formed_execVerdictPost lane key copyB s).imp hs
  | dupMismatch => simp [exec, execDupMismatch, hs]
  | stripLineReceive => simp [exec, execStripLineReceive, hs]
  | rasterRowWrite ovf fills => exact (formed_execRasterRowWrite ovf fills s).imp hs
  | stripeRowWrite buf => exact (formed_execStripeRowWrite buf s).imp hs
  | stripeRelease buf pos => exact (formed_execStripeRelease buf pos s).imp hs
  | whiteTrackUpdate => exact (formed_execWhiteTrackUpdate s).imp hs
  | stripCrcError => simp [exec, execStripCrcError, hs]
  | stripLinkDown => simp [exec, execStripLinkDown, hs]
  | stripLinkRelock => simp [exec, execStripLinkRelock, hs]
  | sysrefEdge => simp [exec, execSysrefEdge, hs]
  | decodePictureDone pipe pic bytes => exact (formed_execDecodePictureDone pipe pic bytes s).imp hs
  | auxLate pipe bytes => exact (formed_execAuxLate pipe bytes s).imp hs
  | frameDequeue => simp [exec, execFrameDequeue, hs]
  | refRepair job tile rd => exact (formed_execRefRepair job tile rd s).imp hs
  | codeRequestStart => simp [exec, execCodeRequestStart, hs]
  | codeRequestDone r => exact (formed_execCodeRequestDone r s).imp hs
  | refreshSlot => simp [exec, execRefreshSlot, hs]
  | dramHotChange => simp [exec, execDramHotChange, hs]
  | caParityAlert => simp [exec, execCaParityAlert, hs]
  | wrCrcAlert => simp [exec, execWrCrcAlert, hs]
  | patrolScrub => simp [exec, execPatrolScrub, hs]
  | neighbourRefresh => simp [exec, execNeighbourRefresh, hs]
  | ringLinkDown => simp [exec, execRingLinkDown, hs]
  | halyardScan => simp [exec, execHalyardScan, hs]
  | watchdogExpiry => simp [exec, execWatchdogExpiry, hs]
  | contextFault => simp [exec, execContextFault, hs]
  | contextResetComplete ctx => exact (formed_execContextResetComplete ctx s).imp hs
  | safelightWdog => simp [exec, execSafelightWdog, hs]
  | safelightLockstep => simp [exec, execSafelightLockstep, hs]
  | tierMComplete => simp [exec, execTierMComplete, hs]
  | hoistPeriodBoundary => simp [exec, execHoistPeriodBoundary, hs]
  | thermalCapUpdate => simp [exec, execThermalCapUpdate, hs]
  | tempSensorSample => simp [exec, execTempSensorSample, hs]
  | thermtrip => simp [exec, execThermtrip, hs]
  | dvfsStopEnd => simp [exec, execDvfsStopEnd, hs]
  | avsTimeout => simp [exec, execAvsTimeout, hs]
  | pwrokRise => simp [exec, execPwrokRise, hs]
  | pwrokFall => simp [exec, execPwrokFall, hs]
  | perstAssert => simp [exec, execPerstAssert, hs]
  | perstRelease => simp [exec, execPerstRelease, hs]
  | deviceReady => simp [exec, execDeviceReady, hs]
  | smbusBlockRead => simp [exec, execSmbusBlockRead, hs]
  | extest => simp [exec, execExtest, hs]
  | idcode => simp [exec, execIdcode, hs]
  | samplePreload => simp [exec, execSamplePreload, hs]
  | clamp => simp [exec, execClamp, hs]
  | highz => simp [exec, execHighz, hs]
  | bypass => simp [exec, execBypass, hs]
  | dbgChallenge => simp [exec, execDbgChallenge, hs]
  | dbgResponse => simp [exec, execDbgResponse, hs]
  | rd32 => simp [exec, execRd32, hs]
  | wr32 => simp [exec, execWr32, hs]
  | slHalt => simp [exec, execSlHalt, hs]
  | slResume => simp [exec, execSlResume, hs]
  | slStep => simp [exec, execSlStep, hs]
  | slBp => simp [exec, execSlBp, hs]
  | slWp => simp [exec, execSlWp, hs]
  | slBreakHit => simp [exec, execSlBreakHit, hs]
  | slReg => simp [exec, execSlReg, hs]
  | coreHalt => simp [exec, execCoreHalt, hs]
  | coreHaltDrained => simp [exec, execCoreHaltDrained, hs]
  | coreHardHalt => simp [exec, execCoreHardHalt, hs]
  | coreStep => simp [exec, execCoreStep, hs]
  | coreStepTimeout => simp [exec, execCoreStepTimeout, hs]
  | coreResume => simp [exec, execCoreResume, hs]
  | lock => simp [exec, execLock, hs]
  | svnRaise => simp [exec, execSvnRaise, hs]
  | tmuWtSetHiWrite => simp [exec, execTmuWtSetHiWrite, hs]
  | tmuDivWrite => simp [exec, execTmuDivWrite, hs]
  | tmuShPartWrite => simp [exec, execTmuShPartWrite, hs]
  | pcieAptBaseWrite => simp [exec, execPcieAptBaseWrite, hs]
  | spnCfgEnable => simp [exec, execSpnCfgEnable, hs]
  | drkSbEnable => simp [exec, execDrkSbEnable, hs]
  | kvmPoolEnable => simp [exec, execKvmPoolEnable, hs]
  | hstCommit => simp [exec, execHstCommit, hs]
  | forceCoarseWrite => simp [exec, execForceCoarseWrite, hs]
  | ennDvfsWrite => simp [exec, execEnnDvfsWrite, hs]
  | mgtAvsWrite => simp [exec, execMgtAvsWrite, hs]
  | markWindowHiWrite => simp [exec, execMarkWindowHiWrite, hs]
  | fltMkHoldClear => simp [exec, execFltMkHoldClear, hs]
  | dbgCtrlLock => simp [exec, execDbgCtrlLock, hs]
  | dbgCtrlDeny => simp [exec, execDbgCtrlDeny, hs]
  | regReadLoLatch => simp [exec, execRegReadLoLatch, hs]
  | registerWrite => simp [exec, execRegisterWrite, hs]
  | unsupportedAccess => simp [exec, execUnsupportedAccess, hs]
  | bar2Access => simp [exec, execBar2Access, hs]
  | bar4Access => simp [exec, execBar4Access, hs]
  | controlStateParity => simp [exec, execControlStateParity, hs]
  | firmwareHeartbeat => simp [exec, execFirmwareHeartbeat, hs]
  | fwSwapComplete ok => exact (formed_execFwSwapComplete ok s).imp hs
  | pmbusTransfer => simp [exec, execPmbusTransfer, hs]
  | lineStartTimeout port => exact (formed_execLineStartTimeout port s).imp hs
  | devDecodeErr pipe err bytes => exact (formed_execDevDecodeErr pipe err bytes s).imp hs

theorem step_keeps_form (s t : State) (hs : Memory.wf s.mem = true) (h : step s = .next t) : Memory.wf t.mem = true := by
  unfold step at h
  split at h
  · cases h
    exact (formed_tick s).imp hs
  · rename_i c l _
    have hc := (formed_exec c { s with pending := l }).imp hs
    rw [h] at hc
    exact hc

/-- Settles O59: every function of the model keeps the form, and a table in canonical form is fixed by what it reads as. -/
theorem memoryForm : Obligations.MemoryForm :=
  ⟨step_keeps_form, fun a b ha hb hg => twfAbove_ext 0 a b none none ha hb hg⟩

end Sys2Proof.Machine

namespace Sys2Proof.Machine

/-! ### Bits of a register, registers from an offset up -/

theorem testBit_putBit (v k j : Nat) (b : Bool) : (putBit v k b).testBit j = if j = k then b else v.testBit j := by
  cases b with
  | true =>
    by_cases h : j = k
    · simp [putBit, h]
    · have hp := Nat.testBit_two_pow_of_ne (Ne.symm h)
      simp [putBit, Nat.one_shiftLeft, h, hp]
  | false =>
    by_cases hv : v.testBit k = true
    · -- above bit k the number is 2a + 1, below it is r; clearing the bit leaves 2a and r
      have ho : v / 2 ^ k % 2 = 1 := by simpa [Nat.testBit_eq_decide_div_mod_eq] using hv
      have hr : v % 2 ^ k < 2 ^ k := Nat.mod_lt _ (Nat.two_pow_pos k)
      have hd : 2 ^ k * (v / 2 ^ k) + v % 2 ^ k = v := Nat.div_add_mod v (2 ^ k)
      obtain ⟨a, ha⟩ : ∃ a, v / 2 ^ k = 2 * a + 1 := ⟨v / 2 ^ k / 2, by omega⟩
      rw [ha, Nat.mul_add, Nat.mul_one] at hd
      have hc : v - 2 ^ k = 2 ^ k * (2 * a) + v % 2 ^ k := by omega
      have hw := Nat.testBit_two_pow_mul_add (2 * a) hr j
      have hz := Nat.testBit_two_pow_mul_add (2 * a + 1) hr j
      rw [Nat.mul_add, Nat.mul_one, hd] at hz
      simp only [putBit, Bool.false_eq_true, if_false, if_pos hv, Nat.one_shiftLeft, hc, hw, hz]
      rcases Nat.lt_trichotomy j k with h | h | h
      · simp [h, Nat.ne_of_lt h]
      · simp [h]
      · obtain ⟨i, rfl⟩ : ∃ i, j = k + (i + 1) := ⟨j - k - 1, by omega⟩
        have he : (2 * a + 1) / 2 = a := by omega
        simp [Nat.testBit_add_one, he]
    · by_cases h : j = k
      · simp [putBit, h, hv]
      · simp [putBit, h, hv]

theorem bit_rg_rsetN (s : State) (o v j : Nat) (hj : j < 32) : bit (rg (rsetN s o v) o) j = v.testBit j := by
  rw [rg, rget_rsetN, if_pos rfl, BitVec.toNat_ofNat, bit, Nat.testBit_mod_two_pow]
  simp [hj]

theorem cntOf_bounds (o : Nat) : o < cntOf o ∧ cntOf o ≤ o + 8 := by
  unfold cntOf
  split <;> omega

/-- The registers from offset `n` up. -/
def regsFrom (n : Nat) (s : State) (k : Nat) : Word := rget s (n + k)

theorem rg_of_regsFrom (n k : Nat) (s t : State) (h : regsFrom n t = regsFrom n s) (hk : n ≤ k) : rg t k = rg s k := by
  obtain ⟨i, rfl⟩ := Nat.exists_eq_add_of_le hk
  exact congrArg BitVec.toNat (congrFun h i)

theorem regsFrom_rsetN (n o v : Nat) (s : State) (h : o < n) : regsFrom n (rsetN s o v) = regsFrom n s := by
  funext k
  exact (rget_rsetN s o (n + k) v).trans (if_neg (by omega))

theorem regsFrom_bump (n o c : Nat) (s : State) (h : o < n) : regsFrom n (bump s o c) = regsFrom n s := regsFrom_rsetN n o _ s h

theorem regsFrom_flag (n o b : Nat) (s : State) (h : o + 8 < n) : regsFrom n (flag s o b) = regsFrom n s := by
  have := cntOf_bounds o
  rw [flag, regsFrom_bump n _ _ _ (by omega), regsFrom_rsetN n o _ s (by omega)]

theorem regsFrom_of_regs (n : Nat) (s t : State) (h : t.regs = s.regs) : regsFrom n t = regsFrom n s := by
  funext k
  simp only [regsFrom, rget, h]

/-! ### What posting a reply leaves of the front end (R279 to R282) -/

/-- The front end, the board, the times, and the registers above those of Salhan and of the marks. -/
def frontView (s : State) : Fe × Board × Tmu × (Nat → Word) := (s.fe, s.board, s.tmu, regsFrom 0x60000 s)

theorem frontView_flag (s : State) (o b : Nat) (h : o + 8 < 0x60000) : frontView (flag s o b) = frontView s := by
  simp only [frontView, regsFrom_flag _ o b s h]
  rfl

@[simp] theorem frontView_raiseVec (s : State) (v : Option Nat) : frontView (raiseVec s v) = frontView s := by
  cases v <;> rfl

@[simp] theorem frontView_addMark (s : State) (m add : Nat) : frontView (addMark s m add) = frontView s := by
  unfold addMark
  split
  · rfl
  · change frontView (if _ then flag s 0x50004 2 else s) = _
    split
    · exact frontView_flag s _ _ (by decide)
    · rfl

@[simp] theorem frontView_signalExt (s : State) (m add : Nat) : frontView (signalExt s m add) = frontView s := frontView_addMark ..

@[simp] theorem frontView_doReply (s : State) (n : Nat) (r : CompRing) (p : Reply) : frontView (doReply s n r p) = frontView s := by
  have hw : frontView (if p.write then
      setCq (wrBytes s (r.base + 32 * (r.wr % ringSize r.log2))
        (listSet p.bytes 3 (BitVec.ofNat 8 (phase r.log2 r.wr)))) n (some { r with wr := r.wr + 1 })
      else s) = frontView s := by split <;> rfl
  simp only [doReply]
  split <;> split <;> simp [hw]

@[simp] theorem frontView_postReply (s : State) (n : Nat) (p : Reply) : frontView (postReply s n p) = frontView s := by
  unfold postReply
  split
  · split
    · rfl
    · exact frontView_signalExt ..
  · split
    · exact frontView_flag _ _ _ (by decide)
    · exact frontView_doReply ..

@[simp] theorem frontView_complete (s : State) (f : Flight) (a b r : Nat) : frontView (complete s f a b r) = frontView s := by
  unfold complete
  split
  · rfl
  · split
    · rfl
    · exact frontView_postReply ..

@[simp] theorem frontView_finishDeletes (s : State) (fs : List Flight) : frontView (finishDeletes s fs) = frontView s := by
  induction fs generalizing s with
  | nil => rfl
  | cons f fs ih =>
    unfold finishDeletes
    split
    · split
      · exact ih s
      · rw [ih, frontView_complete]
        rfl
    · exact ih s

@[simp] theorem frontView_completeAwait (s : State) (a : Await) (st d r : Nat) :
    frontView (completeAwait s a st d r) = frontView s := by
  simp only [completeAwait, completeWhere, frontView_finishDeletes]
  exact foldl_invariant frontView _ (fun s f => frontView_complete s f st d r) _ _

@[simp] theorem frontView_advanceHead (s : State) (n : Nat) : frontView (advanceHead s n) = frontView s := by
  unfold advanceHead
  split <;> rfl

/-! ### Reference captures and their application (R85, R86) -/

theorem exec_feRefCapture (c : Cmd) (lines ports kind : Nat) (s : State) (h : Pre.refCapture c lines ports kind s) :
    exec (.feRefCapture c lines ports kind) s =
      awaits c s (setFe (took c s) { s.fe with nextId := s.fe.nextId + 1, caps := s.fe.caps ++
        [{ id := s.fe.nextId, white := decide (kind = 1), lines := lines, ports := ports }] }) (.feCapture s.fe.nextId) [] := by
  obtain ⟨ht, hl, hp, hq, hk⟩ := h
  show execFeRefCapture c lines ports kind s = _
  rw [execFeRefCapture, accept_taken s c _ _ _ ht (by simp [badByte, hl, hp, hq, hk])]
  simp only [advanceHead_fe]

/-- What the ports' configuration and their place in a line rest on, and the shadow copy. -/
def portView (s : State) : List Line × Tab (Nat × Nat) × Board × Tmu × (Nat → Word) :=
  (s.fe.lines, s.fe.shadow, s.board, s.tmu, regsFrom 0x60000 s)

theorem portView_of_frontView (s t : State) (h : frontView t = frontView s) : portView t = portView s :=
  congrArg (fun v => (v.1.lines, v.1.shadow, v.2)) h

theorem rg_of_portView (s t : State) (h : portView t = portView s) (p k : Nat) : rg t (spBase p + k) = rg s (spBase p + k) := by
  have hr : regsFrom 0x60000 t = regsFrom 0x60000 s := congrArg (·.2.2.2.2) h
  refine rg_of_regsFrom _ _ s t hr ?_
  unfold spBase
  omega

theorem portKeys_of_portView (s t : State) (h : portView t = portView s) (m : Nat) : portKeys t m = portKeys s m := by
  have hr := rg_of_portView s t h
  have h0 (p : Nat) : rg t (spBase p) = rg s (spBase p) := hr p 0
  simp only [portKeys, mapped, pixCount, cropLo, cropHi, pixBase, rf, hr, h0]

theorem inLine_of_portView (s t : State) (h : portView t = portView s) (p : Nat) : inLine t p = inLine s p := by
  have hr := rg_of_portView s t h
  have h0 (p : Nat) : rg t (spBase p) = rg s (spBase p) := hr p 0
  simp only [portView, Prod.mk.injEq] at h
  obtain ⟨hl, -, hb, ht, -⟩ := h
  have hu (k d : Nat) : underFrames t p k d = underFrames s p k d := by rw [underFrames, hb, h0, underFrames]
  have hf (l : Line) : framesIn t p 0 l = framesIn s p 0 l := by simp only [framesIn, hu, rf, dt, hr, ht]
  have ho : oldest t p = oldest s p := by rw [oldest, hl, oldest]
  simp only [inLine, spEn, ctrlBit, h0, ho, hf]

/-- The effect at a line boundary of port `p` of one FE_REF_APPLY that waits. -/
def applyEntry (p : Nat) (s : State) (e : Nat × Nat) : State := applyPort p [e] s

theorem applyPort_eq_foldl (p : Nat) (l : List (Nat × Nat)) (s : State) : applyPort p l s = l.foldl (applyEntry p) s := by
  induction l generalizing s with
  | nil => rfl
  | cons e l ih =>
    simp only [List.foldl_cons, ← ih, applyEntry, applyPort]
    split
    · split <;> rfl
    · rfl

/-- The list of waiting FE_REF_APPLYs after port `p` has had the effect of entry `e`. -/
def appliesAfter (p : Nat) (e : Nat × Nat) (l : List (Nat × Nat)) : List (Nat × Nat) :=
  if putBit e.2 p false = 0 then l.filter (fun x => decide (x.1 ≠ e.1))
  else l.map (fun x => if x.1 = e.1 then (e.1, putBit e.2 p false) else x)

theorem applyEntry_idle (p : Nat) (s : State) (e : Nat × Nat) (h : e.2.testBit p = false) : applyEntry p s e = s := by
  simp [applyEntry, applyPort, h]

/-- An entry with port `p` copies the port's shading and leaves the port's mask bit; a reply may follow. -/
theorem frontView_applyEntry (p : Nat) (s : State) (e : Nat × Nat) (h : e.2.testBit p = true) :
    frontView (applyEntry p s e) =
      frontView (setFe (copyRefs s p) { (copyRefs s p).fe with applies := appliesAfter p e s.fe.applies }) := by
  simp only [applyEntry, applyPort, h, if_true, appliesAfter]
  split
  · exact frontView_completeAwait ..
  · rfl

theorem fe_applyEntry (p : Nat) (s : State) (e : Nat × Nat) (h : e.2.testBit p = true) :
    (applyEntry p s e).fe = { (copyRefs s p).fe with applies := appliesAfter p e s.fe.applies } :=
  congrArg (·.1) (frontView_applyEntry p s e h)

theorem portView_applyEntry (p : Nat) (s : State) (e : Nat × Nat) : portView (applyEntry p s e) = portView s := by
  cases h : e.2.testBit p with
  | false => rw [applyEntry_idle p s e h]
  | true => exact (portView_of_frontView _ _ (frontView_applyEntry p s e h)).trans rfl

theorem portView_lineBoundary (s : State) (p : Nat) : portView (lineBoundary s p) = portView s := by
  rw [lineBoundary, applyPort_eq_foldl]
  exact foldl_invariant portView _ (portView_applyEntry p) _ _

theorem tget_foldl_tset {α : Type} [DecidableEq α] (d : α) (f : Nat → α) (ks : List Nat) (t : Tab α) (j : Nat) :
    tget d (ks.foldl (fun a k => tset d a k (f k)) t) j = if j ∈ ks then f j else tget d t j := by
  induction ks generalizing t with
  | nil => rfl
  | cons k ks ih =>
    rw [List.foldl_cons, ih, tget_tset]
    by_cases hj : j ∈ ks
    · simp [hj]
    · by_cases hk : k = j
      · simp [hk]
      · simp [hj, hk, Ne.symm hk]

/-- The active shading of pixel and band `k` is that of the shadow copy. -/
def Active (k : Nat) (s : State) : Prop := tget (0, 0) s.fe.shade k = tget (0, 0) s.fe.shadow k

theorem active_applyEntry (p k : Nat) (s : State) (e : Nat × Nat) (h : e.2.testBit p = true)
    (hk : Active k s ∨ k ∈ portKeys s (2 ^ p)) : Active k (applyEntry p s e) := by
  simp only [Active, fe_applyEntry p s e h, setFe, copyRefs, tget_foldl_tset]
  split
  · rfl
  · exact hk.resolve_right ‹_›

theorem active_applyEntry_keeps (p k : Nat) (s : State) (e : Nat × Nat) (hk : Active k s) : Active k (applyEntry p s e) := by
  cases h : e.2.testBit p with
  | false => rwa [applyEntry_idle p s e h]
  | true => exact active_applyEntry p k s e h (.inl hk)

theorem active_foldl_applyEntry (p k : Nat) (l : List (Nat × Nat)) (s : State)
    (hk : Active k s ∨ k ∈ portKeys s (2 ^ p) ∧ ∃ e ∈ l, e.2.testBit p = true) : Active k (l.foldl (applyEntry p) s) := by
  induction l generalizing s with
  | nil => exact hk.elim id (fun ⟨_, _, he, _⟩ => absurd he List.not_mem_nil)
  | cons e l ih =>
    rw [List.foldl_cons]
    refine ih _ ?_
    rcases hk with hk | ⟨hm, x, hx, hb⟩
    · exact .inl (active_applyEntry_keeps p k s e hk)
    · rcases List.mem_cons.mp hx with rfl | hx
      · exact .inl (active_applyEntry p k s x hb (.inr hm))
      · exact .inr ⟨by rwa [portKeys_of_portView _ _ (portView_applyEntry p s e)], x, hx, hb⟩

/-- The FE_REF_APPLY `id` waits, and still for port `q`. -/
def Owes (id q : Nat) (s : State) : Prop :=
  (∃ e ∈ s.fe.applies, e.1 = id) ∧ ∀ e ∈ s.fe.applies, e.1 = id → e.2.testBit q = true

theorem active_lineBoundary (s : State) (p k : Nat) (hk : Active k s) : Active k (lineBoundary s p) := by
  rw [lineBoundary, applyPort_eq_foldl]
  exact active_foldl_applyEntry p k _ s (.inl hk)

/-- A line boundary of a port gives the port the shading that a waiting FE_REF_APPLY owes it. -/
theorem active_lineBoundary_of_owes (s : State) (id p k : Nat) (h : Owes id p s) (hk : k ∈ portKeys s (2 ^ p)) :
    Active k (lineBoundary s p) := by
  obtain ⟨⟨e, he, hi⟩, hb⟩ := h
  rw [lineBoundary, applyPort_eq_foldl]
  exact active_foldl_applyEntry p k _ s (.inr ⟨hk, e, he, hb e he hi⟩)

/-- Port `p`'s boundary does not settle what is owed to another port. -/
theorem owes_applyEntry (id p q : Nat) (s : State) (e : Nat × Nat) (hq : q ≠ p) (he : e.1 = id → e.2.testBit q = true)
    (h : Owes id q s) : Owes id q (applyEntry p s e) := by
  cases hp : e.2.testBit p with
  | false => rwa [applyEntry_idle p s e hp]
  | true =>
    have hrest : e.1 = id → (putBit e.2 p false).testBit q = true := fun hi => by rw [testBit_putBit, if_neg hq, he hi]
    obtain ⟨⟨x, hx, hi⟩, hb⟩ := h
    simp only [Owes, fe_applyEntry p s e hp, appliesAfter]
    split
    · rename_i hz
      have hne : id ≠ e.1 := fun hi => by simpa [hz] using hrest hi.symm
      exact ⟨⟨x, by simp [hx, hi, hne], hi⟩, fun y hy => hb y ((List.mem_filter.mp hy).1)⟩
    · refine ⟨⟨_, List.mem_map_of_mem hx, ?_⟩, fun y hy hyi => ?_⟩
      · split
        · exact (Eq.symm ‹x.1 = e.1›).trans hi
        · exact hi
      · obtain ⟨z, hz, rfl⟩ := List.mem_map.mp hy
        split at hyi
        · rw [if_pos ‹_›]
          exact hrest hyi
        · rw [if_neg ‹_›]
          exact hb z hz hyi

theorem owes_foldl_applyEntry (id p q : Nat) (hq : q ≠ p) (l : List (Nat × Nat)) (s : State)
    (hl : ∀ e ∈ l, e.1 = id → e.2.testBit q = true) (h : Owes id q s) : Owes id q (l.foldl (applyEntry p) s) := by
  induction l generalizing s with
  | nil => exact h
  | cons e l ih =>
    have hs := owes_applyEntry id p q s e hq (hl e List.mem_cons_self) h
    exact ih _ (fun x hx => hl x (List.mem_cons_of_mem _ hx)) hs

theorem owes_lineBoundary (s : State) (id p q : Nat) (hq : q ≠ p) (h : Owes id q s) : Owes id q (lineBoundary s p) := by
  rw [lineBoundary, applyPort_eq_foldl]
  exact owes_foldl_applyEntry id p q hq _ s h.2 h

/-- A line boundary of a port that is not within a line. -/
def idleBoundary (s : State) (p : Nat) : State := if inLine s p then s else lineBoundary s p

theorem portView_idleBoundary (s : State) (p : Nat) : portView (idleBoundary s p) = portView s := by
  unfold idleBoundary
  split
  · rfl
  · exact portView_lineBoundary s p

theorem idleBoundary_eq (s : State) (p : Nat) (h : inLine s p = false) : idleBoundary s p = lineBoundary s p := by
  simp [idleBoundary, h]

/-- Once every port of the list, none within a line, has had its boundary, the shading owed to each is active. -/
theorem active_foldl_idleBoundary (id k : Nat) (ps : List Nat) (s : State) (hn : ps.Nodup) (hi : ∀ p ∈ ps, inLine s p = false)
    (ho : ∀ p ∈ ps, Owes id p s) (hk : Active k s ∨ ∃ p ∈ ps, k ∈ portKeys s (2 ^ p)) :
    Active k (ps.foldl idleBoundary s) := by
  induction ps generalizing s with
  | nil => exact hk.elim (·) (fun ⟨_, hp, _⟩ => absurd hp List.not_mem_nil)
  | cons p ps ih =>
    obtain ⟨hp, hn⟩ := List.nodup_cons.mp hn
    have hv := portView_lineBoundary s p
    rw [List.foldl_cons, idleBoundary_eq s p (hi p List.mem_cons_self)]
    refine ih _ hn (fun q hq => ?_) (fun q hq => ?_) ?_
    · exact (inLine_of_portView _ _ hv q).trans (hi q (List.mem_cons_of_mem _ hq))
    · exact owes_lineBoundary s id p q (ne_of_mem_of_not_mem hq hp) (ho q (List.mem_cons_of_mem _ hq))
    · rcases hk with hk | ⟨q, hq, hk⟩
      · exact .inl (active_lineBoundary s p k hk)
      · rcases List.mem_cons.mp hq with rfl | hq
        · exact .inl (active_lineBoundary_of_owes s id q k (ho q List.mem_cons_self) hk)
        · exact .inr ⟨q, hq, by rwa [portKeys_of_portView _ _ hv]⟩

theorem mem_bitList (v n k : Nat) : k ∈ bitList v n ↔ k < n ∧ v.testBit k = true := by simp [bitList]

/-- A key of the ports of a mask is a key of one of them. -/
theorem exists_port_of_mem_portKeys (s : State) (m k : Nat) (h : k ∈ portKeys s m) : ∃ p ∈ bitList m 8, k ∈ portKeys s (2 ^ p) := by
  simp only [portKeys, List.mem_flatten, List.mem_map] at h ⊢
  obtain ⟨_, ⟨p, hp, rfl⟩, hk⟩ := h
  have hp8 := ((mem_bitList m 8 p).mp hp).1
  exact ⟨p, hp, _, ⟨p, (mem_bitList _ 8 p).mpr ⟨hp8, Nat.testBit_two_pow_self⟩, rfl⟩, hk⟩

/-- The state in which the FE_REF_APPLY waits for all its ports. -/
def applyBegun (c : Cmd) (ports : Nat) (s : State) : State :=
  defer (setFe (took c s) { s.fe with nextId := s.fe.nextId + 1, applies := s.fe.applies ++ [(s.fe.nextId, ports)] })
    (flightOf c s) (.feApply s.fe.nextId) []

theorem portView_applyBegun (c : Cmd) (ports : Nat) (s : State) : portView (applyBegun c ports s) = portView s := by
  have h := portView_of_frontView _ _ (frontView_advanceHead s c.sq)
  rw [← h, portView, portView, advanceHead_fe]
  rfl

theorem exec_feRefApply (c : Cmd) (ports : Nat) (s : State) (h : Pre.refApply c ports s) :
    exec (.feRefApply c ports) s = .next ((bitList ports 8).foldl idleBoundary (applyBegun c ports s)) := by
  obtain ⟨ht, hp, hq, hl, -, -⟩ := h
  have hl' : lanesOnPorts (advanceHead s c.sq) ports = false := by
    rw [← hl]
    simp only [lanesOnPorts, lanesMeet, pixBase, mapped, pixCount, cropLo, cropHi, advanceHead_rf, advanceHead_lanes]
  show execFeRefApply c ports s = _
  rw [execFeRefApply, accept_taken s c _ _ _ ht (by simp [badByte, hp, hq]), hl', advanceHead_fe]
  rfl

theorem refApply_activates (c : Cmd) (ports : Nat) (s : State) (h : Pre.refApply c ports s) :
    Gives (.feRefApply c ports) s (fun t => ∀ k ∈ portKeys s ports, tget (0, 0) t.fe.shade k = tget (0, 0) s.fe.shadow k) := by
  refine ⟨_, exec_feRefApply c ports s h, fun k hk => ?_⟩
  obtain ⟨-, -, -, -, hidle, hfresh⟩ := h
  have hv := portView_applyBegun c ports s
  have hn : (bitList ports 8).Nodup := List.nodup_range.filter _
  have hi : ∀ p ∈ bitList ports 8, inLine (applyBegun c ports s) p = false := fun p hp => by
    simpa [inLine_of_portView _ _ hv p] using List.all_eq_true.mp hidle p hp
  have ho : ∀ p ∈ bitList ports 8, Owes s.fe.nextId p (applyBegun c ports s) := fun p hp => by
    refine ⟨⟨(s.fe.nextId, ports), List.mem_append_right _ List.mem_cons_self, rfl⟩, fun e he hid => ?_⟩
    rcases List.mem_append.mp he with he | he
    · exact absurd hid (of_decide_eq_true (List.all_eq_true.mp hfresh e he))
    · rw [List.mem_singleton.mp he]
      exact ((mem_bitList ports 8 p).mp hp).2
  obtain ⟨p, hp, hkp⟩ := exists_port_of_mem_portKeys s ports k hk
  have ha := active_foldl_idleBoundary s.fe.nextId k _ _ hn hi ho (.inr ⟨p, hp, by rwa [portKeys_of_portView _ _ hv]⟩)
  have hs : portView ((bitList ports 8).foldl idleBoundary (applyBegun c ports s)) = portView s :=
    (foldl_invariant portView idleBoundary portView_idleBoundary _ _).trans hv
  exact ha.trans (congrArg (fun v => tget (0, 0) v.2.1 k) hs)

/-! ### White tracking (R87) -/

/-- A factor stays within the limit around 1.0. -/
theorem trackFactor_bounds (s : State) (sum : Nat) :
    16384 - 16 * rf s 0xC0010 25 16 ≤ (trackFactor s sum).1 ∧ (trackFactor s sum).1 ≤ 16384 + 16 * rf s 0xC0010 25 16 := by
  simp only [trackFactor]
  generalize (if sum = 0 then 16384 + 16 * rf s 0xC0010 25 16 + 1
    else (rhe (16384 * rf s 0xC0000 31 16 * 64 * rf s 0xC0014 10 0) sum).toNat) = v
  split
  · exact ⟨by omega, Nat.le_refl _⟩
  · split
    · exact ⟨Nat.le_refl _, by omega⟩
    · exact ⟨by omega, by omega⟩

theorem whiteUpdate_fe (s : State) (g : Tab Nat) : (whiteUpdate s g).fe.group = none ∧
    (whiteUpdate s g).fe.track = (List.range 8).map (fun b =>
      (if (g.map (·.1)).contains b then trackFactor s (tget 0 g b) else (s.fe.track.getD b 16384, false)).1) := by
  simp only [whiteUpdate]
  split <;> exact ⟨rfl, List.map_map⟩

theorem whiteUpdate_rest (s : State) (g : Tab Nat) : { whiteUpdate s g with fe := s.fe, regs := s.regs } = s := by
  simp only [whiteUpdate]
  split <;> rfl

theorem whiteTrack_bounds (g : Tab Nat) (s : State) (h : Pre.whiteTrack g s) : Gives .whiteTrackUpdate s (fun t =>
    t.fe.group = none ∧ (∀ b, b < 8 → b ∈ g.map (·.1) →
      16384 - 16 * rf s 0xC0010 25 16 ≤ t.fe.track.getD b 0 ∧ t.fe.track.getD b 0 ≤ 16384 + 16 * rf s 0xC0010 25 16) ∧
    { t with fe := s.fe, regs := s.regs } = s) := by
  obtain ⟨hr, hg⟩ := h
  have hx : exec .whiteTrackUpdate s = .next (whiteUpdate s g) := by
    show execWhiteTrackUpdate s = _
    simp only [execWhiteTrackUpdate, hg, hr, if_true]
  obtain ⟨hnone, htrack⟩ := whiteUpdate_fe s g
  refine ⟨_, hx, hnone, fun b hb hm => ?_, whiteUpdate_rest s g⟩
  have hv : (whiteUpdate s g).fe.track.getD b 0 = (trackFactor s (tget 0 g b)).1 := by
    rw [htrack, List.getD_eq_getElem?_getD, List.getElem?_map, List.getElem?_range hb, Option.map_some, Option.getD_some,
      if_pos (List.contains_iff_mem.mpr hm)]
  rw [hv]
  exact trackFactor_bounds s _

/-- Settles O15: the capture joins the others, a waiting FE_REF_APPLY reaches every port at its boundary, and a factor is clamped. -/
theorem shading : Obligations.Shading :=
  ⟨exec_feRefCapture, refApply_activates, whiteTrack_bounds⟩

end Sys2Proof.Machine

namespace Sys2Proof.Machine

/-! ### Stripe buffers: reports leave their rows (R162 to R164) -/

/-- What a report leaves: the stripe buffers, the marks, and the registers above those of Salhan and of the marks. -/
def reportView (s : State) : Tab (Option StripeBuf) × Marks × (Nat → Word) := (s.fe.sbs, s.marks, regsFrom 0x60000 s)

theorem reportView_flag (s : State) (o b : Nat) (h : o + 8 < 0x60000) : reportView (flag s o b) = reportView s := by
  simp only [reportView, regsFrom_flag _ o b s h]
  rfl

@[simp] theorem reportView_raiseVec (s : State) (v : Option Nat) : reportView (raiseVec s v) = reportView s := by
  cases v <;> rfl

@[simp] theorem reportView_writeRec (s : State) (n : Nat) (x : Rec) (b : Bool) : reportView (writeRec s n x b) = reportView s := by
  unfold writeRec
  split
  · rfl
  · simp only
    split
    · exact reportView_raiseVec ..
    · rfl

@[simp] theorem reportView_bedPauseAuto (s : State) : reportView (bedPauseAuto s) = reportView s := by
  unfold bedPauseAuto
  split <;> rfl

@[simp] theorem reportView_dropGroup (s : State) (n : Nat) (r : RepRing) (xs : List Rec) (v : Option VerdictInfo) :
    reportView (dropGroup s n r xs v) = reportView s := by
  change reportView (if _ then s else flag s 0x50120 1) = _
  split
  · rfl
  · exact reportView_flag s _ _ (by decide)

@[simp] theorem reportView_spillGroup (s : State) (n : Nat) (r : RepRing) (xs : List Rec) (v : Option VerdictInfo) :
    reportView (spillGroup s n r xs v) = reportView s := by
  unfold spillGroup
  split
  · rfl
  · exact reportView_dropGroup ..

/-- A group for a ring with room, one that spills, one that is dropped, one without a ring: none touches the view. -/
@[simp] theorem reportView_reportGroup (s : State) (xs : List Rec) (v : Option VerdictInfo) :
    reportView (reportGroup s xs v) = reportView s := by
  unfold reportGroup
  split
  · rfl
  · split
    · rw [reportView_flag _ _ _ (by decide), reportView, regsFrom_bump _ _ _ s (by decide)]
      rfl
    · split
      · rfl
      · simp only
        split
        · split
          · exact foldl_invariant reportView _ (fun s x => reportView_writeRec s _ x _) _ _
          · rw [reportView_bedPauseAuto, reportView_flag _ _ _ (by decide), reportView_spillGroup]
        · exact reportView_spillGroup ..
        · exact reportView_dropGroup ..

@[simp] theorem reportView_report (s : State) (typ : Nat) (ln : Option Nat) (src ref : Nat) (payload : List Byte) :
    reportView (report s typ ln src ref payload) = reportView s := reportView_reportGroup ..

theorem sb_setSb (s : State) (b k : Nat) (x : Option StripeBuf) : sb (setSb s b x) k = if b = k then x else sb s k := tget_tset ..

/-- The rows of a stripe buffer: its head and its queue. -/
def sbRows (x : StripeBuf) : Nat × List StripeRow := (x.head, x.queue)

/-- What the next row of buffer `b` rests on: its rows, its ready mark, the marks. -/
def bufView (b : Nat) (s : State) : Option (Nat × List StripeRow) × Nat × Marks := ((sb s b).map sbRows, sbRdy s b, s.marks)

theorem bufView_setSb (b : Nat) (s : State) (y : StripeBuf) :
    bufView b (setSb s b (some y)) = (some (sbRows y), sbRdy s b, s.marks) := by
  simp only [bufView, sb_setSb, if_true, Option.map_some]
  rfl

theorem bufView_setSb_same (b : Nat) (s : State) (x y : StripeBuf) (hx : sb s b = some x) (h : sbRows y = sbRows x) :
    bufView b (setSb s b (some y)) = bufView b s := by
  rw [bufView_setSb, bufView, hx, h, Option.map_some]

theorem bufView_of_reportView (b : Nat) (s t : State) (h : reportView t = reportView s) : bufView b t = bufView b s := by
  have hr : rg t (sbOff b + 16) = rg s (sbOff b + 16) := by
    refine rg_of_regsFrom 0x60000 _ s t (congrArg (·.2.2) h) ?_
    unfold sbOff
    omega
  have hs : t.fe.sbs = s.fe.sbs := congrArg (·.1) h
  have hm : t.marks = s.marks := congrArg (·.2.1) h
  simp only [bufView, sb, sbRdy, rf, hs, hr, hm]

theorem bufView_rsetN (b o v : Nat) (s : State) (h : o ≠ sbOff b + 16) : bufView b (rsetN s o v) = bufView b s := by
  simp only [bufView, sbRdy, rf, rg, rget_rsetN, if_neg h]
  rfl

theorem bufView_flag (b o k : Nat) (s : State) (h : o ≠ sbOff b + 16) (hc : cntOf o ≠ sbOff b + 16) :
    bufView b (flag s o k) = bufView b s := by
  rw [flag, bump, bufView_rsetN _ _ _ _ hc, bufView_rsetN _ _ _ _ h]

/-- A release counts for its position, and changes the rows' counts alone besides. -/
theorem foldl_decSlot_keeps (s : State) (b k : Nat) (l : List Nat) (x : StripeBuf) :
    sbRows (l.foldl (decSlot s b k) x) = sbRows x ∧ (l.foldl (decSlot s b k) x).rel = x.rel := by
  have h := foldl_invariant (fun x : StripeBuf => (sbRows x, x.rel)) (decSlot s b k) (fun x j => by
    unfold decSlot
    split
    · split <;> rfl
    · rfl) l x
  exact ⟨congrArg (·.1) h, congrArg (·.2) h⟩

/-- What one release makes of the buffer. -/
def released (s : State) (b pos : Nat) (x : StripeBuf) : StripeBuf :=
  let y := (x.counts.map (·.1)).foldl (decSlot s b (tget 0 x.rel pos * sbNc s b + pos)) x
  { y with rel := tmod 0 y.rel pos (· + 1) }

theorem release1_eq (s : State) (b pos : Nat) (x : StripeBuf) : release1 s b pos x = setSb s b (some (released s b pos x)) := rfl

theorem sbRows_released (s : State) (b pos : Nat) (x : StripeBuf) : sbRows (released s b pos x) = sbRows x :=
  (foldl_decSlot_keeps s b _ _ x).1

theorem released_rel (s : State) (b pos : Nat) (x : StripeBuf) :
    tget 0 (released s b pos x).rel pos = tget 0 x.rel pos + 1 := by
  simp only [released, tmod, tget_tset_self, (foldl_decSlot_keeps s b _ _ x).2]

theorem stripeRelease_counts (b p : Nat) (x : StripeBuf) (s : State) (h : Pre.stripeRelease b p x s) :
    Gives (.stripeRelease b p) s (fun t =>
      (∃ y, sb t b = some y ∧ tget 0 y.rel p = tget 0 x.rel p + 1 ∧ y.head = x.head ∧ y.queue = x.queue) ∧
      { t with fe := s.fe } = s) := by
  obtain ⟨hr, hx, hd⟩ := h
  have he : exec (.stripeRelease b p) s = .next (setSb s b (some (released s b p x))) := by
    show execStripeRelease b p s = _
    simp only [execStripeRelease, hx, hr, hd, Bool.and_self, if_true, release1_eq]
  have hrows := sbRows_released s b p x
  refine ⟨_, he, ⟨_, by rw [sb_setSb, if_pos rfl], released_rel s b p x, ?_, ?_⟩, rfl⟩
  · exact congrArg (·.1) hrows
  · exact congrArg (·.2) hrows

theorem bufView_releaseUpTo (b pos n : Nat) (s : State) : bufView b (releaseUpTo b pos n s) = bufView b s := by
  induction n generalizing s with
  | zero => rfl
  | succ n ih =>
    unfold releaseUpTo
    split
    · split
      · rw [ih, release1_eq, bufView_setSb_same b s _ _ ‹_› (sbRows_released ..)]
      · rfl
    · rfl

theorem bufView_releaseAll (b : Nat) (s : State) : bufView b (releaseAll s b) = bufView b s :=
  foldl_invariant (bufView b) _ (fun _ _ => bufView_releaseUpTo ..) _ _

/-- A stripe that becomes stale is listed, flagged, counted and reported; the rows stay. -/
theorem bufView_makeStale (b : Nat) (s : State) (k : Nat) : bufView b (makeStale b s k) = bufView b s := by
  have hc := cntOf_bounds (sbOff b + 0x20)
  unfold makeStale
  split
  · rfl
  · rename_i x hx
    rw [bufView_of_reportView b _ _ (reportView_report ..), bump, bufView_rsetN _ _ _ _ (by omega), flagsOne, bump,
      bufView_rsetN _ _ _ _ (by omega), bufView_rsetN _ _ _ _ (by omega)]
    exact bufView_setSb_same b s x _ hx rfl

theorem bufView_overwriteRow (b r : Nat) (s : State) (x : StripeBuf) : bufView b (overwriteRow s b r x) = bufView b s := by
  unfold overwriteRow
  split
  · refine foldl_invariant (bufView b) _ (fun s k => ?_) _ _
    split
    · rfl
    · exact bufView_makeStale ..
  · rfl

/-- Saturating, a mark takes what an external signal adds (R258). -/
theorem mark_signalExt (s : State) (m add : Nat) (h : add ≠ 0) : mark (signalExt s m add) m = min sat64 (mark s m + add) := by
  simp only [signalExt, addMark, if_neg h, mark, wakeOn]
  rw [tget_tset_self, Nat.min_comm]

theorem sb_signalExt (s : State) (m add b : Nat) : sb (signalExt s m add) b = sb s b := by
  have h : (signalExt s m add).fe = s.fe := congrArg (·.1) (frontView_signalExt s m add)
  simp only [sb, h]

/-- A row is written: the state before the ready mark's signal has the row out of the queue and the head past it. -/
theorem writeStripe_signals (s : State) (b : Nat) (row : StripeRow) (head : Nat) (q : List StripeRow)
    (h : (sb s b).map sbRows = some (head, q)) :
    ∃ u, writeStripe s b row = signalExt u (sbRdy u b) 1 ∧ bufView b u = (some (head + 1, q.drop 1), sbRdy s b, s.marks) := by
  obtain ⟨x, hx, hq⟩ := Option.map_eq_some_iff.mp h
  obtain ⟨rfl, rfl⟩ := Prod.mk.inj hq
  have hv := bufView_overwriteRow b x.head s x
  simp only [writeStripe, hx]
  generalize overwriteRow s b x.head x = u at hv ⊢
  obtain ⟨hrows, hrdy, hmarks⟩ := by simpa only [bufView, hx, Option.map_some, Prod.mk.injEq] using hv
  obtain ⟨y, hy, hxy⟩ := Option.map_eq_some_iff.mp hrows
  obtain ⟨hhead, hqueue⟩ := Prod.mk.inj hxy
  have hu : (sb u b).getD x = y := by rw [hy]; rfl
  have hc := cntOf_bounds (sbOff b + 0x20)
  have hw : (some (x.head + 1, x.queue.drop 1), sbRdy s b, s.marks) = (some (x.head + 1, y.queue.drop 1), sbRdy u b, u.marks) := by
    rw [hqueue, hrdy, hmarks]
  refine ⟨_, rfl, ?_⟩
  rw [hw, hu]
  split
  · exact bufView_setSb ..
  · rw [bufView_flag _ _ _ _ (by omega) (by omega)]
    exact bufView_setSb ..

theorem stripeRow_written (b : Nat) (x : StripeBuf) (row : StripeRow) (rest : List StripeRow) (s : State)
    (h : Pre.stripeRow b x row rest s) : Gives (.stripeRowWrite b) s (fun t =>
      (∃ y, sb t b = some y ∧ y.head = x.head + 1 ∧ y.queue = rest) ∧
      mark t (sbRdy s b) = min (2 ^ 64 - 1) (mark s (sbRdy s b) + 1)) := by
  obtain ⟨hr, hx, hq⟩ := h
  have he : exec (.stripeRowWrite b) s = .next (writeStripe (releaseAll s b) b row) := by
    show execStripeRowWrite b s = _
    simp only [execStripeRowWrite, hx, hq, hr, if_true]
  have hv := bufView_releaseAll b s
  obtain ⟨hrows, hrdy, hmarks⟩ := by simpa only [bufView, hx, Option.map_some, Prod.mk.injEq] using hv
  obtain ⟨u, hu, hvu⟩ := writeStripe_signals (releaseAll s b) b row x.head x.queue hrows
  simp only [bufView, hrdy, hmarks, hq, List.drop_one, List.tail_cons, Prod.mk.injEq] at hvu
  obtain ⟨hy, hurdy, humarks⟩ := hvu
  obtain ⟨y, hy, hyr⟩ := Option.map_eq_some_iff.mp hy
  obtain ⟨hhead, hqueue⟩ := Prod.mk.inj hyr
  refine ⟨_, he, ⟨y, ?_, hhead, hqueue⟩, ?_⟩
  · rw [hu, sb_signalExt, hy]
  · rw [hu, hurdy, mark_signalExt u _ 1 Nat.one_ne_zero, mark, humarks]
    rfl

/-! ### Stripe buffers enabled and disabled (R160) -/

theorem exec_drkSbEnable (b : Nat) (v : Word) (s : State) (hp : powered s = true) (hb : b < 4) :
    exec (.drkSbEnable b v) s = .next (sbWrite s b v) := by
  show execDrkSbEnable b v s = _
  simp [execDrkSbEnable, hp, hb]

theorem stripeEnable_starts (b : Nat) (v : Word) (s : State) (h : Pre.stripeEnable b v s) :
    Gives (.drkSbEnable b v) s (fun t =>
      (∃ y, sb t b = some y ∧ y.head = 0 ∧ y.queue = [] ∧ y.v0 = mark s (sbRdy t b)) ∧ bit (rg t (sbOff b)) 31 = true) := by
  obtain ⟨hp, hb, hen, hv, hok⟩ := h
  refine ⟨_, exec_drkSbEnable b v s hp hb, ?_⟩
  simp only [sbWrite, hen, hv, hok, if_true, Bool.false_eq_true, if_false, Bool.not_true]
  generalize hs : rset s (sbOff b) (v &&& 0x07FFFFFF) = u
  have hm (k : Nat) : mark u k = mark s k := by rw [← hs]; rfl
  refine ⟨⟨_, by rw [sb_setSb, if_pos rfl], rfl, rfl, ?_⟩, ?_⟩
  · have hr (y : Option StripeBuf) (x z : Nat) :
        sbRdy (setSb (rsetN (rsetN u (sbOff b) x) (sbOff b + 0x28) z) b y) b = sbRdy u b := by
      have h1 : sbOff b ≠ sbOff b + 16 := by omega
      have h2 : sbOff b + 0x28 ≠ sbOff b + 16 := by omega
      exact congrArg (·.2.1) ((bufView_rsetN b _ z _ h2).trans (bufView_rsetN b _ x u h1))
    rw [hr, hm]
  · have hf (y : Option StripeBuf) (t : State) : rg (setSb t b y) (sbOff b) = rg t (sbOff b) := rfl
    have hne : sbOff b + 0x28 ≠ sbOff b := by omega
    rw [hf, rg, rget_rsetN, if_neg hne, ← rg, bit_rg_rsetN _ _ _ _ (by decide), testBit_putBit, if_pos rfl]

theorem stripeDisable_stops (b : Nat) (v : Word) (s : State) (h : Pre.stripeDisable b v s) :
    Gives (.drkSbEnable b v) s (fun t =>
      sb t b = none ∧ bit (rg t (sbOff b)) 31 = false ∧ { t with fe := s.fe, regs := s.regs } = s) := by
  obtain ⟨hp, hb, hen, hv, hl⟩ := h
  refine ⟨_, exec_drkSbEnable b v s hp hb, ?_⟩
  simp only [sbWrite, hen, hv, hl, if_true, Bool.false_eq_true, if_false]
  refine ⟨by rw [sb_setSb, if_pos rfl], ?_, rfl⟩
  exact (bit_rg_rsetN s _ _ 31 (by decide)).trans (by rw [testBit_putBit, if_pos rfl])

end Sys2Proof.Machine

namespace Sys2Proof.Machine

/-! ### The state in which a raster row is written (R88, R312, R313) -/

/-- The front end and the length of the raster ring. -/
def ringView (s : State) : Fe × Nat := (s.fe, rasterLines s)

theorem ringView_rsetN (s : State) (o v : Nat) (h : 0x180000 ≤ o) : ringView (rsetN s o v) = ringView s := by
  simp only [ringView, rasterLines, rf, rg, rget_rsetN, if_neg (show o ≠ 0xC0058 by omega)]
  rfl

theorem ringView_flag (s : State) (o b : Nat) (h : 0x180000 ≤ o) : ringView (flag s o b) = ringView s := by
  have := cntOf_bounds o
  rw [flag, bump, ringView_rsetN _ _ _ (by omega), ringView_rsetN _ _ _ h]

theorem chanBase_ge (n : Nat) : 0x180000 ≤ chanBase n := by
  unfold chanBase
  omega

theorem ringView_neighbourRefresh (s : State) (n key : Nat) : ringView (neighbourRefresh s n key) = ringView s := by
  have := chanBase_ge n
  exact ringView_rsetN _ _ _ (by omega)

theorem ringView_releaseHeld (s : State) (n : Nat) : ringView (releaseHeld s n) = ringView s := by
  unfold releaseHeld
  simp only
  split
  · rfl
  · exact foldl_invariant ringView _ (fun s k => ringView_neighbourRefresh s n k) _ _

/-- The fill of a sub-queue is the channel's: its flags and counters lie in the channel's block. -/
theorem ringView_setFill (s : State) (e : Nat × Nat × Nat) : ringView (setFill s e) = ringView s := by
  have := chanBase_ge e.2.1
  unfold setFill
  simp only
  split
  · rfl
  · rw [ringView_releaseHeld]
    split
    · rw [bump, ringView_rsetN _ _ _ (by omega), ringView_flag _ _ _ (by omega)]
      rfl
    · rfl

/-- The state with the port's row counted on its channel, where one overflows. -/
def overflowed (s : State) : Option (Nat × Nat) → State
  | some x => overflow s x
  | none => s

theorem ringView_overflowed (s : State) (o : Option (Nat × Nat)) : ringView (overflowed s o) = ringView s := by
  cases o with
  | none => rfl
  | some x =>
    rw [overflowed, overflow, bump, ringView_rsetN _ _ _ (by omega), ringView_flag _ _ _ (by omega)]

theorem bit_overflow (s : State) (x : Nat × Nat) : bit (rg (overflow s x) (0x180004 + x.2 * 0x10000)) 6 = true := by
  rw [overflow, rg, rget_bump_ne _ _ _ _ (by omega), ← rg]
  exact bit_flag s _ 6 (by decide)

/-! ### Segments of a row (R88, R90) -/

/-- A port's row count, and its stamps by slot. -/
def portRow (p : Nat) (s : State) : Nat × (Nat → Nat × Nat) :=
  (tget 0 s.fe.row p, fun slot => tget (0, 0) s.fe.stamps (slot * 8 + p))

/-- The stamps that a segment of the row of `l` carries. -/
def stampOf (l : Line) (g : RowSeg) : Nat × Nat := if g.valid then (l.wt, l.dt) else (noStamp, noStamp)

/-- The stamps once the segment is put into the ring. -/
def stampsAfter (l : Line) (s : State) (g : RowSeg) : Tab (Nat × Nat) :=
  if !g.write || decide (rasterLines s = 0) then s.fe.stamps
  else tset (0, 0) s.fe.stamps (tget 0 s.fe.row g.port % rasterLines s * 8 + g.port) (stampOf l g)

theorem putSeg_fe (l : Line) (s : State) (g : RowSeg) : (putSeg l s g).fe =
    { s.fe with row := tset 0 s.fe.row g.port (tget 0 s.fe.row g.port + 1), stamps := stampsAfter l s g } := by
  have hn (f : Fe) : rasterLines (setFe s f) = rasterLines s := rfl
  simp only [putSeg, stampsAfter, hn]
  split <;> rfl

theorem putSeg_regs (l : Line) (s : State) (g : RowSeg) : (putSeg l s g).regs = s.regs := by
  simp only [putSeg]
  split <;> rfl

theorem rasterLines_putSeg (l : Line) (s : State) (g : RowSeg) : rasterLines (putSeg l s g) = rasterLines s := by
  simp only [rasterLines, rf, rg, rget, putSeg_regs]

theorem portRow_putSeg_ne (l : Line) (s : State) (g : RowSeg) (p : Nat) (h : g.port ≠ p) (hg : g.port < 8) (hp : p < 8) :
    portRow p (putSeg l s g) = portRow p s := by
  have hk (a b : Nat) : a * 8 + g.port ≠ b * 8 + p := by omega
  have hs (slot : Nat) : tget (0, 0) (stampsAfter l s g) (slot * 8 + p) = tget (0, 0) s.fe.stamps (slot * 8 + p) := by
    unfold stampsAfter
    split
    · rfl
    · exact tget_tset_ne _ _ _ _ _ (hk _ slot)
  simp only [portRow, putSeg_fe, tget_tset_ne _ _ _ _ _ h, hs]

theorem portRow_putSeg_self (l : Line) (s : State) (g : RowSeg) (hw : g.write = true) (hr : rasterLines s ≠ 0) :
    (portRow g.port (putSeg l s g)).1 = (portRow g.port s).1 + 1 ∧
      (portRow g.port (putSeg l s g)).2 ((portRow g.port s).1 % rasterLines s) = stampOf l g := by
  simp only [portRow, putSeg_fe, stampsAfter, hw, hr, Bool.not_true, decide_false, Bool.or_self, Bool.false_eq_true, if_false]
  exact ⟨tget_tset_self .., tget_tset_self ..⟩

/-- The segments of a row with ports below 8, each once: those of other ports leave a port alone. -/
theorem portRow_foldl_putSeg_ne (l : Line) (gs : List RowSeg) (s : State) (p : Nat) (hp : p < 8)
    (h : ∀ g ∈ gs, g.port < 8 ∧ g.port ≠ p) : portRow p (gs.foldl (putSeg l) s) = portRow p s := by
  induction gs generalizing s with
  | nil => rfl
  | cons g gs ih =>
    obtain ⟨hg, hne⟩ := h g List.mem_cons_self
    rw [List.foldl_cons, ih _ (fun x hx => h x (List.mem_cons_of_mem _ hx)), portRow_putSeg_ne l s g p hne hg hp]

theorem portRow_foldl_putSeg (l : Line) (gs : List RowSeg) (s : State) (hr : rasterLines s ≠ 0) (hn : (gs.map (·.port)).Nodup)
    (h : ∀ g ∈ gs, g.port < 8 ∧ g.write = true) (g : RowSeg) (hg : g ∈ gs) :
    (portRow g.port (gs.foldl (putSeg l) s)).1 = (portRow g.port s).1 + 1 ∧
      (portRow g.port (gs.foldl (putSeg l) s)).2 ((portRow g.port s).1 % rasterLines s) = stampOf l g := by
  induction gs generalizing s with
  | nil => exact absurd hg List.not_mem_nil
  | cons x gs ih =>
    obtain ⟨hx, hn⟩ := List.nodup_cons.mp (List.map_cons ▸ hn)
    obtain ⟨hx8, hxw⟩ := h x List.mem_cons_self
    have ht : ∀ y ∈ gs, y.port < 8 ∧ y.write = true := fun y hy => h y (List.mem_cons_of_mem _ hy)
    have hne : ∀ y ∈ gs, y.port ≠ x.port := fun y hy he => hx (he ▸ List.mem_map_of_mem hy)
    rw [List.foldl_cons]
    rcases List.mem_cons.mp hg with rfl | hg
    · rw [portRow_foldl_putSeg_ne l gs _ _ hx8 (fun y hy => ⟨(ht y hy).1, hne y hy⟩)]
      exact portRow_putSeg_self l s g hxw hr
    · have hl := rasterLines_putSeg l s x
      have hp := portRow_putSeg_ne l s x g.port (hne g hg).symm hx8 (ht g hg).1
      rw [← hp, ← hl]
      exact ih _ (hl ▸ hr) hn ht hg

/-- The segment of a port of which every line is good: written, and valid but for an overflow. -/
theorem rowSeg_of_ok (s : State) (g : List Line) (o : Option Nat) (seed p : Nat)
    (h : ∀ x ∈ g, (segOf x p).map (·.st) = some .ok) :
    (rowSeg s g o seed p).write = true ∧ (rowSeg s g o seed p).valid = decide (o ≠ some p) := by
  have hst : ∀ x ∈ g.map (fun l => (segOf l p).getD { st := .skipped }), x.st = .ok := by
    intro x hx
    obtain ⟨l, hl, rfl⟩ := List.mem_map.mp hx
    obtain ⟨y, hy, hst⟩ := Option.map_eq_some_iff.mp (h l hl)
    rw [hy]
    exact hst
  have hall : (g.map (fun l => (segOf l p).getD { st := .skipped })).all (fun x => decide (x.st = .ok)) = true :=
    List.all_eq_true.mpr (fun x hx => decide_eq_true (hst x hx))
  have hany : (g.map (fun l => (segOf l p).getD { st := .skipped })).any (fun x => decide (x.st = .skipped)) = false :=
    List.any_eq_false.mpr (fun x hx => by simp [hst x hx])
  simp only [rowSeg, hall, hany, Bool.true_and, Bool.not_false, Bool.or_true]
  split
  · rename_i ho
    exact ⟨rfl, ho.symm⟩
  · rename_i ho
    exact ⟨rfl, (Bool.eq_false_iff.mpr ho).symm⟩

theorem rowSeg_port (s : State) (g : List Line) (o : Option Nat) (seed p : Nat) : (rowSeg s g o seed p).port = p := by
  simp only [rowSeg]
  split <;> rfl

/-- Putting segments into the ring leaves the registers and the lines held. -/
theorem foldl_putSeg_keeps (l : Line) (gs : List RowSeg) (s : State) :
    (gs.foldl (putSeg l) s).regs = s.regs ∧ (gs.foldl (putSeg l) s).fe.lines = s.fe.lines := by
  have h := foldl_invariant (fun s : State => (s.regs, s.fe.lines)) (putSeg l) (fun s g => by simp only [putSeg_regs, putSeg_fe]) gs s
  exact ⟨congrArg (·.1) h, congrArg (·.2) h⟩

/-! ### What follows a written row leaves of the raster ring (R90 to R92, R219, R236) -/

/-- The lines held, the row counts, the stamps, and the registers from those of the strip ports up. -/
def rasterView (s : State) : List Line × Tab Nat × Tab (Nat × Nat) × (Nat → Word) :=
  (s.fe.lines, s.fe.row, s.fe.stamps, regsFrom 0x100000 s)

theorem rasterView_flag (s : State) (o b : Nat) (h : o + 8 < 0x100000) : rasterView (flag s o b) = rasterView s := by
  simp only [rasterView, regsFrom_flag _ o b s h]
  rfl

theorem rasterView_bump (s : State) (o n : Nat) (h : o < 0x100000) : rasterView (bump s o n) = rasterView s := by
  simp only [rasterView, regsFrom_bump _ o n s h]
  rfl

@[simp] theorem rasterView_closeWin (s : State) (w : PatchWin) : rasterView (closeWin s w) = rasterView s := by
  simp only [closeWin]
  (repeat' split) <;> rfl

@[simp] theorem rasterView_closeWins (s : State) : rasterView (closeWins s) = rasterView s :=
  foldl_invariant rasterView closeWin rasterView_closeWin _ _

@[simp] theorem rasterView_stripeAcc (s : State) (l : Line) (gs : List RowSeg) : rasterView (stripeAcc s l gs) = rasterView s := by
  simp only [stripeAcc]
  split <;> rfl

@[simp] theorem rasterView_queueField (n : Nat) (o : Obj) (s : State) (i : Nat) : rasterView (queueField n o s i) = rasterView s := by
  unfold queueField
  extract_lets due
  split
  · split
    · exact rasterView_flag s 0xA0004 2 (by decide)
    · rfl
  · rfl

@[simp] theorem rasterView_queueCaptured (s : State) : rasterView (queueCaptured s) = rasterView s :=
  foldl_invariant rasterView queueLane (fun _ n => foldl_invariant rasterView (queueObj n) (fun _ o =>
    foldl_invariant rasterView (queueField n o) (rasterView_queueField n o) _ _) _ _) _ _

theorem rasterView_noteExh (s : State) (c : Nat) (h : c < 0x1000) : rasterView (noteExh s c) = rasterView s := by
  simp only [noteExh]
  split
  · exact rasterView_flag s _ _ (by decide)
  · rw [rasterView_bump _ _ _ (by unfold clsOff; omega)]
    exact rasterView_flag s _ _ (by decide)

theorem rasterView_chargeDram (s : State) (c bytes : Nat) (h : c < 0x1000) : rasterView (chargeDram s c bytes) = rasterView s := by
  simp only [chargeDram]
  split
  · rfl
  · split
    · exact rasterView_noteExh _ c h
    · rfl

@[simp] theorem rasterView_captureOne (k : Nat) (s : State) (d : Nat × Obj) : rasterView (captureOne k s d) = rasterView s := by
  unfold captureOne
  split
  · rfl
  · simp only
    split
    · rfl
    · split
      · exact rasterView_chargeDram _ 2 _ (by decide)
      · rfl

@[simp] theorem rasterView_captureDue (s : State) : rasterView (captureDue s) = rasterView s := by
  refine foldl_invariant rasterView captureSlot (fun s k => ?_) _ _
  unfold captureSlot
  split
  · rfl
  · split
    · exact foldl_invariant rasterView (captureOne k) (rasterView_captureOne k) _ _
    · rfl

/-! ### A raster row (R88 to R90, R313) -/

/-- The segments of the row that the group's lines make. -/
def rowSegs (s : State) (g : List Line) (o : Option (Nat × Nat)) : List RowSeg :=
  (groupPorts g).mapIdx (fun k p => rowSeg (overflowed s o) g (o.map (·.1)) ((overflowed s o).free + k * 65536 * 5) p)

/-- The state in which the segments are put into the ring: the overflow is counted, the group's lines are no longer held. -/
def rowBegun (s : State) (g : List Line) (o : Option (Nat × Nat)) : State :=
  setFe { overflowed s o with free := (overflowed s o).free + 8 * 65536 * 5 }
    { (overflowed s o).fe with lines := (overflowed s o).fe.lines.filter (fun x => !g.contains x) }

theorem rowBegun_of_ringView (s u : State) (g : List Line) (o : Option (Nat × Nat)) (h : ringView u = ringView s) :
    (rowBegun u g o).fe.lines = s.fe.lines.filter (fun x => !g.contains x) ∧
      rasterLines (rowBegun u g o) = rasterLines s ∧ ∀ p, portRow p (rowBegun u g o) = portRow p s := by
  obtain ⟨hfe, hl⟩ := Prod.mk.inj ((ringView_overflowed u o).trans h)
  have hb : (rowBegun u g o).fe = { s.fe with lines := s.fe.lines.filter (fun x => !g.contains x) } := by
    simp only [rowBegun, setFe, hfe]
  exact ⟨by rw [hb], hl, fun p => by rw [portRow, hb, portRow]⟩

/-- The row written: the segments in the ring, put there one after another. -/
def rowPut (s : State) (l : Line) (g : List Line) (o : Option (Nat × Nat)) : State :=
  (rowSegs s (l :: g) o).foldl (putSeg l) (rowBegun s (l :: g) o)

theorem rasterView_rasterRow (s : State) (l : Line) (g : List Line) (ovf : Option (Nat × Nat)) :
    rasterView (rasterRow s (l :: g) ovf) = rasterView (rowPut s l g (rowOverflow ovf (groupPorts (l :: g)))) := by
  simp only [rasterRow, rasterView_stripeAcc, rasterView_closeWins]
  rfl

/-- The group's ports are the first line's, where every line has them all. -/
theorem groupPorts_of_ok (l : Line) (g : List Line)
    (h : ∀ x ∈ l :: g, ∀ p ∈ portsOf l, (segOf x p).map (·.st) = some .ok) : groupPorts (l :: g) = portsOf l := by
  refine List.filter_eq_self.mpr (fun p hp => List.all_eq_true.mpr (fun x hx => ?_))
  obtain ⟨y, hy, -⟩ := Option.map_eq_some_iff.mp (h x hx p hp)
  rw [hy]
  rfl

theorem map_port_rowSegs (s : State) (g : List Line) (o : Option (Nat × Nat)) : (rowSegs s g o).map (·.port) = groupPorts g := by
  refine List.ext_getElem (by simp [rowSegs]) (fun i _ _ => ?_)
  simp [rowSegs, rowSeg_port]

/-- Where every line of the group is good on every port, each port has a segment: written, and valid but for the overflow. -/
theorem rowSegs_of_ok (s : State) (l : Line) (g : List Line) (o : Option (Nat × Nat))
    (h : ∀ x ∈ l :: g, ∀ p ∈ portsOf l, (segOf x p).map (·.st) = some .ok) (y : RowSeg) (hy : y ∈ rowSegs s (l :: g) o) :
    y.port ∈ portsOf l ∧ y.write = true ∧ y.valid = decide (o.map (·.1) ≠ some y.port) := by
  rw [rowSegs, groupPorts_of_ok l g h] at hy
  obtain ⟨i, hi, rfl⟩ := List.mem_mapIdx.mp hy
  rw [rowSeg_port]
  exact ⟨List.getElem_mem hi, rowSeg_of_ok _ _ _ _ _ (fun x hx => h x hx _ (List.getElem_mem hi))⟩

/-- Every port of a good group has its row counted and stamped, as an invalid row where it overflows. -/
theorem portRow_rowPut (s : State) (l : Line) (g : List Line) (o : Option (Nat × Nat)) (hn : (portsOf l).Nodup)
    (h8 : ∀ p ∈ portsOf l, p < 8) (h : ∀ x ∈ l :: g, ∀ p ∈ portsOf l, (segOf x p).map (·.st) = some .ok)
    (hr : rasterLines (rowBegun s (l :: g) o) ≠ 0) (p : Nat) (hp : p ∈ portsOf l) :
    (portRow p (rowPut s l g o)).1 = (portRow p (rowBegun s (l :: g) o)).1 + 1 ∧
      (portRow p (rowPut s l g o)).2 ((portRow p (rowBegun s (l :: g) o)).1 % rasterLines (rowBegun s (l :: g) o)) =
        if o.map (·.1) = some p then (noStamp, noStamp) else (l.wt, l.dt) := by
  have hports : (rowSegs s (l :: g) o).map (·.port) = portsOf l := (map_port_rowSegs ..).trans (groupPorts_of_ok l g h)
  have hseg := rowSegs_of_ok s l g o h
  obtain ⟨y, hy, rfl⟩ := List.mem_map.mp (hports ▸ hp)
  obtain ⟨hcount, hstamp⟩ := portRow_foldl_putSeg l _ _ hr (hports ▸ hn)
    (fun x hx => ⟨h8 _ (hseg x hx).1, (hseg x hx).2.1⟩) y hy
  refine ⟨hcount, hstamp.trans ?_⟩
  obtain ⟨-, -, hvalid⟩ := hseg y hy
  rw [stampOf, hvalid]
  by_cases ho : o.map (·.1) = some y.port <;> simp [ho]

theorem bit_rowPut (s : State) (l : Line) (g : List Line) (x : Nat × Nat) :
    bit (rg (rowPut s l g (some x)) (0x180004 + x.2 * 0x10000)) 6 = true := by
  rw [rg, rget, rowPut, (foldl_putSeg_keeps ..).1]
  exact bit_overflow s x

theorem portRow_of_rasterView (s t : State) (h : rasterView t = rasterView s) (p : Nat) : portRow p t = portRow p s :=
  congrArg (fun v => (tget 0 v.2.1 p, fun slot => tget (0, 0) v.2.2.1 (slot * 8 + p))) h

theorem exec_rasterRowWrite (l : Line) (g : List Line) (ovf : Option (Nat × Nat)) (fills : List (Nat × Nat × Nat)) (s : State)
    (h : Pre.rasterRow l g s) : exec (.rasterRowWrite ovf fills) s =
      .next (captureDue (queueCaptured (rasterRow (fills.foldl setFill s) (l :: g) ovf))) := by
  obtain ⟨hr, hg, -⟩ := h
  show execRasterRowWrite ovf fills s = _
  simp only [execRasterRowWrite, hr, hg, if_true]

theorem rasterRow_written (l : Line) (g : List Line) (ovf : Option (Nat × Nat)) (fills : List (Nat × Nat × Nat)) (s : State)
    (h : Pre.rasterRow l g s) : Gives (.rasterRowWrite ovf fills) s (fun t =>
      t.fe.lines = s.fe.lines.filter (fun x => !(l :: g).contains x) ∧
      (∀ p ∈ portsOf l, tget 0 t.fe.row p = tget 0 s.fe.row p + 1 ∧
        tget (0, 0) t.fe.stamps (tget 0 s.fe.row p % rasterLines s * 8 + p) =
          if (rowOverflow ovf (portsOf l)).map (·.1) = some p then (noStamp, noStamp) else (l.wt, l.dt)) ∧
      (∀ x, rowOverflow ovf (portsOf l) = some x → bit (rg t (0x180004 + x.2 * 0x10000)) 6 = true)) := by
  refine ⟨_, exec_rasterRowWrite l g ovf fills s h, ?_⟩
  obtain ⟨-, -, hnodup, h8, hlen, hok⟩ := h
  have h8 : ∀ p ∈ portsOf l, p < 8 := fun p hp => of_decide_eq_true (List.all_eq_true.mp h8 p hp)
  have hok : ∀ x ∈ l :: g, ∀ p ∈ portsOf l, (segOf x p).map (·.st) = some .ok := fun x hx p hp =>
    of_decide_eq_true (List.all_eq_true.mp (List.all_eq_true.mp hok x hx) p hp)
  -- the fills come before the row, on `u`; what comes after it, up to `t`, leaves the raster ring and the channels' registers
  have hu : ringView (fills.foldl setFill s) = ringView s := foldl_invariant ringView setFill ringView_setFill _ _
  generalize fills.foldl setFill s = u at hu ⊢
  have ht := (rasterView_captureDue _).trans ((rasterView_queueCaptured _).trans (rasterView_rasterRow u l g ovf))
  rw [groupPorts_of_ok l g hok] at ht
  generalize captureDue _ = t at ht ⊢
  generalize rowOverflow ovf (portsOf l) = o at ht ⊢
  obtain ⟨hheld, hrl, hrow⟩ := rowBegun_of_ringView s u (l :: g) o hu
  refine ⟨?_, fun p hp => ?_, fun x hx => ?_⟩
  · calc t.fe.lines = (rowPut u l g o).fe.lines := congrArg (·.1) ht
      _ = (rowBegun u (l :: g) o).fe.lines := (foldl_putSeg_keeps ..).2
      _ = _ := hheld
  · have hput := portRow_rowPut u l g o hnodup h8 hok (hrl ▸ hlen) p hp
    rwa [← portRow_of_rasterView _ t ht, hrow, hrl] at hput
  · subst hx
    rw [rg_of_regsFrom 0x100000 _ _ t (congrArg (·.2.2.2) ht) (by omega)]
    exact bit_rowPut u l g x

/-- Settles O17: the row's segments are put into the ring port by port, a stripe row and a release leave the rest of their buffer, and
EN starts and stops one. -/
theorem rows : Obligations.Rows :=
  ⟨rasterRow_written, stripeRow_written, stripeRelease_counts, stripeEnable_starts,
    stripeDisable_stops⟩

end Sys2Proof.Machine

namespace Sys2Proof.Machine

/-! ## The Developer unit (chapter 5)

### What the Developer unit rests on, and what leaves it alone -/

/-- What the Developer unit rests on: the stream slots, the jobs, the wide counters, DEV_ERR. -/
def devView (s : State) : Tab Stream × Tab Job × Tab Nat × Nat := (s.streams, s.jobs, s.ctr, rg s devSt)

/-- An update of other parts of the state. -/
@[simp] theorem devView_update (s : State) (pending free latch busData busPoison mem poison pins boot fuse flash board sl pwr dbg sal
    tmu sht lanes ctxs marks cores hst kv ring cap fe code hot adapts mc flt) :
    devView ⟨pending, free, s.regs, latch, s.ctr, busData, busPoison, mem, poison, pins, boot, fuse, flash, board, sl, pwr, dbg,
      sal, tmu, sht, lanes, s.jobs, ctxs, marks, cores, hst, kv, ring, cap, fe, code, s.streams, hot, adapts, mc, flt⟩ = devView s := rfl

@[simp] theorem devView_ite (c : Prop) [Decidable c] (a b : State) :
    devView (if c then a else b) = if c then devView a else devView b := apply_ite devView c a b

@[simp] theorem devView_foldl {α : Type} (f : State → α → State) (h : ∀ s x, devView (f s x) = devView s) (l : List α) (s : State) :
    devView (l.foldl f s) = devView s := foldl_invariant devView f h l s

/-- Registers below the unit's. -/
@[simp] theorem devView_bump (s : State) (o n : Nat) (h : o < 0xB0004) : devView (bump s o n) = devView s := by
  simp only [devView, rg, rget_bump_ne s o devSt n (Nat.ne_of_lt h)]
  rfl

@[simp] theorem devView_flag (s : State) (o b : Nat) (h : o + 8 < 0xB0004) : devView (flag s o b) = devView s := by
  obtain ⟨-, hc⟩ := cntOf_bounds o
  simp only [devView, rg, rget_flag_ne s o b devSt (by unfold devSt; omega) (by unfold devSt; omega)]
  rfl

@[simp] theorem devView_wrBytes (s : State) (a : Nat) (bs : List Byte) : devView (wrBytes s a bs) = devView s := rfl
@[simp] theorem devView_setLane (s : State) (n : Nat) (l : Lane) : devView (setLane s n l) = devView s := rfl
@[simp] theorem devView_setEnt (s : State) (n : Nat) (e : Entry) : devView (setEnt s n e) = devView s := rfl
@[simp] theorem devView_setSq (s : State) (n : Nat) (r : Option SubRing) : devView (setSq s n r) = devView s := rfl
@[simp] theorem devView_setCq (s : State) (n : Nat) (r : Option CompRing) : devView (setCq s n r) = devView s := rfl
@[simp] theorem devView_setRq (s : State) (n : Nat) (r : Option RepRing) : devView (setRq s n r) = devView s := rfl

/-! ### Reports (R290 to R297) -/

@[simp] theorem devView_raiseVec (s : State) (v : Option Nat) : devView (raiseVec s v) = devView s := by
  cases v <;> rfl

@[simp] theorem devView_writeRec (s : State) (n : Nat) (x : Rec) (b : Bool) : devView (writeRec s n x b) = devView s := by
  unfold writeRec
  split <;> simp

@[simp] theorem devView_bedPauseAuto (s : State) : devView (bedPauseAuto s) = devView s := by simp [bedPauseAuto]

@[simp] theorem devView_dropGroup (s : State) (n : Nat) (r : RepRing) (xs : List Rec) (v : Option VerdictInfo) :
    devView (dropGroup s n r xs v) = devView s := by simp [dropGroup]

@[simp] theorem devView_spillGroup (s : State) (n : Nat) (r : RepRing) (xs : List Rec) (v : Option VerdictInfo) :
    devView (spillGroup s n r xs v) = devView s := by simp [spillGroup]

@[simp] theorem devView_reportGroup (s : State) (xs : List Rec) (v : Option VerdictInfo) :
    devView (reportGroup s xs v) = devView s := by
  unfold reportGroup
  simp only
  (repeat' split) <;> simp [writeRecs]

@[simp] theorem devView_report (s : State) (typ : Nat) (ln : Option Nat) (src ref : Nat) (payload : List Byte) :
    devView (report s typ ln src ref payload) = devView s := devView_reportGroup ..

@[simp] theorem devView_auxReport (s : State) (typ k : Nat) (u : AccUnit) (reason : Nat) :
    devView (auxReport s typ k u reason) = devView s := devView_report ..

/-! ### Marks and replies (R258, R279 to R282) -/

@[simp] theorem devView_addMark (s : State) (m add : Nat) : devView (addMark s m add) = devView s := by
  simp [addMark, wakeOn]

@[simp] theorem devView_signalExt (s : State) (m add : Nat) : devView (signalExt s m add) = devView s := by
  simp [signalExt]

@[simp] theorem devView_doReply (s : State) (n : Nat) (r : CompRing) (p : Reply) : devView (doReply s n r p) = devView s := by
  simp [doReply]

@[simp] theorem devView_postReply (s : State) (n : Nat) (p : Reply) : devView (postReply s n p) = devView s := by
  unfold postReply
  split <;> simp

@[simp] theorem devView_complete (s : State) (f : Flight) (a b r : Nat) : devView (complete s f a b r) = devView s := by
  unfold complete
  (repeat' split) <;> simp

@[simp] theorem devView_finishDeletes (s : State) (fs : List Flight) : devView (finishDeletes s fs) = devView s := by
  induction fs generalizing s with
  | nil => rfl
  | cons f fs ih =>
    unfold finishDeletes
    (repeat' split) <;> simp [ih]

@[simp] theorem devView_completeAwait (s : State) (a : Await) (st d r : Nat) : devView (completeAwait s a st d r) = devView s := by
  simp [completeAwait, completeWhere]

/-! ### Faults (R329, R334 to R336) -/

@[simp] theorem devView_releaseEntry (s : State) (k : Nat) : devView (releaseEntry s k) = devView s := by
  unfold releaseEntry
  split <;> simp

@[simp] theorem devView_freeLine (s : State) (n typ : Nat) : devView (freeLine s n typ) = devView s := by simp [freeLine]

@[simp] theorem devView_syncSpan (s : State) (n : Nat) : devView (syncSpan s n) = devView s := by
  simp only [syncSpan, armHw]
  (repeat' split) <;> simp

@[simp] theorem devView_closeGap (s : State) (n stop : Nat) : devView (closeGap s n stop) = devView s := by
  simp only [closeGap]
  split <;> simp

@[simp] theorem devView_putLaneState (s : State) (n : Nat) (st : LaneSt) (cause : Nat) :
    devView (putLaneState s n st cause) = devView s := by simp [putLaneState]

@[simp] theorem devView_writeRecord (s : State) (h : Hit) : devView (writeRecord s h) = devView s := by simp [writeRecord]

@[simp] theorem devView_laneOos (s : State) (n cause : Nat) (hold : Bool) : devView (laneOos s n cause hold) = devView s := by
  simp [laneOos]

@[simp] theorem devView_laneEscalate (s : State) (n : Nat) : devView (laneEscalate s n) = devView s := by
  simp [laneEscalate]

@[simp] theorem devView_deviceOos (s : State) (h : Hit) : devView (deviceOos s h) = devView s := by
  simp [deviceOos, oosLane]

@[simp] theorem devView_escalate (s : State) (ls : List Nat) (dev : Bool) : devView (escalate s ls dev) = devView s := by
  simp [escalate]

@[simp] theorem devView_countLane (s : State) (n : Nat) : devView (countLane s n) = devView s := by
  simp [countLane]

@[simp] theorem devView_countEvent (s : State) (ls : List Nat) (dev : Bool) : devView (countEvent s ls dev).1 = devView s := by
  simp [countEvent, countDev]

@[simp] theorem devView_eventFault (s : State) (h : Hit) (ls : List Nat) (dev : Bool) : devView (eventFault s h ls dev) = devView s := by
  simp [eventFault]

@[simp] theorem devView_tileStale (s : State) (w : Option (Nat × Nat)) : devView (tileStale s w) = devView s := by
  cases w <;> simp [tileStale, giveCmp]

end Sys2Proof.Machine

namespace Sys2Proof.Machine

/-! ### Stream slots -/

theorem stream_setStream (s : State) (k j : Nat) (x : Stream) : stream (setStream s k x) j = if k = j then x else stream s j := tget_tset ..

@[simp] theorem stream_setStream_self (s : State) (k : Nat) (x : Stream) : stream (setStream s k x) k = x := by simp [stream_setStream]

theorem stream_of_devView {s t : State} (h : devView t = devView s) (k : Nat) : stream t k = stream s k := by
  rw [stream, show t.streams = s.streams from congrArg (·.1) h, stream]

theorem job_of_devView {s t : State} (h : devView t = devView s) (k : Nat) : job t k = job s k := by
  rw [job, show t.jobs = s.jobs from congrArg (·.2.1) h, job]

theorem cget_of_devView {s t : State} (h : devView t = devView s) (o : Nat) : cget t o = cget s o := by
  rw [cget, show t.ctr = s.ctr from congrArg (·.2.2.1) h, cget]

theorem devSt_of_devView {s t : State} (h : devView t = devView s) : rg t devSt = rg s devSt := congrArg (·.2.2.2) h

@[simp] theorem stream_report (s : State) (typ : Nat) (ln : Option Nat) (src ref : Nat) (payload : List Byte) (k : Nat) :
    stream (report s typ ln src ref payload) k = stream s k := stream_of_devView (by simp) k

@[simp] theorem stream_auxReport (s : State) (typ j : Nat) (u : AccUnit) (reason k : Nat) :
    stream (auxReport s typ j u reason) k = stream s k := stream_of_devView (by simp) k

@[simp] theorem stream_flag (s : State) (o b k : Nat) : stream (flag s o b) k = stream s k := rfl

@[simp] theorem stream_chargeDram (s : State) (c bytes k : Nat) : stream (chargeDram s c bytes) k = stream s k := by
  have h := congrArg (fun t => stream t k) (chargeDram_rest s c bytes)
  exact h

@[simp] theorem stream_auxSkip (reason : Nat) (s : State) (k : Nat) (u : AccUnit) :
    stream (auxSkip reason s k u) k = { stream s k with skipped := satAdd sat32 (stream s k).skipped 1 } := by simp [auxSkip]

/-- What feeding the pipes leaves besides the registers: the jobs, the wide counters, the marks. -/
def restView (s : State) : Tab Job × Tab Nat × Marks := (s.jobs, s.ctr, s.marks)

@[simp] theorem restView_setStream (s : State) (k : Nat) (x : Stream) : restView (setStream s k x) = restView s := rfl

/-! ### Pipes take pictures (R97, R105) -/

theorem startPic_cases (s : State) (p : Nat) : startPic s p = s ∨ ∃ k u t, canStart s (stream s k) = true ∧
    (stream s k).input = u :: t ∧ startPic s p = setStream s k { stream s k with cur := some (u, p), input := t } := by
  unfold startPic
  split
  · exact .inl rfl
  · split
    · exact .inl rfl
    · rename_i k hk
      simp only
      split
      · exact .inl rfl
      · rename_i u t ht
        exact .inr ⟨k, u, t, by simpa using List.find?_some hk, ht, rfl⟩

/-- Slot `y` is slot `x`, or `x` with the first unit of its input in a pipe. -/
def Started (x y : Stream) : Prop :=
  y = x ∨ ∃ u t p, x.st = .opened ∧ x.cur = none ∧ x.input = u :: t ∧ y = { x with cur := some (u, p), input := t }

theorem canStart_slot (s : State) (x : Stream) (h : canStart s x = true) : x.st = .opened ∧ x.cur = none := by
  simp only [canStart, Bool.and_eq_true, decide_eq_true_eq] at h
  obtain ⟨⟨⟨⟨hst, hcur⟩, -⟩, -⟩, -⟩ := h
  exact ⟨hst, hcur⟩

theorem startPic_slot (s : State) (p k : Nat) : Started (stream s k) (stream (startPic s p) k) := by
  obtain h | ⟨j, u, t, hc, hi, h⟩ := startPic_cases s p
  · rw [h]
    exact .inl rfl
  · rw [h, stream_setStream]
    split
    · subst j
      obtain ⟨hst, hcur⟩ := canStart_slot s _ hc
      exact .inr ⟨u, t, p, hst, hcur, hi, rfl⟩
    · exact .inl rfl

/-- A slot whose picture is in a pipe gives no other: of the two pipes one at most takes a slot's picture. -/
theorem startPics_slot (s : State) (k : Nat) : Started (stream s k) (stream (startPics s) k) := by
  have h0 := startPic_slot s 0 k
  obtain h1 | ⟨u, t, p, hst, hcur, hi, h1⟩ := startPic_slot (startPic s 0) 1 k
  · rwa [startPics, h1]
  · obtain h0 | ⟨_, _, _, _, _, _, h0⟩ := h0
    · rw [h0] at hst hcur hi h1
      exact .inr ⟨u, t, p, hst, hcur, hi, h1⟩
    · rw [h0] at hcur
      cases hcur

theorem startPic_rest (s : State) (p : Nat) : restView (startPic s p) = restView s ∧ (startPic s p).regs = s.regs := by
  obtain h | ⟨_, _, _, _, _, h⟩ := startPic_cases s p <;> rw [h] <;> exact ⟨rfl, rfl⟩

@[simp] theorem restView_startPics (s : State) : restView (startPics s) = restView s := by
  rw [startPics, (startPic_rest _ 1).1, (startPic_rest s 0).1]

@[simp] theorem regs_startPics (s : State) : (startPics s).regs = s.regs := by
  rw [startPics, (startPic_rest _ 1).2, (startPic_rest s 0).2]

/-- What the pipes leave of a slot. -/
theorem startPics_keeps (s : State) (k : Nat) : (stream (startPics s) k).st = (stream s k).st ∧
    (stream (startPics s) k).queue = (stream s k).queue ∧ (stream (startPics s) k).made = (stream s k).made ∧
    (stream (startPics s) k).late = (stream s k).late ∧ (stream (startPics s) k).skipped = (stream s k).skipped := by
  obtain h | ⟨_, _, _, _, _, _, h⟩ := startPics_slot s k <;> rw [h] <;> exact ⟨rfl, rfl, rfl, rfl, rfl⟩

/-- A unit that waits still waits, or is in a pipe. -/
theorem startPics_holds (s : State) (k : Nat) (u : AccUnit) (h : u ∈ (stream s k).input) :
    u ∈ (stream (startPics s) k).input ∨ ∃ p, (stream (startPics s) k).cur = some (u, p) := by
  obtain hs | ⟨v, t, p, _, _, hi, hs⟩ := startPics_slot s k <;> rw [hs]
  · exact .inl h
  · obtain rfl | ht := List.mem_cons.mp (hi ▸ h)
    · exact .inr ⟨p, rfl⟩
    · exact .inl ht

/-! ### A unit reaches its slot (R109) -/

theorem takeUnit_takes (s : State) (k : Nat) (u : AccUnit) (h : takes (stream s k) u.au) :
    (stream (takeUnit k s u) k).st = .opened ∧ u ∈ (stream (takeUnit k s u) k).input := by
  unfold takeUnit
  obtain ⟨hst, hr⟩ | ⟨hst, hi⟩ := h
  · have hr : ¬ ((stream s k).raslSkip = true ∧ u.au.rasl = true) := by simpa using hr
    simp [hst, hr]
  · simp [hst, hi]

theorem takeUnit_discards (s : State) (k : Nat) (u : AccUnit) (hst : (stream s k).st = .opened ∨ (stream s k).st = .skip)
    (h : ¬ takes (stream s k) u.au) : takeUnit k s u = auxSkip 3 s k u := by
  unfold takeUnit
  obtain hst | hst := hst
  · have hr : (stream s k).raslSkip = true ∧ u.au.rasl = true := by simpa [takes, hst] using h
    simp [hst, hr]
  · have hi : u.au.irap = false := by simpa [takes, hst] using h
    simp [hst, hi]

/-! ### Commands of the stream slots (R98, R99, R104) -/

/-- A command that takes effect and whose parameters are all in range has its effect where it begins. -/
theorem accept_given (s : State) (c : Cmd) (op : Nat) (chk : List (Bool × Nat)) (body : State → Flight → State)
    (h : Given c s) (hk : badByte chk none = none) : accept s c op chk body = body (began c s) (flightOf c s) := by
  obtain h | h := h
  · rw [accept_taken s c op chk body h hk, began, if_neg (by simp [h.1])]
  · rw [accept_internal s c op chk body h, began, if_pos h.1]

theorem began_rest (c : Cmd) (s : State) : { began c s with sal := s.sal } = s := by
  unfold began
  split
  · rfl
  · exact advanceHead_rest s c.sq

theorem stream_began (c : Cmd) (s : State) (k : Nat) : stream (began c s) k = stream s k := by
  have h := congrArg (fun t => stream t k) (began_rest c s)
  exact h

theorem freeStream_began (c : Cmd) (s : State) : freeStream (began c s) = freeStream s := by
  simp only [freeStream, stream_began]

theorem rangeOk_began (c : Cmd) (s : State) (a n : Nat) : rangeOk (began c s) a n = rangeOk s a n := by
  have h := congrArg (fun t => rangeOk t a n) (began_rest c s)
  exact h

theorem poisonIn_began (c : Cmd) (s : State) (a n : Nat) : poisonIn (began c s) a n = poisonIn s a n := by
  have h := congrArg (fun t => poisonIn t a n) (began_rest c s)
  exact h

theorem exec_streamOpen (c : Cmd) (q age w h mark codec depth low cls k : Nat) (s : State)
    (hp : Pre.streamOpen c q age w h mark codec depth low cls k s) : exec (.streamOpen c q age w h mark codec depth low cls) s =
      done c s (setStream (began c s) k
        { st := .opened, jpeg := decide (codec = 1), qaddr := q, ageMax := age, maxW := w, maxH := h, mark := mark,
          depth := depth, low := low, cls := cls }) k := by
  obtain ⟨hg, ha, ha', hw, hw', hh, hh', hm, hc, hd, hd', hl, hcls, harea, hr, hk⟩ := hp
  have harea : (!decide (codec = 1) && decide (35651584 < w * h)) = false := by
    obtain rfl | harea := harea
    · rfl
    · simp [harea]
  show execStreamOpen c q age w h mark codec depth low cls s = _
  rw [execStreamOpen, accept_given s c _ _ _ hg (by simp [badByte, ha, ha', hw, hw', hh, hh', hm, hc, hd, hd', hl, hcls])]
  simp only [bufBytes, planeY, planeC] at hr
  simp only [streamOpen, harea, rangeOk_began, bufBytes, planeY, planeC, hr, freeStream_began, hk]
  rfl

/-- A unit that the slot may be fed reaches it, after a report where its stamp lies ahead of device time. -/
theorem exec_streamFeed (c : Cmd) (src k : Nat) (u : AccUnit) (s : State) (h : Pre.streamFeed c src k u s)
    (hst : (stream s k).st = .opened ∨ (stream s k).st = .skip) : ∃ v, stream v k = stream s k ∧
      exec (.streamFeed c src u.capDt u.wtDl u.len u.fid k u.au) s = done c s (startPics (takeUnit k v u)) 0 := by
  obtain ⟨hg, hk, hr, hh, hp, hs, hw, hh', hheld⟩ := h
  have hk : k < 32 := by omega
  have hw : ¬ ((stream s k).maxW < u.au.hdr.w ∨ (stream s k).maxH < u.au.hdr.h) := by omega
  have hst : (decide ((stream s k).st = .opened) || decide ((stream s k).st = .skip)) = true := by simpa using hst
  refine ⟨if dt (began c s) + 10000000 < u.capDt then auxReport (began c s) 0x0507 k u 4 else began c s, ?_, ?_⟩
  · split <;> simp [stream_began]
  · show execStreamFeed c src u.capDt u.wtDl u.len u.fid k u.au s = _
    rw [execStreamFeed, accept_given s c _ _ _ hg (by simp [badByte, hk])]
    simp only [streamFeed, rangeOk_began, hr, stream_began, poisonIn_began, hp, hs, hheld, hst]
    simp [hostFail, flightOf, hh, hw]

theorem streamFeed_takes (c : Cmd) (src k : Nat) (u : AccUnit) (s : State) (h : Pre.streamFeed c src k u s)
    (ht : takes (stream s k) u.au) : Does (.streamFeed c src u.capDt u.wtDl u.len u.fid k u.au) c s 0 (fun t =>
      (stream t k).st = .opened ∧ (u ∈ (stream t k).input ∨ ∃ p, (stream t k).cur = some (u, p))) := by
  obtain ⟨v, hv, he⟩ := exec_streamFeed c src k u s h (ht.imp (·.1) (·.1))
  obtain ⟨hst, hin⟩ := takeUnit_takes v k u (hv ▸ ht)
  exact ⟨_, he, (startPics_keeps _ k).1.trans hst, startPics_holds _ k u hin⟩

theorem streamFeed_discards (c : Cmd) (src k : Nat) (u : AccUnit) (s : State) (h : Pre.streamFeed c src k u s)
    (hst : (stream s k).st = .opened ∨ (stream s k).st = .skip) (ht : ¬ takes (stream s k) u.au) :
    Does (.streamFeed c src u.capDt u.wtDl u.len u.fid k u.au) c s 0 (fun t => (stream t k).st = (stream s k).st ∧
      (stream t k).skipped = satAdd sat32 (stream s k).skipped 1) := by
  obtain ⟨v, hv, he⟩ := exec_streamFeed c src k u s h hst
  obtain ⟨hstart, -, -, -, hskip⟩ := startPics_keeps (takeUnit k v u) k
  refine ⟨_, he, hstart.trans ?_, hskip.trans ?_⟩ <;> rw [takeUnit_discards v k u (hv ▸ hst) (hv ▸ ht), stream_auxSkip, hv]

@[simp] theorem stream_lowWater (s : State) (j k : Nat) : stream (lowWater s j) k = stream s k := by
  simp only [lowWater]
  split <;> simp

/-- The oldest frame of a slot that closes is discarded (R99). -/
def dropFrame (k : Nat) (s : State) (_ : AccUnit) : State :=
  lowWater (setStream s k { stream s k with queue := (stream s k).queue.drop 1 }) k

theorem stream_foldl_dropFrame (k : Nat) (l : List AccUnit) (s : State) :
    stream (l.foldl (dropFrame k) s) k = { stream s k with queue := (stream s k).queue.drop l.length } := by
  induction l generalizing s with
  | nil => rfl
  | cons u l ih => simp [ih, dropFrame]

theorem streamClose_waits (c : Cmd) (k : Nat) (s : State) (h : Pre.streamClose c k s) :
    Waits (.streamClose c k) c s (.streamClose k) (fun t =>
      (stream t k).st = .closing ∧ (stream t k).queue = [] ∧ (stream t k).input = []) := by
  obtain ⟨hg, hk, hst, hheld⟩ := h
  have hst : (decide ((stream s k).st = .opened) || decide ((stream s k).st = .skip)) = true := by simpa using hst
  have he : exec (.streamClose c k) s = awaits c s ((stream s k).input.foldl (fun s u => auxSkip 2 s k u)
      ((stream s k).queue.foldl (dropFrame k) (setStream (began c s) k { stream s k with st := .closing, input := [] })))
      (.streamClose k) [] := by
    show execStreamClose c k s = _
    rw [execStreamClose, accept_given s c _ _ _ hg (by simp [badByte, hk])]
    simp only [streamClose, stream_began, hheld, hst]
    rfl
  refine ⟨_, _, he, ?_⟩
  have hv := foldl_invariant (fun s => ((stream s k).st, (stream s k).queue, (stream s k).input)) (fun s u => auxSkip 2 s k u)
    (fun s u => by simp only [stream_auxSkip]) (stream s k).input ((stream s k).queue.foldl (dropFrame k)
      (setStream (began c s) k { stream s k with st := .closing, input := [] }))
  simpa only [stream_foldl_dropFrame, stream_setStream_self, List.drop_length, Prod.mk.injEq] using hv

theorem streamFlushDone_frees (k n : Nat) (s : State) (hr : isReady s = true) (hst : (stream s k).st = .closing) :
    Gives (.streamFlushDone k n) s (fun t => (stream t k).st = .free) := by
  have he : exec (.streamFlushDone k n) s = .next (flushDone s k n) := by
    show execStreamFlushDone k n s = _
    simp [execStreamFlushDone, hr, hst]
  refine ⟨_, he, ?_⟩
  simp only [flushDone]
  rw [(startPics_keeps _ k).1, stream_of_devView (devView_completeAwait ..), stream_setStream_self]

/-- Settles O47: a unit that a slot takes waits in it or is in one of the pipes, whichever slot they take a picture from. -/
theorem streams : Obligations.Streams :=
  ⟨exec_streamOpen, streamFeed_takes, streamFeed_discards, streamClose_waits, streamFlushDone_frees⟩

end Sys2Proof.Machine

namespace Sys2Proof.Machine

/-! ### Flags of DEV_ERR and the frames of a slot -/

theorem bit_flag_ne (s : State) (o b j : Nat) (hj : j < 32) (h : j ≠ b) : bit (rg (flag s o b) o) j = bit (rg s o) j := by
  rw [rg, flag, rget_bump_ne _ _ _ _ (cntOf_ne o), ← rg, bit_rg_rsetN _ _ _ _ hj, testBit_putBit, if_neg h, bit]

/-- What the host sees of slot `k`, with flag `j` of DEV_ERR: its queue, how many frames it made and how many were late. -/
def frameView (k j : Nat) (s : State) : List AccUnit × Nat × Nat × Bool :=
  ((stream s k).queue, (stream s k).made, (stream s k).late, bit (rg s devSt) j)

theorem frameView_of_devView {s t : State} (h : devView t = devView s) (k j : Nat) : frameView k j t = frameView k j s := by
  simp only [frameView, stream_of_devView h, devSt_of_devView h]

@[simp] theorem frameView_auxReport (s : State) (typ i : Nat) (u : AccUnit) (reason k j : Nat) :
    frameView k j (auxReport s typ i u reason) = frameView k j s := frameView_of_devView (by simp) k j

theorem frameView_setStream (s : State) (k j : Nat) (x : Stream) :
    frameView k j (setStream s k x) = (x.queue, x.made, x.late, bit (rg s devSt) j) := by
  rw [frameView, stream_setStream_self]
  rfl

theorem frameView_flag_self (s : State) (k j : Nat) (h : j < 32) :
    frameView k j (flag s devSt j) = ((stream s k).queue, (stream s k).made, (stream s k).late, true) := by
  rw [frameView, stream_flag, bit_flag s devSt j h]

theorem frameView_flag_ne (s : State) (k j b : Nat) (hj : j < 32) (h : j ≠ b) :
    frameView k j (flag s devSt b) = frameView k j s := by
  rw [frameView, stream_flag, bit_flag_ne s devSt b j hj h, frameView]

@[simp] theorem frameView_startPics (s : State) (k j : Nat) : frameView k j (startPics s) = frameView k j s := by
  obtain ⟨-, hq, hm, hl, -⟩ := startPics_keeps s k
  simp only [frameView, hq, hm, hl, rg, rget, regs_startPics]

section
variable (s : State) (k j : Nat) (hj : j < 32) (hskip : j ≠ 3)
include hj hskip

theorem frameView_auxSkip (reason : Nat) (u : AccUnit) : frameView k j (auxSkip reason s k u) = frameView k j s := by
  simp only [auxSkip, frameView_auxReport]
  rw [frameView_flag_ne _ k j 3 hj hskip, frameView_setStream, frameView]

theorem frameView_takeUnit (u : AccUnit) : frameView k j (takeUnit k s u) = frameView k j s := by
  simp only [takeUnit]
  split
  · split
    · exact frameView_setStream ..
    · exact frameView_auxSkip s k j hj hskip 3 u
  · split
    · exact frameView_auxSkip s k j hj hskip 3 u
    · exact frameView_setStream ..

/-- Entering SKIP empties the input, unit by unit, and leaves the frames. -/
theorem frameView_enterSkip : frameView k j (enterSkip s k) = frameView k j s := by
  simp only [enterSkip]
  split
  · rfl
  · rw [foldl_invariant (frameView k j) (takeUnit k) (fun s u => frameView_takeUnit s k j hj hskip u), frameView_setStream, frameView]

end

/-! ### A pipe ends a picture (R105, R107, R109) -/

theorem job_of_restView {s t : State} (h : restView t = restView s) (k : Nat) : job t k = job s k := by
  rw [job, show t.jobs = s.jobs from congrArg (·.1) h, job]

theorem cget_of_restView {s t : State} (h : restView t = restView s) (o : Nat) : cget t o = cget s o := by
  rw [cget, show t.ctr = s.ctr from congrArg (·.2.1) h, cget]

theorem mark_of_restView {s t : State} (h : restView t = restView s) (m : Nat) : mark t m = mark s m := by
  rw [mark, show t.marks = s.marks from congrArg (·.2.2) h, mark]

theorem restView_chargeDram (s : State) (c bytes : Nat) : restView (chargeDram s c bytes) = restView s := by
  have h := congrArg restView (chargeDram_rest s c bytes)
  exact h

theorem restView_putPlane (b base pitch : Nat) (rows : List (List Nat)) (s : State) :
    restView (putPlane b base pitch rows s) = restView s := by
  unfold putPlane
  refine foldl_invariant restView _ (fun _ _ => ?_) _ s
  rfl

theorem restView_putFrame (s : State) (x : Stream) (p : Picture) : restView (putFrame s x p) = restView s := by
  unfold putFrame
  extract_lets
  split
  · simp only [restView_putPlane]
  · rfl

theorem cget_countPix (s : State) (n : Nat) : cget (countPix s n) 0xB0018 = (cget s 0xB0018 + n) % 2 ^ 64 := tget_tset_self ..

/-- The state in which a queued frame's mark is signalled: its samples are counted and it has joined the slot's queue (R105). -/
def frameQueued (s : State) (k : Nat) (u : AccUnit) (p : Picture) : State :=
  setStream (countPix (putFrame s (stream s k) p) p.luma) k
    { stream s k with cur := none, queue := (stream s k).queue ++ [u], made := (stream s k).made + 1 }

theorem queueFrame_eq (s : State) (k : Nat) (u : AccUnit) (p : Picture) :
    queueFrame s k u p = startPics (signalExt (frameQueued s k u p) (stream s k).mark 1) := rfl

theorem cget_frameQueued (s : State) (k : Nat) (u : AccUnit) (p : Picture) :
    cget (frameQueued s k u p) 0xB0018 = (cget s 0xB0018 + p.luma) % 2 ^ 64 := by
  rw [← cget_of_restView (restView_putFrame s (stream s k) p)]
  exact cget_countPix ..

theorem mark_frameQueued (s : State) (k : Nat) (u : AccUnit) (p : Picture) (m : Nat) : mark (frameQueued s k u p) m = mark s m := by
  rw [← mark_of_restView (restView_putFrame s (stream s k) p)]
  rfl

/-- The frame joins the end of its slot's queue (R105). -/
theorem queueFrame_joins (s : State) (k : Nat) (u : AccUnit) (p : Picture) :
    (stream (queueFrame s k u p) k).queue = (stream s k).queue ++ [u] ∧ (stream (queueFrame s k u p) k).made = (stream s k).made + 1 ∧
    cget (queueFrame s k u p) 0xB0018 = (cget s 0xB0018 + p.luma) % 2 ^ 64 ∧
    mark (queueFrame s k u p) (stream s k).mark = min (mark s (stream s k).mark + 1) sat64 := by
  rw [queueFrame_eq]
  have hsig := devView_signalExt (frameQueued s k u p) (stream s k).mark 1
  have hslot : stream (frameQueued s k u p) k =
    { stream s k with cur := none, queue := (stream s k).queue ++ [u], made := (stream s k).made + 1 } := stream_setStream_self ..
  obtain ⟨-, hqueue, hmade, -, -⟩ := startPics_keeps (signalExt (frameQueued s k u p) (stream s k).mark 1) k
  have hrest := restView_startPics (signalExt (frameQueued s k u p) (stream s k).mark 1)
  refine ⟨?_, ?_, ?_, ?_⟩
  · rw [hqueue, stream_of_devView hsig, hslot]
  · rw [hmade, stream_of_devView hsig, hslot]
  · rw [cget_of_restView hrest, cget_of_devView hsig, cget_frameQueued]
  · rw [mark_of_restView hrest, mark_signalExt _ _ _ (by decide), mark_frameQueued, Nat.min_comm]

/-- A picture abandoned is counted late, and no frame of it (R107). -/
theorem frameView_abandonPic (s : State) (k : Nat) (u : AccUnit) (r : Nat) : frameView k 2 (abandonPic s k u r) =
    ((stream s k).queue, (stream s k).made, satAdd sat32 (stream s k).late 1, true) := by
  simp only [abandonPic, frameView_startPics]
  rw [frameView_enterSkip _ k 2 (by decide) (by decide), frameView_auxReport, frameView_flag_self _ k 2 (by decide),
    stream_setStream_self]

theorem frameView_decodeErr (s : State) (k : Nat) (u : AccUnit) (err : Nat) (h : k < 30) : frameView k 4 (decodeErr s k u err) =
    ((stream s k).queue, (stream s k).made, (stream s k).late, true) := by
  have hflag : bit (rg (report (flag s devSt 4) 0x0505 none k 0 (leBytes 4 u.fid ++ leBytes 2 err)) devSt) 4 = true := by
    rw [devSt_of_devView (devView_report ..), bit_flag s devSt 4 (by decide)]
  simp only [decodeErr, if_neg (Nat.not_le.mpr h), frameView_startPics]
  rw [frameView_enterSkip _ k 4 (by decide) (by decide), frameView_setStream, hflag]
  simp only [stream_report, stream_flag]

theorem pictureDone_joins (p k : Nat) (u : AccUnit) (pic : Picture) (n : Nat) (s : State) (h : Pre.pictureDone p k u s) :
    Gives (.decodePictureDone p pic n) s (fun t =>
      (stream t k).queue = (stream s k).queue ++ [u] ∧ (stream t k).made = (stream s k).made + 1 ∧
      cget t 0xB0018 = (cget s 0xB0018 + pic.luma) % 2 ^ 64 ∧
      mark t (stream s k).mark = min (mark s (stream s k).mark + 1) sat64) := by
  obtain ⟨⟨hr, hp, hk, hst⟩, hh, hl⟩ := h
  have hk : ¬ 30 ≤ k := Nat.not_le.mpr hk
  have he : exec (.decodePictureDone p pic n) s = .next (queueFrame (chargeDram s (stream s k).cls n) k u pic) := by
    show execDecodePictureDone p pic n s = _
    simp [execDecodePictureDone, hp, hr, hst, hh, hk, hl]
  refine ⟨_, he, ?_⟩
  have hrest := restView_chargeDram s (stream s k).cls n
  have hj := queueFrame_joins (chargeDram s (stream s k).cls n) k u pic
  rw [stream_chargeDram, cget_of_restView hrest, mark_of_restView hrest] at hj
  exact hj

theorem restView_refNext (s : State) (k : Nat) : restView (refNext s k) = restView s := by
  have hf (s : State) : restView (freeRef s k) = restView s := by
    simp only [freeRef]
    split
    · exact restView_setStream ..
    · rfl
  rw [refNext, restView_startPics, hf, restView_setStream]

/-- A still decoded for a load is kept with its job (R101). -/
theorem refDone_keeps (s : State) (k : Nat) (u : AccUnit) (p : Picture) (hrep : isRepair u = false)
    (hload : (job s (fidSlot u)).st = .loading) :
    tget none (job (refDone s k u p) (fidSlot u)).pics (u.fid % 64) = some p ∧
      cget (refDone s k u p) 0xB0018 = (cget s 0xB0018 + p.luma) % 2 ^ 64 := by
  have hload : (!isRepair u) = true ∧ (job s (fidSlot u)).st = .loading := ⟨by rw [hrep]; rfl, hload⟩
  simp only [refDone, if_pos hload]
  refine ⟨?_, ?_⟩
  · rw [job_of_restView (restView_refNext ..)]
    have hj (w : State) (n i : Nat) : job (countPix w n) i = job w i := rfl
    rw [hj, job_setJob_self, tget_tset_self]
  · rw [cget_of_restView (restView_refNext ..), cget_countPix]
    rfl

theorem stillDone_keeps (p k : Nat) (u : AccUnit) (pic : Picture) (n : Nat) (s : State) (h : Pre.stillDone p k u s) :
    Gives (.decodePictureDone p pic n) s (fun t => tget none (job t (fidSlot u)).pics (u.fid % 64) = some pic ∧
      cget t 0xB0018 = (cget s 0xB0018 + pic.luma) % 2 ^ 64) := by
  obtain ⟨hr, hp, hk, hst, hh, hrep, hload⟩ := h
  have hrest := restView_chargeDram s (stream s k).cls n
  have he : exec (.decodePictureDone p pic n) s = .next (refDone (chargeDram s (stream s k).cls n) k u pic) := by
    show execDecodePictureDone p pic n s = _
    simp [execDecodePictureDone, hp, hr, hst, hh, hk]
  refine ⟨_, he, ?_⟩
  rw [← cget_of_restView hrest]
  exact refDone_keeps _ k u pic hrep ((congrArg Job.st (job_of_restView hrest _)).trans hload)

theorem pictureDone_late (p k : Nat) (u : AccUnit) (pic : Picture) (r n : Nat) (s : State) (h : Pre.inPipe p k u s)
    (hh : heldPic s (stream s k) = false) (hl : pastLimit s (stream s k) u = some r) : Gives (.decodePictureDone p pic n) s (fun t =>
      (stream t k).queue = (stream s k).queue ∧ (stream t k).late = satAdd sat32 (stream s k).late 1) := by
  obtain ⟨hr, hp, hk, hst⟩ := h
  have hk : ¬ 30 ≤ k := Nat.not_le.mpr hk
  have he : exec (.decodePictureDone p pic n) s = .next (abandonPic (chargeDram s (stream s k).cls n) k u r) := by
    show execDecodePictureDone p pic n s = _
    simp [execDecodePictureDone, hp, hr, hst, hh, hk, hl]
  refine ⟨_, he, ?_⟩
  have hv := frameView_abandonPic (chargeDram s (stream s k).cls n) k u r
  rw [stream_chargeDram] at hv
  exact ⟨congrArg (·.1) hv, congrArg (·.2.2.1) hv⟩

theorem auxLate_abandons (p k : Nat) (u : AccUnit) (r n : Nat) (s : State) (h : Pre.inPipe p k u s)
    (hl : pastLimit s (stream s k) u = some r) : Gives (.auxLate p n) s (fun t =>
      (stream t k).queue = (stream s k).queue ∧ (stream t k).late = satAdd sat32 (stream s k).late 1 ∧
      bit (rg t devSt) 2 = true) := by
  obtain ⟨hr, hp, hk, hst⟩ := h
  have he : exec (.auxLate p n) s = .next (abandonPic (chargeDram s (stream s k).cls n) k u r) := by
    show execAuxLate p n s = _
    simp [execAuxLate, hp, hr, hst, hk, hl]
  refine ⟨_, he, ?_⟩
  have hv := frameView_abandonPic (chargeDram s (stream s k).cls n) k u r
  rw [stream_chargeDram] at hv
  exact ⟨congrArg (·.1) hv, congrArg (·.2.2.1) hv, congrArg (·.2.2.2) hv⟩

theorem devDecodeErr_flags (p k : Nat) (u : AccUnit) (e n : Nat) (s : State) (h : Pre.inPipe p k u s) :
    Gives (.devDecodeErr p e n) s (fun t => (stream t k).queue = (stream s k).queue ∧ bit (rg t devSt) 4 = true) := by
  obtain ⟨hr, hp, hk, hst⟩ := h
  have he : exec (.devDecodeErr p e n) s = .next (decodeErr (chargeDram s (stream s k).cls n) k u e) := by
    show execDevDecodeErr p e n s = _
    simp [execDevDecodeErr, hp, hr, hst]
  refine ⟨_, he, ?_⟩
  have hv := frameView_decodeErr (chargeDram s (stream s k).cls n) k u e hk
  rw [stream_chargeDram] at hv
  exact ⟨congrArg (·.1) hv, congrArg (·.2.2.2) hv⟩

/-! ### Frames are handed over (R105 to R107) -/

theorem exec_frameDequeue (k : Nat) (u : AccUnit) (us : List AccUnit) (s : State) (hr : isReady s = true)
    (hq : (stream s k).queue = u :: us) : exec (.frameDequeue k) s = .next (startPics (dequeueFrom k (u :: us) s)) := by
  show execFrameDequeue k s = _
  simp [execFrameDequeue, hr, hq]

theorem frameDequeue_hands (k : Nat) (u : AccUnit) (us : List AccUnit) (s : State) (h : Pre.dequeue k u us s) :
    Gives (.frameDequeue k) s (fun t => (stream t k).queue = us ∧ (stream t k).late = (stream s k).late) := by
  obtain ⟨hr, hq, hl⟩ := h
  obtain ⟨-, hqueue, -, hlate, -⟩ := startPics_keeps (dequeueFrom k (u :: us) s) k
  refine ⟨_, exec_frameDequeue k u us s hr hq, hqueue.trans ?_, hlate.trans ?_⟩ <;>
    simp only [dequeueFrom, hl, stream_lowWater, stream_setStream_self]

theorem frameDequeue_discards (k : Nat) (u : AccUnit) (s : State) (h : Pre.dequeueLate k u s) :
    Gives (.frameDequeue k) s (fun t => (stream t k).queue = [] ∧
      (stream t k).late = satAdd sat32 (stream s k).late 1 ∧ bit (rg t devSt) 1 = true) := by
  obtain ⟨hr, hq, hl⟩ := h
  obtain ⟨r, hl⟩ := Option.isSome_iff_exists.mp hl
  have hv : frameView k 1 (startPics (dequeueFrom k [u] s)) =
      ([], (stream s k).made, satAdd sat32 (stream s k).late 1, true) := by
    simp only [dequeueFrom, hl, frameView_startPics, frameView_auxReport]
    rw [frameView_flag_self _ k 1 (by decide)]
    simp only [stream_setStream_self, stream_lowWater]
  exact ⟨_, exec_frameDequeue k u [] s hr hq, congrArg (·.1) hv, congrArg (·.2.2.1) hv, congrArg (·.2.2.2) hv⟩

/-! ### Reference tiles (R103) -/

/-- Stills queued for decoding leave the jobs and the registers. -/
theorem enqueueRefs_rest (s : State) (slot : Nat) (is : List Nat) (rep : Bool) :
    restView (enqueueRefs s slot is rep) = restView s ∧ (enqueueRefs s slot is rep).regs = s.regs := by
  unfold enqueueRefs
  rw [restView_startPics, regs_startPics]
  constructor
  · refine foldl_invariant restView _ (fun _ _ => ?_) is s
    rfl
  · refine foldl_invariant State.regs _ (fun _ _ => ?_) is s
    rfl

theorem poisonTile_marks (s : State) (k tile : Nat) (w : Option (Nat × Nat)) (h : (job s k).poisoned.contains tile = false) :
    (job (poisonTile s k tile w) k).poisoned = (job s k).poisoned ++ [tile] ∧ bit (rg (poisonTile s k tile w) devSt) 5 = true := by
  unfold poisonTile
  extract_lets j v v' ls
  rw [if_neg (by simpa using h)]
  obtain ⟨hrest, hregs⟩ := enqueueRefs_rest (eventFault (tileStale v' w) { cause := 0x0603, tier := 0, lane := ls.head? } ls true) k
    (stillsAt j.img tile) true
  have hv : devView (eventFault (tileStale v' w) { cause := 0x0603, tier := 0, lane := ls.head? } ls true) = devView v := by
    simp only [devView_eventFault, devView_tileStale, v', devView_report]
  refine ⟨?_, ?_⟩
  · rw [job_of_restView hrest, job_of_devView hv]
    exact congrArg Job.poisoned (job_setJob_self ..)
  · rw [rg, rget, hregs, ← rget, ← rg, devSt_of_devView hv]
    exact bit_flag _ devSt 5 (by decide)

theorem refRepair_reads (j tile : Nat) (w : Nat × Nat) (s : State) (h : Pre.refRead j tile w s) :
    Gives (.refRepair j tile (some w)) s (fun t =>
      (job t (refSlot s j)).poisoned = (job s (refSlot s j)).poisoned ++ [tile] ∧ bit (rg t devSt) 5 = true) := by
  obtain ⟨hr, hst, ht, ho, hp⟩ := h
  have he : exec (.refRepair j tile (some w)) s = .next (poisonTile s (refSlot s j) tile (some w)) := by
    show execRefRepair j tile (some w) s = _
    simp [execRefRepair, hr, hst, ht, ho]
  exact ⟨_, he, poisonTile_marks s _ tile _ hp⟩

theorem refRepair_ends (j tile : Nat) (s : State) (h : Pre.refRepaired j tile s) : Gives (.refRepair j tile none) s (fun t =>
    tile ∉ (job t (refSlot s j)).poisoned ∧ (job t (refSlot s j)).img = (job s (refSlot s j)).img) := by
  obtain ⟨hr, hst, ht, hp, hrep⟩ := h
  have he : exec (.refRepair j tile none) s = .next (tileRepaired s (refSlot s j) tile) := by
    show execRefRepair j tile none s = _
    simp [execRefRepair, hr, hst, ht]
  refine ⟨_, he, ?_⟩
  simp only [tileRepaired, hp, hrep, Bool.not_false, Bool.and_self, if_true]
  rw [job_of_devView (devView_report ..), job_setJob_self]
  exact ⟨by simp, rfl⟩

/-- Settles O48: what a pipe, a dequeue and a repair change is read off the slot, the job, DEV_ERR and the counters; the reports, the
fault and the pictures started besides leave these alone. -/
theorem pictures : Obligations.Pictures :=
  ⟨pictureDone_joins, stillDone_keeps, pictureDone_late, auxLate_abandons, devDecodeErr_flags, frameDequeue_hands,
    frameDequeue_discards, refRepair_reads, refRepair_ends⟩

end Sys2Proof.Machine

namespace Sys2Proof.Machine

/-! ### Bytes, two's complement and bit fields -/

@[simp] theorem length_leBytes (n v : Nat) : (leBytes n v).length = n := by
  induction n generalizing v with
  | zero => rfl
  | succ n ih => simp [leBytes, ih]

theorem leNat_leBytes (n v : Nat) : leNat (leBytes n v) = v % 256 ^ n := by
  induction n generalizing v with
  | zero => simp [leBytes, leNat, Nat.mod_one]
  | succ n ih =>
    rw [leBytes, leNat, ih, Nat.pow_succ', Nat.mod_mul]
    simp

theorem ofTwos_bounds (v : Nat) : -128 ≤ ofTwos 8 v ∧ ofTwos 8 v ≤ 127 := by
  unfold ofTwos
  split <;> omega

theorem twos_lt (x : Int) : twos 8 x < 256 := by
  unfold twos
  omega

theorem ofTwos_twos {x : Int} (h : -128 ≤ x) (h' : x ≤ 127) : ofTwos 8 (twos 8 x) = x := by
  unfold ofTwos twos
  split <;> omega

theorem bits_eq_div_mod {v hi lo w : Nat} (h : hi + 1 = lo + w) (hw : 0 < w) : bits v hi lo = v / 2 ^ lo % 2 ^ w := by
  rw [bits, Nat.shiftRight_eq_div_pow, show hi - lo + 1 = w by omega]

/-- The number whose digits in base `b` are `ds`, the lowest first. -/
def ofFields (b : Nat) : List Nat → Nat
  | [] => 0
  | d :: ds => d + b * ofFields b ds

/-- Fields of `w` bits from bit `b` on, added up, are the digits of one number. -/
theorem foldl_fields {α : Type} (f : α → Nat) (b w : Nat) (l : List α) :
    (l.mapIdx (fun i a => f a * 2 ^ (b + w * i))).foldl (· + ·) 0 = 2 ^ b * ofFields (2 ^ w) (l.map f) := by
  rw [← List.sum_eq_foldl]
  induction l generalizing b with
  | nil => rfl
  | cons a l ih =>
    have hexp : ∀ i, b + w * (i + 1) = b + w + w * i := fun i => by rw [Nat.mul_succ]; omega
    simp only [List.mapIdx_cons, List.sum_cons, List.map_cons, ofFields, hexp, ih, Nat.mul_zero, Nat.add_zero]
    rw [Nat.pow_add, Nat.mul_add, Nat.mul_assoc, Nat.mul_comm (f a)]

theorem ofFields_lt {b : Nat} {ds : List Nat} (h : ∀ d ∈ ds, d < b) : ofFields b ds < b ^ ds.length := by
  induction ds with
  | nil => exact Nat.one_pos
  | cons d ds ih =>
    have hd : d < b := h d List.mem_cons_self
    have hds := ih (fun x hx => h x (List.mem_cons_of_mem _ hx))
    calc d + b * ofFields b ds < b * (ofFields b ds + 1) := by rw [Nat.mul_succ]; omega
      _ ≤ b * b ^ ds.length := Nat.mul_le_mul_left _ hds
      _ = b ^ (d :: ds).length := (Nat.pow_succ' ..).symm

theorem ofFields_div_mod {b : Nat} {ds : List Nat} (h : ∀ d ∈ ds, d < b) (i : Nat) :
    ofFields b ds / b ^ i % b = ds.getD i 0 := by
  induction ds generalizing i with
  | nil => simp only [ofFields, Nat.zero_div, Nat.zero_mod, List.getD_nil]
  | cons d ds ih =>
    have hd : d < b := h d List.mem_cons_self
    rw [ofFields]
    cases i with
    | zero => rw [Nat.pow_zero, Nat.div_one, Nat.add_mul_mod_self_left, Nat.mod_eq_of_lt hd, List.getD_cons_zero]
    | succ i =>
      rw [Nat.pow_succ', ← Nat.div_div_eq_div_mul, Nat.add_mul_div_left _ _ (by omega), Nat.div_eq_of_lt hd, Nat.zero_add,
        ih (fun x hx => h x (List.mem_cons_of_mem _ hx)), List.getD_cons_succ]

/-! ### Blocks of 32 values -/

theorem blocks32_eq {α : Type} {n k : Nat} (l : List α) (hl : l.length = 32 * k) (hk : k ≤ n) :
    blocks32 n l = (List.range k).map (fun j => (l.drop (32 * j)).take 32) := by
  induction n generalizing k l with
  | zero =>
    obtain rfl : k = 0 := by omega
    rfl
  | succ n ih =>
    cases k with
    | zero => simp [blocks32, List.eq_nil_of_length_eq_zero hl]
    | succ k =>
      have hne : l.isEmpty = false := by
        rw [List.isEmpty_eq_false_iff, ← List.length_pos_iff]
        omega
      rw [blocks32, hne, ih (k := k) _ (by rw [List.length_drop]; omega) (by omega), List.range_succ_eq_map]
      simp [List.drop_drop, Nat.mul_add, Nat.add_comm]

theorem getD_eq_getElem_of_lt {α : Type} {l : List α} {i : Nat} {x : α} (h : i < l.length) : l.getD i x = l[i] := by
  rw [List.getD, List.getElem?_eq_getElem h, Option.getD_some]

theorem getD_flatten_of_length {α : Type} {c : Nat} {L : List (List α)} (h : ∀ l ∈ L, l.length = c) {i : Nat} (hi : i < c)
    (j : Nat) (x : α) : L.flatten.getD (c * j + i) x = (L.getD j []).getD i x := by
  induction L generalizing j with
  | nil => simp
  | cons l L ih =>
    have hl : l.length = c := h l (by simp)
    cases j with
    | zero =>
      rw [List.flatten_cons, List.getD_cons_zero, Nat.mul_zero, Nat.zero_add, List.getD, List.getElem?_append_left (by omega), List.getD]
    | succ j =>
      have hsub : c * (j + 1) + i - l.length = c * j + i := by rw [hl, Nat.mul_succ]; omega
      rw [List.flatten_cons, List.getD_cons_succ, List.getD, List.getElem?_append_right (by rw [hl, Nat.mul_succ]; omega), hsub,
        ← List.getD, ih (fun m hm => h m (List.mem_cons_of_mem _ hm))]

/-! ### One group of values (R156) -/

theorem bitlen_le_iff (n k : Nat) : bitlen n ≤ k ↔ n < 2 ^ k := by
  unfold bitlen
  split
  next h => simp only [h, Nat.zero_le, Nat.two_pow_pos]
  next h => rw [Nat.succ_le_iff, Nat.log2_lt h]

theorem min?_eq_listMin {l : List Int} (h : l ≠ []) : l.min? = some (listMin l) := by
  cases l with
  | nil => exact absurd rfl h
  | cons x t => rfl

theorem max?_eq_listMax {l : List Int} (h : l ≠ []) : l.max? = some (listMax l) := by
  cases l with
  | nil => exact absurd rfl h
  | cons x t => rfl

theorem listMin_le {l : List Int} {v : Int} (h : v ∈ l) : listMin l ≤ v :=
  (List.min?_eq_some_iff.mp (min?_eq_listMin (List.ne_nil_of_mem h))).2 v h

theorem le_listMax {l : List Int} {v : Int} (h : v ∈ l) : v ≤ listMax l :=
  (List.max?_eq_some_iff.mp (max?_eq_listMax (List.ne_nil_of_mem h))).2 v h

theorem listMin_bounds {l : List Int} (h : ∀ v ∈ l, -128 ≤ v ∧ v ≤ 127) : -128 ≤ listMin l ∧ listMin l ≤ 127 := by
  by_cases hl : l = []
  · subst l
    decide
  · exact h _ (List.min?_mem (min?_eq_listMin hl))

theorem listMax_bounds {l : List Int} (h : ∀ v ∈ l, -128 ≤ v ∧ v ≤ 127) : -128 ≤ listMax l ∧ listMax l ≤ 127 := by
  by_cases hl : l = []
  · subst l
    decide
  · exact h _ (List.max?_mem (max?_eq_listMax hl))

/-- The range of signed bytes is below 256, so the shift fits the header's three bits. -/
theorem grainGroup_shift_lt {n : Nat} {vs : List Int} (hn : 1 ≤ n) (h : ∀ v ∈ vs, -128 ≤ v ∧ v ≤ 127) :
    (grainGroup n vs).2.1 < 8 := by
  obtain ⟨hlo, -⟩ := listMin_bounds h
  obtain ⟨-, hhi⟩ := listMax_bounds h
  have hlen : bitlen (listMax vs - listMin vs).toNat ≤ 8 := (bitlen_le_iff _ _).mpr (by omega)
  show _ - n < 8
  omega

/-- The shift drops what exceeds `n` bits of the range (R156: a code is at most 2^n - 1 by construction). -/
theorem grainGroup_code_lt {n : Nat} {vs : List Int} : ∀ k ∈ (grainGroup n vs).2.2, k < 2 ^ n := by
  intro k hk
  obtain ⟨v, hv, rfl⟩ := List.mem_map.mp hk
  have hmin := listMin_le hv
  have hmax := le_listMax hv
  have hlen := (bitlen_le_iff (listMax vs - listMin vs).toNat (n + (grainGroup n vs).2.1)).mp
    (show _ ≤ n + (_ - n) by omega)
  rw [Nat.pow_add] at hlen
  exact Nat.div_lt_of_lt_mul (by rw [Nat.mul_comm]; exact Nat.lt_of_le_of_lt (by omega) hlen)

/-! ### The stored word (R156) -/

/-- The 11 header bits of a group. -/
def grainHeader (g : Int × Nat × List Nat) : Nat := twos 8 g.1 + g.2.1 * 256

theorem grainHeader_div (g : Int × Nat × List Nat) : grainHeader g / 256 = g.2.1 := by
  have h := twos_lt g.1
  unfold grainHeader
  omega

theorem grainHeader_mod (g : Int × Nat × List Nat) : grainHeader g % 256 = twos 8 g.1 := by
  have h := twos_lt g.1
  unfold grainHeader
  omega

/-- The four groups of a block, compressed. -/
def grainGroups (r : Nat) (bs : List Byte) : List (Int × Nat × List Nat) := (List.range 4).map (grainOf r bs)

/-- The headers of a block in the order of their fields. -/
def grainHeaders (r : Nat) (bs : List Byte) : List Nat := (grainGroups r bs).map grainHeader

/-- The 128 codes of a block in the order of their fields. -/
def grainCodes (r : Nat) (bs : List Byte) : List Nat := ((grainGroups r bs).map (fun g => g.2.2)).flatten

/-- The bit string of a compressed block: four headers, then the 128 codes. -/
def grainWord (r : Nat) (bs : List Byte) : Nat :=
  ofFields (2 ^ 11) (grainHeaders r bs) + 2 ^ 44 * ofFields (2 ^ grainBits r) (grainCodes r bs)

theorem grainBits_pos (r : Nat) : 1 ≤ grainBits r := by
  unfold grainBits
  split
  · decide
  · split <;> decide

/-- The headers and the codes fit the stored size. -/
theorem grainBits_fit (r : Nat) : 44 + grainBits r * 128 ≤ 8 * grainSize r := by
  unfold grainBits grainSize
  split
  · decide
  · split <;> decide

section
variable {r : Nat} {bs : List Byte}

theorem mem_grainGroups {g : Int × Nat × List Nat} (h : g ∈ grainGroups r bs) : ∃ j < 4, g = grainOf r bs j := by
  obtain ⟨j, hj, rfl⟩ := List.mem_map.mp h
  exact ⟨j, List.mem_range.mp hj, rfl⟩

theorem grainOf_values_bounds (j : Nat) :
    ∀ v ∈ ((bs.drop (32 * j)).take 32).map (fun b => ofTwos 8 b.toNat), -128 ≤ v ∧ v ≤ 127 := by
  intro v hv
  obtain ⟨b, -, rfl⟩ := List.mem_map.mp hv
  exact ofTwos_bounds _

theorem grainOf_min_bounds (j : Nat) : -128 ≤ (grainOf r bs j).1 ∧ (grainOf r bs j).1 ≤ 127 :=
  listMin_bounds (grainOf_values_bounds j)

theorem grainOf_shift_lt (j : Nat) : (grainOf r bs j).2.1 < 8 :=
  grainGroup_shift_lt (grainBits_pos r) (grainOf_values_bounds j)

theorem grainHeaders_lt : ∀ d ∈ grainHeaders r bs, d < 2 ^ 11 := by
  intro d hd
  obtain ⟨g, hg, rfl⟩ := List.mem_map.mp hd
  obtain ⟨j, -, rfl⟩ := mem_grainGroups hg
  have hs := grainOf_shift_lt (r := r) (bs := bs) j
  have ht := twos_lt (grainOf r bs j).1
  unfold grainHeader
  omega

theorem grainCodes_lt : ∀ d ∈ grainCodes r bs, d < 2 ^ grainBits r := by
  intro d hd
  obtain ⟨l, hl, hdl⟩ := List.mem_flatten.mp hd
  obtain ⟨g, hg, rfl⟩ := List.mem_map.mp hl
  obtain ⟨j, -, rfl⟩ := mem_grainGroups hg
  exact grainGroup_code_lt d hdl

theorem grainGroups_codes_length (h : bs.length = 128) : ∀ l ∈ (grainGroups r bs).map (fun g => g.2.2), l.length = 32 := by
  intro l hl
  obtain ⟨g, hg, rfl⟩ := List.mem_map.mp hl
  obtain ⟨j, hj, rfl⟩ := mem_grainGroups hg
  simp only [grainOf, grainGroup, List.length_map, List.length_take, List.length_drop, h]
  omega

theorem grainHeaders_lt_pow : ofFields (2 ^ 11) (grainHeaders r bs) < 2 ^ 44 := by
  have h := ofFields_lt (grainHeaders_lt (r := r) (bs := bs))
  rwa [← Nat.pow_mul, show (grainHeaders r bs).length = 4 by simp [grainHeaders, grainGroups]] at h

theorem length_grainCodes (h : bs.length = 128) : (grainCodes r bs).length = 128 := by
  rw [grainCodes, List.length_flatten, List.map_congr_left (grainGroups_codes_length h)]
  rfl

theorem grainWord_lt (h : bs.length = 128) : grainWord r bs < 256 ^ grainSize r := by
  have hh := grainHeaders_lt_pow (r := r) (bs := bs)
  have hc := ofFields_lt (grainCodes_lt (r := r) (bs := bs))
  rw [length_grainCodes h, ← Nat.pow_mul] at hc
  calc grainWord r bs < 2 ^ 44 * (ofFields (2 ^ grainBits r) (grainCodes r bs) + 1) := by unfold grainWord; omega
    _ ≤ 2 ^ 44 * 2 ^ (grainBits r * 128) := Nat.mul_le_mul_left _ hc
    _ = 2 ^ (44 + grainBits r * 128) := (Nat.pow_add ..).symm
    _ ≤ 2 ^ (8 * grainSize r) := Nat.pow_le_pow_right (by decide) (grainBits_fit r)
    _ = 256 ^ grainSize r := by rw [Nat.pow_mul]

theorem grainCompress_eq (h : bs.length = 128) : grainCompress r bs = leBytes (grainSize r) (grainWord r bs) := by
  have hg : (blocks32 5 (bs.map (fun b => ofTwos 8 b.toNat))).map (grainGroup (grainBits r)) = grainGroups r bs := by
    rw [blocks32_eq (k := 4) _ (by simpa using h) (by decide), List.map_map]
    exact List.map_congr_left fun j _ => by simp [grainOf, List.map_drop, List.map_take]
  have hh := foldl_fields grainHeader 0 11 (grainGroups r bs)
  have hk := foldl_fields id 44 (grainBits r) (grainCodes r bs)
  simp only [Nat.zero_add, Nat.pow_zero, Nat.one_mul] at hh
  simp only [List.map_id, id] at hk
  simp only [grainCompress, hg]
  show leBytes _ ((List.mapIdx (fun j g => grainHeader g * 2 ^ (11 * j)) (grainGroups r bs)).foldl (· + ·) 0 + _) = _
  rw [← grainCodes, hh, hk, grainWord, grainHeaders]

theorem leNat_grainCompress (h : bs.length = 128) : leNat (grainCompress r bs) = grainWord r bs := by
  rw [grainCompress_eq h, leNat_leBytes, Nat.mod_eq_of_lt (grainWord_lt h)]

/-! ### Reading the fields back (R157) -/

theorem grainWord_header {j : Nat} (hj : j < 4) : bits (grainWord r bs) (11 * j + 10) (11 * j) = grainHeader (grainOf r bs j) := by
  have hsplit : 2 ^ 44 = 2 ^ (11 * j) * (2 ^ 11 * 2 ^ (11 * (3 - j))) := by
    rw [← Nat.pow_add, ← Nat.pow_add]
    congr 1
    omega
  have hd : (grainHeaders r bs).getD j 0 = grainHeader (grainOf r bs j) := by
    simp [grainHeaders, grainGroups, List.getD, hj]
  rw [bits_eq_div_mod (w := 11) rfl (by decide), grainWord, hsplit, Nat.mul_assoc, Nat.add_mul_div_left _ _ (Nat.two_pow_pos _),
    Nat.mul_assoc, Nat.add_mul_mod_self_left, Nat.pow_mul, ofFields_div_mod grainHeaders_lt, hd]

theorem grainWord_code (h : bs.length = 128) {i : Nat} (hi : i < 128) :
    bits (grainWord r bs) (44 + grainBits r * (i + 1) - 1) (44 + grainBits r * i) =
      (grainOf r bs (i / 32)).2.2.getD (i % 32) 0 := by
  have hpos := grainBits_pos r
  have hhi : 44 + grainBits r * (i + 1) - 1 + 1 = 44 + grainBits r * i + grainBits r := by
    rw [Nat.mul_succ]
    omega
  have hd : (grainCodes r bs).getD i 0 = (grainOf r bs (i / 32)).2.2.getD (i % 32) 0 := by
    have hflat := getD_flatten_of_length (grainGroups_codes_length (r := r) h) (Nat.mod_lt i (by decide)) (i / 32) 0
    rw [Nat.div_add_mod] at hflat
    rw [grainCodes, hflat]
    simp [grainGroups, List.getD, show i / 32 < 4 by omega]
  rw [bits_eq_div_mod hhi hpos, grainWord, Nat.pow_add, ← Nat.div_div_eq_div_mul, Nat.add_mul_div_left _ _ (Nat.two_pow_pos _),
    Nat.div_eq_of_lt grainHeaders_lt_pow, Nat.zero_add, Nat.pow_mul, ofFields_div_mod grainCodes_lt, hd]

end

/-- What a code of a group stands for after expansion, saturated to a signed byte. -/
def grainValue (mn : Int) (sh k : Nat) : Int := max (-128) (min 127 (mn + ((k * 2 ^ sh + 2 ^ sh / 2 : Nat) : Int)))

theorem grainValue_bounds (mn : Int) (sh k : Nat) : -128 ≤ grainValue mn sh k ∧ grainValue mn sh k ≤ 127 := by
  unfold grainValue
  omega

@[simp] theorem length_grainExpand (r : Nat) (bs : List Byte) : (grainExpand r bs).length = 128 := by
  simp [grainExpand]

theorem grainExpand_grainCompress {r : Nat} {bs : List Byte} (h : bs.length = 128) {i : Nat} (hi : i < 128) :
    ofTwos 8 ((grainExpand r (grainCompress r bs)).getD i 0).toNat =
      grainValue (grainOf r bs (i / 32)).1 (grainOf r bs (i / 32)).2.1 ((grainOf r bs (i / 32)).2.2.getD (i % 32) 0) := by
  obtain ⟨hlo, hhi⟩ := grainOf_min_bounds (r := r) (bs := bs) (i / 32)
  have hget : (grainExpand r (grainCompress r bs)).getD i 0 = BitVec.ofNat 8 (twos 8
      (grainValue (grainOf r bs (i / 32)).1 (grainOf r bs (i / 32)).2.1 ((grainOf r bs (i / 32)).2.2.getD (i % 32) 0))) := by
    rw [grainExpand, getD_eq_getElem_of_lt (by simpa using hi)]
    simp only [List.getElem_map, List.getElem_range, leNat_grainCompress h, grainWord_header (show i / 32 < 4 by omega),
      grainWord_code h hi, grainHeader_div, grainHeader_mod]
    rw [ofTwos_twos hlo hhi, grainValue]
  obtain ⟨hlo', hhi'⟩ := grainValue_bounds (grainOf r bs (i / 32)).1 (grainOf r bs (i / 32)).2.1
    ((grainOf r bs (i / 32)).2.2.getD (i % 32) 0)
  rw [hget, BitVec.toNat_ofNat, Nat.mod_eq_of_lt (twos_lt _), ofTwos_twos hlo' hhi']

/-! ### The error of one value (R158) -/

/-- The code drops a residue below 2^s, the expansion adds 2^s / 2, and saturation only moves a value towards the original. -/
theorem grainValue_error {mn v : Int} (sh : Nat) (hmn : mn ≤ v) (hlo : -128 ≤ v) (hhi : v ≤ 127) :
    (sh = 0 → grainValue mn sh ((v - mn).toNat / 2 ^ sh) - v = 0) ∧
    (1 ≤ sh → -((2 : Int) ^ (sh - 1) - 1) ≤ grainValue mn sh ((v - mn).toNat / 2 ^ sh) - v ∧
      grainValue mn sh ((v - mn).toNat / 2 ^ sh) - v ≤ 2 ^ (sh - 1)) := by
  cases sh with
  | zero =>
    refine ⟨fun _ => ?_, fun h => absurd h (by decide)⟩
    simp only [grainValue, Nat.pow_zero, Nat.div_one, Nat.mul_one]
    omega
  | succ m =>
    refine ⟨fun h => absurd h (Nat.succ_ne_zero m), fun _ => ?_⟩
    have hpos : 0 < 2 ^ m := Nat.two_pow_pos m
    have hdiv := Nat.div_add_mod (v - mn).toNat (2 ^ (m + 1))
    have hres := Nat.mod_lt (v - mn).toNat (Nat.two_pow_pos (m + 1))
    have hhalf : 2 ^ (m + 1) / 2 = 2 ^ m := by rw [Nat.pow_succ]; omega
    rw [Nat.mul_comm] at hdiv
    rw [grainValue, hhalf, Nat.add_sub_cancel, show (2 : Int) ^ m = ((2 ^ m : Nat) : Int) from (Int.natCast_pow 2 m).symm]
    rw [Nat.pow_succ] at hres hdiv ⊢
    generalize 2 ^ m = p at *
    generalize (v - mn).toNat / (p * 2) * (p * 2) = q at *
    omega

theorem grainOf_code {r : Nat} {bs : List Byte} (h : bs.length = 128) {i : Nat} (hi : i < 128) :
    (grainOf r bs (i / 32)).2.2.getD (i % 32) 0 =
      (ofTwos 8 (bs.getD i 0).toNat - (grainOf r bs (i / 32)).1).toNat / 2 ^ (grainOf r bs (i / 32)).2.1 := by
  have hlen : i % 32 < ((bs.drop (32 * (i / 32))).take 32).length := by
    rw [List.length_take, List.length_drop]
    omega
  have hget : ((bs.drop (32 * (i / 32))).take 32)[i % 32] = bs.getD i 0 := by
    rw [getD_eq_getElem_of_lt (by omega)]
    simp [Nat.div_add_mod]
  rw [getD_eq_getElem_of_lt (by simpa [grainOf, grainGroup] using hlen)]
  simp only [grainOf, grainGroup, List.getElem_map, hget]

theorem grainOf_min_le {r : Nat} {bs : List Byte} (h : bs.length = 128) {i : Nat} (hi : i < 128) :
    (grainOf r bs (i / 32)).1 ≤ ofTwos 8 (bs.getD i 0).toNat := by
  refine listMin_le (List.mem_map.mpr ⟨bs.getD i 0, ?_, rfl⟩)
  rw [getD_eq_getElem_of_lt (by omega), List.mem_take_iff_getElem]
  exact ⟨i % 32, by rw [List.length_drop]; omega, by simp [Nat.div_add_mod]⟩

/-- Settles O42: the word of a block reads back field by field, so a value comes back as its group's least value, its code and half a
step; the error is half a step less the residue. -/
theorem grainError : Obligations.GrainError := by
  intro r bs _ _ h
  refine ⟨by rw [grainCompress_eq h, length_leBytes], length_grainExpand .., fun i hi => ?_⟩
  obtain ⟨hlo, hhi⟩ := ofTwos_bounds (bs.getD i 0).toNat
  rw [grainExpand_grainCompress h hi, grainOf_code h hi]
  exact grainValue_error _ (grainOf_min_le h hi) hlo hhi

end Sys2Proof.Machine

namespace Sys2Proof.Machine

/-! ## Sequences and ATTN descriptors (chapters 9, 10 and 14)

### What reports and charges leave of the contexts, the cores and the page manager -/

/-- What the sequencer and the page manager rest on: the contexts, the cores, the sequences with their frames. -/
def execView (s : State) : Tab Ctx × Tab Core × Kv := (s.ctxs, s.cores, s.kv)

/-- An update of other parts of the state. -/
@[simp] theorem execView_update (s : State) (pending free regs latch ctr busData busPoison mem poison pins boot fuse flash board sl pwr
    dbg sal tmu sht lanes jobs marks hst ring cap fe code streams hot adapts mc flt) :
    execView ⟨pending, free, regs, latch, ctr, busData, busPoison, mem, poison, pins, boot, fuse, flash, board, sl, pwr, dbg, sal, tmu,
      sht, lanes, jobs, s.ctxs, marks, s.cores, hst, s.kv, ring, cap, fe, code, streams, hot, adapts, mc, flt⟩ = execView s := rfl

@[simp] theorem execView_ite (c : Prop) [Decidable c] (a b : State) :
    execView (if c then a else b) = if c then execView a else execView b := apply_ite execView c a b

@[simp] theorem execView_foldl {α : Type} (f : State → α → State) (h : ∀ s x, execView (f s x) = execView s) (l : List α) (s : State) :
    execView (l.foldl f s) = execView s := foldl_invariant execView f h l s

@[simp] theorem execView_rsetN (s : State) (o v : Nat) : execView (rsetN s o v) = execView s := by rfl
@[simp] theorem execView_bump (s : State) (o n : Nat) : execView (bump s o n) = execView s := by rfl
@[simp] theorem execView_flag (s : State) (o b : Nat) : execView (flag s o b) = execView s := by rfl
@[simp] theorem execView_wrBytes (s : State) (a : Nat) (bs : List Byte) : execView (wrBytes s a bs) = execView s := by rfl
@[simp] theorem execView_storeBytes (s : State) (a : Nat) (bs : List Byte) : execView (storeBytes s a bs) = execView s := by rfl
@[simp] theorem execView_setRq (s : State) (n : Nat) (r : Option RepRing) : execView (setRq s n r) = execView s := by rfl
@[simp] theorem execView_setAdapt (s : State) (k : Nat) (a : Option Adapt) : execView (setAdapt s k a) = execView s := by rfl

@[simp] theorem execView_raiseVec (s : State) (v : Option Nat) : execView (raiseVec s v) = execView s := by
  cases v <;> rfl

@[simp] theorem execView_writeRec (s : State) (n : Nat) (x : Rec) (b : Bool) : execView (writeRec s n x b) = execView s := by
  unfold writeRec
  split <;> simp

@[simp] theorem execView_bedPauseAuto (s : State) : execView (bedPauseAuto s) = execView s := by simp [bedPauseAuto]

@[simp] theorem execView_dropGroup (s : State) (n : Nat) (r : RepRing) (xs : List Rec) (v : Option VerdictInfo) :
    execView (dropGroup s n r xs v) = execView s := by simp [dropGroup]

@[simp] theorem execView_spillGroup (s : State) (n : Nat) (r : RepRing) (xs : List Rec) (v : Option VerdictInfo) :
    execView (spillGroup s n r xs v) = execView s := by simp [spillGroup]

@[simp] theorem execView_reportGroup (s : State) (xs : List Rec) (v : Option VerdictInfo) :
    execView (reportGroup s xs v) = execView s := by
  unfold reportGroup
  simp only
  (repeat' split) <;> simp [writeRecs]

@[simp] theorem execView_report (s : State) (typ : Nat) (ln : Option Nat) (src ref : Nat) (payload : List Byte) :
    execView (report s typ ln src ref payload) = execView s := execView_reportGroup ..

@[simp] theorem execView_chargeDram (s : State) (c bytes : Nat) : execView (chargeDram s c bytes) = execView s := by
  have h := congrArg execView (chargeDram_rest s c bytes)
  exact h

theorem ctx_of_execView {s t : State} (h : execView t = execView s) (c : Nat) : ctx t c = ctx s c := by
  have hx : t.ctxs = s.ctxs := congrArg (·.1) h
  rw [ctx, ctx, hx]

theorem core_of_execView {s t : State} (h : execView t = execView s) (n : Nat) : core t n = core s n := by
  have hc : t.cores = s.cores := congrArg (·.2.1) h
  rw [core, core, hc]

theorem seq_of_execView {s t : State} (h : execView t = execView s) (k : Nat) : seq t k = seq s k := by
  have hk : t.kv = s.kv := congrArg (·.2.2) h
  rw [seq, seq, hk]

/-! ### What an edit of a sequence leaves (R180, R181) -/

theorem seq_setSeq (s : State) (k j : Nat) (q : Option Seq) : seq (setSeq s k q) j = if k = j then q else seq s j := tget_tset ..

@[simp] theorem seq_setSeq_self (s : State) (k : Nat) (q : Option Seq) : seq (setSeq s k q) k = q := by simp [seq_setSeq]

@[simp] theorem seq_incRef (s : State) (f k : Nat) : seq (incRef s f) k = seq s k := by rfl

@[simp] theorem seq_dropHot (s : State) (f k : Nat) : seq (dropHot s f) k = seq s k := by
  unfold dropHot
  split <;> rfl

@[simp] theorem seq_decRef (s : State) (f k : Nat) : seq (decRef s f) k = seq s k := seq_dropHot ..
@[simp] theorem seq_unpinFrame (s : State) (f k : Nat) : seq (unpinFrame s f) k = seq s k := seq_dropHot ..

/-- What an edit of sequence `k` leaves: the contexts, the cores, and every other sequence. -/
def editView (k : Nat) (s : State) : Tab Ctx × Tab Core × (Nat → Option Seq) :=
  (s.ctxs, s.cores, fun j => if j = k then none else seq s j)

theorem editView_of_execView (k : Nat) {s t : State} (h : execView t = execView s) : editView k t = editView k s :=
  congrArg (fun x : Tab Ctx × Tab Core × Kv => (x.1, x.2.1, fun j => if j = k then none else tget none x.2.2.seqs j)) h

theorem ctxs_of_editView {k : Nat} {s t : State} (h : editView k t = editView k s) : t.ctxs = s.ctxs := congrArg (·.1) h

theorem ctx_of_editView {k : Nat} {s t : State} (h : editView k t = editView k s) (c : Nat) : ctx t c = ctx s c := by
  rw [ctx, ctx, ctxs_of_editView h]

theorem core_of_editView {k : Nat} {s t : State} (h : editView k t = editView k s) (n : Nat) : core t n = core s n := by
  have hc : t.cores = s.cores := congrArg (·.2.1) h
  rw [core, core, hc]

theorem seq_of_editView {k : Nat} {s t : State} (h : editView k t = editView k s) (j : Nat) (hj : j ≠ k) : seq t j = seq s j := by
  have hs := congrFun (congrArg (·.2.2) h) j
  simpa [editView, hj] using hs

variable (k : Nat) (s : State)

@[simp] theorem editView_setSeq (q : Option Seq) : editView k (setSeq s k q) = editView k s := by
  have hs : (fun j => if j = k then none else seq (setSeq s k q) j) = fun j => if j = k then none else seq s j := by
    funext j
    by_cases hj : j = k
    · rw [if_pos hj, if_pos hj]
    · rw [if_neg hj, if_neg hj, seq_setSeq, if_neg (Ne.symm hj)]
  simp only [editView, hs]
  rfl

@[simp] theorem editView_incRef (f : Nat) : editView k (incRef s f) = editView k s := by rfl

@[simp] theorem editView_dropHot (f : Nat) : editView k (dropHot s f) = editView k s := by
  unfold dropHot
  split <;> rfl

@[simp] theorem editView_decRef (f : Nat) : editView k (decRef s f) = editView k s := editView_dropHot ..
@[simp] theorem editView_unpinFrame (f : Nat) : editView k (unpinFrame s f) = editView k s := editView_dropHot ..

@[simp] theorem editView_dropBlocks (n : Nat) (bs : List (Nat × Option Nat)) : editView k (dropBlocks k n bs s) = editView k s := by
  induction bs generalizing s with
  | nil => rfl
  | cons b bs ih =>
    unfold dropBlocks
    split
    · split <;> simp [ih]
    · exact ih s

@[simp] theorem editView_truncateSeq (n : Nat) : editView k (truncateSeq s k n) = editView k s := by
  unfold truncateSeq
  split <;> simp

@[simp] theorem editView_shareBlocks (src : Nat) (bs : List Nat) : editView k (shareBlocks src k bs s) = editView k s := by
  induction bs generalizing s with
  | nil => rfl
  | cons b bs ih =>
    unfold shareBlocks
    split
    · split <;> simp [ih]
    · rfl

@[simp] theorem editView_shareSeq (src n : Nat) : editView k (shareSeq s src k n) = editView k s := by
  simp only [shareSeq]
  split <;> simp

@[simp] theorem editView_closeSeq : editView k (closeSeq s k) = editView k s := by simp [closeSeq]

@[simp] theorem editView_applyEdit (e : KvEdit) : editView k (applyEdit s k e) = editView k s := by
  cases e <;> simp [applyEdit]

theorem execView_editReport (gen steps : Nat) (e : KvEdit) : execView (editReport s k gen steps e) = execView s := execView_report ..

@[simp] theorem editView_applyEdits (gen steps : Nat) (es : List KvEdit) : editView k (applyEdits k gen steps es s) = editView k s := by
  induction es generalizing s with
  | nil => rfl
  | cons e es ih => rw [applyEdits, ih, editView_of_execView k (execView_editReport ..), editView_applyEdit]

@[simp] theorem editView_markBound : editView k (markBound s k) = editView k s := by
  unfold markBound
  split <;> simp

@[simp] theorem editView_runEdits (es : List KvEdit) (begun : Bool) : editView k (runEdits s k es begun) = editView k s := by
  unfold runEdits
  split <;> simp [apply_ite (editView k)]

theorem ctxs_countStep (also : List Nat) : (countStep also s k).ctxs = s.ctxs := by
  refine ctxs_of_editView (k := k) ?_
  unfold countStep
  split <;> simp [apply_ite (editView k)]

theorem ctxs_boundarySeq (moved : List Nat) : (boundarySeq moved s k).ctxs = s.ctxs := by
  refine ctxs_of_editView (k := k) ?_
  unfold boundarySeq
  split <;> simp [apply_ite (editView k)]

/-- A step boundary moves sequences alone, not contexts. -/
theorem ctxs_stepBoundary (c : Nat) : (stepBoundary s c).ctxs = s.ctxs :=
  (foldl_invariant State.ctxs _ (fun s k => ctxs_boundarySeq k s []) _ _).trans
    (foldl_invariant State.ctxs _ (fun s k => ctxs_countStep k s []) _ _)

end Sys2Proof.Machine

namespace Sys2Proof.Machine

/-! ### A context that has faulted stays faulted (R255, R331) -/

/-- A map that keeps the keys and relates each entry to the one it came from relates the tables' readings. -/
theorem tget_map_rel {α : Type} (r : α → α → Prop) (d : α) (g : Nat × α → Nat × α) (hd : r d d)
    (hg : ∀ e, (g e).1 = e.1 ∧ r (g e).2 e.2) (t : Tab α) (k : Nat) : r (tget d (t.map g) k) (tget d t k) := by
  induction t with
  | nil => exact hd
  | cons e t ih =>
    obtain ⟨hk, hr⟩ := hg e
    rw [List.map_cons, tget, tget, hk]
    split
    · exact hr
    · exact ih

/-- The cause with which a context stands FAULTED, if it does. -/
def faultCause (x : Ctx) : Option Nat := if x.st = .faulted then some x.cause else none

/-- The cause with which context `c` stands FAULTED, if it does. -/
def faultOf (c : Nat) (s : State) : Option Nat := faultCause (ctx s c)

theorem faultOf_eq_some {c x : Nat} {s : State} (h : faultOf c s = some x) : (ctx s c).st = .faulted ∧ (ctx s c).cause = x := by
  unfold faultOf faultCause at h
  split at h
  · exact ⟨‹_›, Option.some.inj h⟩
  · cases h

theorem faultOf_of_ctxs (c : Nat) {s t : State} (h : t.ctxs = s.ctxs) : faultOf c t = faultOf c s := by
  rw [faultOf, faultOf, ctx, ctx, h]

theorem faultOf_of_execView (c : Nat) {s t : State} (h : execView t = execView s) : faultOf c t = faultOf c s :=
  faultOf_of_ctxs c (congrArg (·.1) h)

variable (c : Nat) (s : State)

/-- An update of other parts of the state. -/
@[simp] theorem faultOf_update (pending free regs latch ctr busData busPoison mem poison pins boot fuse flash board sl pwr
    dbg sal tmu sht lanes jobs marks cores hst kv ring cap fe code streams hot adapts mc flt) :
    faultOf c ⟨pending, free, regs, latch, ctr, busData, busPoison, mem, poison, pins, boot, fuse, flash, board, sl, pwr, dbg, sal, tmu,
      sht, lanes, jobs, s.ctxs, marks, cores, hst, kv, ring, cap, fe, code, streams, hot, adapts, mc, flt⟩ = faultOf c s := rfl

@[simp] theorem faultOf_ite (p : Prop) [Decidable p] (a b : State) :
    faultOf c (if p then a else b) = if p then faultOf c a else faultOf c b := apply_ite (faultOf c) p a b

@[simp] theorem faultOf_foldl {α : Type} (f : State → α → State) (h : ∀ s x, faultOf c (f s x) = faultOf c s) (l : List α) (s : State) :
    faultOf c (l.foldl f s) = faultOf c s := foldl_invariant (faultOf c) f h l s

@[simp] theorem faultOf_flag (o b : Nat) : faultOf c (flag s o b) = faultOf c s := by rfl
@[simp] theorem faultOf_wrBytes (a : Nat) (bs : List Byte) : faultOf c (wrBytes s a bs) = faultOf c s := by rfl
@[simp] theorem faultOf_setSq (n : Nat) (r : Option SubRing) : faultOf c (setSq s n r) = faultOf c s := by rfl
@[simp] theorem faultOf_setCq (n : Nat) (r : Option CompRing) : faultOf c (setCq s n r) = faultOf c s := by rfl
@[simp] theorem faultOf_setAdapt (k : Nat) (a : Option Adapt) : faultOf c (setAdapt s k a) = faultOf c s := by rfl
@[simp] theorem faultOf_setCore (n : Nat) (k : Core) : faultOf c (setCore s n k) = faultOf c s := by rfl

@[simp] theorem faultOf_report (typ : Nat) (ln : Option Nat) (src ref : Nat) (payload : List Byte) :
    faultOf c (report s typ ln src ref payload) = faultOf c s := faultOf_of_execView c (execView_report ..)

@[simp] theorem faultOf_raiseVec (v : Option Nat) : faultOf c (raiseVec s v) = faultOf c s :=
  faultOf_of_execView c (execView_raiseVec ..)

/-- A mark wakes WAITING contexts alone. -/
@[simp] theorem faultOf_wakeOn (m v : Nat) : faultOf c (wakeOn s m v) = faultOf c s := by
  refine tget_map_rel (fun x y => faultCause x = faultCause y) {} _ rfl (fun e => ?_) s.ctxs c
  split
  · split
    · rename_i h
      exact ⟨rfl, by simp [faultCause, h.2.2]⟩
    · exact ⟨rfl, rfl⟩
  · exact ⟨rfl, rfl⟩

@[simp] theorem faultOf_addMark (m add : Nat) : faultOf c (addMark s m add) = faultOf c s := by simp [addMark]

@[simp] theorem faultOf_signalExt (m add : Nat) : faultOf c (signalExt s m add) = faultOf c s := by simp [signalExt]

@[simp] theorem faultOf_doReply (n : Nat) (r : CompRing) (p : Reply) : faultOf c (doReply s n r p) = faultOf c s := by simp [doReply]

@[simp] theorem faultOf_postReply (n : Nat) (p : Reply) : faultOf c (postReply s n p) = faultOf c s := by
  unfold postReply
  split <;> simp

@[simp] theorem faultOf_complete (f : Flight) (a b r : Nat) : faultOf c (complete s f a b r) = faultOf c s := by
  unfold complete
  (repeat' split) <;> simp

@[simp] theorem faultOf_finishDeletes (fs : List Flight) : faultOf c (finishDeletes s fs) = faultOf c s := by
  induction fs generalizing s with
  | nil => rfl
  | cons f fs ih =>
    unfold finishDeletes
    (repeat' split) <;> simp [ih]

@[simp] theorem faultOf_completeWhere (p : Flight → Bool) (st d r : Nat) : faultOf c (completeWhere s p st d r) = faultOf c s := by
  simp [completeWhere]

/-! ### Resets and faults of contexts (R331 to R333) -/

@[simp] theorem faultOf_sweepRings : faultOf c (sweepRings s) = faultOf c s :=
  faultOf_foldl c _ (fun s g => by simp [sweepRing, completeAwait]) _ _

@[simp] theorem faultOf_dropDescs (e : Nat) : faultOf c (dropDescs s e) = faultOf c s := by
  refine (faultOf_foldl c _ (fun s f => ?_) _ _).trans (faultOf_setCore ..)
  exact faultOf_of_ctxs c (ctxs_of_editView (editView_unpinFrame 0 s f))

@[simp] theorem faultOf_adaptFault (e : Nat) : faultOf c (adaptFault s e) = faultOf c s := by
  have hm (s : State) (k : Nat) (st : AdSt) (x : Nat) : faultOf c (adaptMove s k st x) = faultOf c s := by
    unfold adaptMove
    split <;> simp
  unfold adaptFault
  (repeat' split) <;> simp [completeAwait, hm]

@[simp] theorem faultOf_staleOwed (e : Nat) : faultOf c (staleOwed s e) = faultOf c s := by
  refine faultOf_foldl c _ (fun s w => ?_) _ _
  split <;> rfl

@[simp] theorem faultOf_resetSteps (e : Nat) : faultOf c (resetSteps s e) = faultOf c s := by
  simp only [resetSteps, abortFor, faultOf_completeWhere, faultOf_staleOwed, faultOf_adaptFault, faultOf_of_ctxs c (ctxs_stepBoundary _ e)]
  exact (faultOf_sweepRings ..).trans (faultOf_dropDescs ..)

theorem faultOf_setCtx (e : Nat) (x : Ctx) : faultOf c (setCtx s e x) = if e = c then faultCause x else faultOf c s := by
  rw [faultOf, ctx_setCtx, apply_ite faultCause]
  rfl

@[simp] theorem execView_countLane (n : Nat) : execView (countLane s n) = execView s := by rfl

@[simp] theorem execView_countEvent (ls : List Nat) (dev : Bool) : execView (countEvent s ls dev).1 = execView s := by
  simp [countEvent, countDev]

@[simp] theorem execView_writeRecord (h : Hit) : execView (writeRecord s h) = execView s := by simp [writeRecord]

@[simp] theorem execView_faultSample (e x : Nat) : execView (faultSample s e x) = execView s := by
  unfold faultSample
  (repeat' split) <;> simp

@[simp] theorem faultOf_writeRecord (h : Hit) : faultOf c (writeRecord s h) = faultOf c s := faultOf_of_execView c (execView_writeRecord ..)

/-- A context that is neither FREE, OPEN nor FAULTED takes the fault; the others keep theirs. -/
theorem faultOf_faultOne (e : Nat) (h : Hit) (hf : (ctx s e).st ≠ .free) (ho : (ctx s e).st ≠ .opened) (hx : (ctx s e).st ≠ .faulted) :
    faultOf c (faultOne s e h) = if e = c then some h.cause else faultOf c s := by
  have hw (t : State) : faultOf c (setCtx t e { ctx t e with wait := none }) = faultOf c t := by
    rw [faultOf_setCtx]
    split
    · rename_i hc
      subst hc
      rfl
    · rfl
  have hs (t : State) (x : Nat) : faultOf c (faultSample t e x) = faultOf c t := faultOf_of_execView c (execView_faultSample ..)
  have he (ls : List Nat) (dev : Bool) : faultOf c (countEvent s ls dev).1 = faultOf c s := faultOf_of_execView c (execView_countEvent ..)
  have hl (t : State) (o : Nat) (bs : List Nat) : faultOf c (flagsOne t o bs) = faultOf c t := rfl
  simp only [faultOne, hf, ho, hx, or_self, if_false, faultOf_ite, hw, faultOf_resetSteps, faultOf_update, hs, faultOf_setCtx, faultOf_flag,
    hl, faultOf_writeRecord, he, ite_self]
  rfl

/-- A fault leaves the cause of a context that stands FAULTED. -/
theorem faultOf_faultOne_faulted (e x : Nat) (h : Hit) (hc : faultOf c s = some x) : faultOf c (faultOne s e h) = some x := by
  by_cases hf : (ctx s e).st = .free ∨ (ctx s e).st = .opened
  · simp only [faultOne, if_pos hf, hc]
  · by_cases hx : (ctx s e).st = .faulted
    · simp only [faultOne, if_neg hf, if_pos hx]
      exact hc
    · have he : e ≠ c := by
        rintro rfl
        exact hx (faultOf_eq_some hc).1
      rw [faultOf_faultOne c s e h (fun h => hf (.inl h)) (fun h => hf (.inr h)) hx, if_neg he, hc]

/-- A fault of a descriptor faults its context with the cause, whatever it brings on the other members of its groups. -/
theorem faultOf_faultDesc (cause addr : Nat) (h : (ctx s c).st = .ready ∨ (ctx s c).st = .running) :
    faultOf c (faultDesc s c cause addr) = some cause := by
  have hmates (l : List Nat) (t : State) (ht : faultOf c t = some cause) :
      faultOf c (l.foldl (fun s m => faultOne s m { cause := 0x0305, tier := 1 }) t) = some cause := by
    induction l generalizing t with
    | nil => exact ht
    | cons m l ih => exact ih _ (faultOf_faultOne_faulted c t m cause _ ht)
  obtain ⟨hf, ho, hx⟩ : (ctx s c).st ≠ .free ∧ (ctx s c).st ≠ .opened ∧ (ctx s c).st ≠ .faulted := by
    obtain h | h := h <;> simp [h]
  refine hmates _ _ ?_
  rw [faultOf_faultOne c s c _ hf ho hx, if_pos rfl]

end Sys2Proof.Machine

namespace Sys2Proof.Machine

/-! ### Issuing a descriptor (R119, R122, R255) -/

theorem core_setCore (s : State) (n k : Nat) (x : Core) : core (setCore s n x) k = if n = k then x else core s k := tget_tset ..

@[simp] theorem core_setCore_self (s : State) (n : Nat) (x : Core) : core (setCore s n x) n = x := by simp [core_setCore]

/-- The unit and the Tray intervals of a descriptor that issues are those of its operation. -/
theorem cand_of_issues {typ c : Nat} {op : Op} {s : State} (h : Pre.issues typ c op s) :
    (cand s c).unit = opUnit op ∧ (cand s c).iv = opIvals s (ctx s c) op := by
  obtain ⟨-, -, -, -, -, hop, -⟩ := h
  unfold cand at hop ⊢
  cases hr : readDesc s (descAt s (ctx s c).pc) with
  | none => simp [hr] at hop
  | some o =>
    simp only [hr, Option.some.injEq] at hop ⊢
    subst hop
    exact ⟨rfl, rfl⟩

/-- The turn of a borrowing class is noted in the Hoist (R260). -/
theorem advance_eq (s : State) (c : Nat) (k : Cand) : ∃ h x, advance s c k =
    setCtx (setCore { s with hst := h } (ctx s c).core { core s (ctx s c).core with cur := some c, stepCtx := x }) c { ctx s c with
      pc := (ctx s c).pc + 128, st := .running, held := false, wait := none, able := none, ended := bit (descFlags k.bs) 0 } := by
  unfold advance
  simp only
  split
  · exact ⟨_, _, rfl⟩
  · exact ⟨s.hst, _, rfl⟩

@[simp] theorem ctx_advance (s : State) (c : Nat) (k : Cand) : ctx (advance s c k) c = { ctx s c with
    pc := (ctx s c).pc + 128, st := .running, held := false, wait := none, able := none, ended := bit (descFlags k.bs) 0 } := by
  obtain ⟨h, x, he⟩ := advance_eq s c k
  rw [he, ctx_setCtx_self]

theorem core_advance (s : State) (c : Nat) (k : Cand) : (core (advance s c k) (ctx s c).core).cur = some c ∧
    (core (advance s c k) (ctx s c).core).q = (core s (ctx s c).core).q := by
  obtain ⟨h, x, he⟩ := advance_eq s c k
  have hc (t : State) (y : Ctx) (n : Nat) : core (setCtx t c y) n = core t n := rfl
  rw [he, hc, core_setCore_self]
  exact ⟨rfl, rfl⟩

theorem advance_keeps (s : State) (c : Nat) (k : Cand) : (advance s c k).mem = s.mem ∧ (advance s c k).kv = s.kv := by
  obtain ⟨h, x, he⟩ := advance_eq s c k
  rw [he]
  exact ⟨rfl, rfl⟩

theorem enqueue_keeps (s : State) (c : Nat) (q : QDesc) : (enqueue s c q).mem = s.mem ∧ (enqueue s c q).kv = s.kv := ⟨rfl, rfl⟩

theorem chargeDram_keeps (s : State) (c n : Nat) : (chargeDram s c n).mem = s.mem ∧ (chargeDram s c n).kv = s.kv :=
  ⟨congrArg (·.1) (memView_chargeDram s c n), congrArg (·.2.2) (execView_chargeDram s c n)⟩

/-- Issuing touches neither memory nor the page manager. -/
theorem issueWith_keeps (s : State) (c : Nat) (k : Cand) (q : QDesc) :
    (issueWith s c k q).mem = s.mem ∧ (issueWith s c k q).kv = s.kv := by
  simp only [issueWith, advance_keeps, enqueue_keeps, chargeDram_keeps, and_self]

/-- A descriptor that issues moves its context on and becomes the last entry of its core's queue. The issue begins in `u`, where the
context and its core are as they are in `s`. -/
theorem issueWith_moves (s u : State) (c : Nat) (k : Cand) (q : QDesc) (hx : ctx u c = ctx s c)
    (hk : core u (ctx s c).core = core s (ctx s c).core) :
    movedOn c s (issueWith u c k q) ∧ (ctx (issueWith u c k q) c).st = .running ∧
    (core (issueWith u c k q) (ctx s c).core).q =
      (startHeads { core s (ctx s c).core with q := (core s (ctx s c).core).q ++ [q] }).q := by
  have hv := execView_chargeDram u (ctx u c).cls q.dram
  replace hx := (ctx_of_execView hv c).trans hx
  replace hk := (core_of_execView hv (ctx s c).core).trans hk
  rw [issueWith]
  generalize chargeDram u (ctx u c).cls q.dram = v at hx hk
  have hx' : ctx (enqueue v c q) c = ctx s c := hx
  have hk' : core (enqueue v c q) (ctx s c).core =
      startHeads { core s (ctx s c).core with q := (core s (ctx s c).core).q ++ [q] } := by
    simp only [enqueue, hx, hk, core_setCore_self]
  obtain ⟨hcur, hq⟩ := core_advance (enqueue v c q) c k
  rw [hx'] at hcur hq
  rw [hk'] at hq
  simp only [movedOn, ctx_advance, hx', hcur, hq, and_self]

end Sys2Proof.Machine

namespace Sys2Proof.Machine

/-! ### Frames for an append, pages for a read (R168, R176 to R178) -/

@[simp] theorem execView_copyBytes (s : State) (src dst n : Nat) : execView (copyBytes s src dst n) = execView s := by rfl

@[simp] theorem execView_copyPage (s : State) (q : Seq) (src dst n : Nat) : execView (copyPage s q src dst n) = execView s := by
  simp [copyPage, copyHead]

@[simp] theorem execView_putKv (s : State) (q : Seq) (p g r : Nat) (v : Bool) (bs : List Byte × List Byte) :
    execView (putKv s q p g r v bs) = execView s := by rfl

@[simp] theorem execView_putPos (s : State) (q : Seq) (l pos : Nat) (k v : List FV) : execView (putPos s q l pos k v) = execView s := by
  unfold putPos
  split <;> simp [putSummary]

/-- Rows are appended in memory alone. -/
@[simp] theorem execView_appendRows (s : State) (x : Ctx) (key : Nat) (a : Attn) : execView (appendRows s x key a) = execView s := by
  unfold appendRows
  split <;> simp

/-- What making blocks of sequence `k` writable leaves: what an edit leaves, and the sequence's lengths. -/
def growView (k : Nat) (s : State) : (Tab Ctx × Tab Core × (Nat → Option Seq)) × Option (List Nat) :=
  (editView k s, (seq s k).map (·.len))

theorem growView_of_execView (k : Nat) {s t : State} (h : execView t = execView s) : growView k t = growView k s := by
  rw [growView, growView, editView_of_execView k h, seq_of_execView h]

theorem growView_setSeq {k : Nat} {s : State} {q r : Seq} (h : seq s k = some q) (hl : r.len = q.len) :
    growView k (setSeq s k (some r)) = growView k s := by
  simp [growView, h, hl]

@[simp] theorem growView_decRef (k : Nat) (s : State) (f : Nat) : growView k (decRef s f) = growView k s := by simp [growView]
@[simp] theorem growView_unpinFrame (k : Nat) (s : State) (f : Nat) : growView k (unpinFrame s f) = growView k s := by simp [growView]

theorem growView_cow (s t : State) (k b : Nat) (h : cow s k b = some t) : growView k t = growView k s := by
  simp only [cow] at h
  split at h
  · cases h
  · rename_i q hq
    split at h
    · rename_i f g _ _
      cases h
      rw [growView_unpinFrame, growView_decRef, growView_of_execView k (execView_rsetN ..)]
      -- the pages are copied on a state whose sequences are still those of `s`
      have hs : seq (incRef (pinFrame s f) g) k = some q := hq
      have hv : growView k (incRef (pinFrame s f) g) = growView k s := rfl
      rw [← hv]
      refine (growView_setSeq ((seq_of_execView ?_ k).trans hs) (by rfl)).trans (growView_of_execView k ?_) <;> simp
    · cases h

theorem growView_ensureBlock (s t : State) (k b : Nat) (h : ensureBlock s k b = some t) : growView k t = growView k s := by
  unfold ensureBlock at h
  split at h
  · cases h
  · rename_i q hq
    split at h
    · cases h; rfl
    · split at h
      · split at h
        · exact growView_cow s t k b h
        · cases h; rfl
      · split at h
        · cases h
        · split at h <;> cases h
          exact growView_setSeq hq rfl

theorem growView_ensureBlocks (k : Nat) (bs : List Nat) (s t : State) (h : ensureBlocks k bs s = some t) :
    growView k t = growView k s := by
  induction bs generalizing s with
  | nil => cases h; rfl
  | cons b bs ih =>
    unfold ensureBlocks at h
    split at h
    · cases h
    · exact (ih _ h).trans (growView_ensureBlock s _ k b ‹_›)

/-- What reading pages leaves: contexts, cores, sequences and memory. -/
def pageView (s : State) : Tab Ctx × Tab Core × Tab (Option Seq) × Mem := (s.ctxs, s.cores, s.kv.seqs, s.mem)

theorem pageView_readPage (q : Seq) (l : Nat) (sn : State × Nat) (b : Nat) : pageView (readPage q l sn b).1 = pageView sn.1 := by
  simp only [readPage]
  split
  · rfl
  · split <;> rfl

theorem pageView_takeReads (s : State) (q : Seq) (l : Nat) (r : Reads) : pageView (takeReads s q l r).1 = pageView s :=
  (foldl_invariant pageView pinFrame (fun _ _ => rfl) _ _).trans
    (foldl_invariant (fun sn : State × Nat => pageView sn.1) (readPage q l) (pageView_readPage q l) _ _)

/-- An ATTN that takes its reads has begun a step of its sequence; context, core and memory are as it found them. -/
theorem step_begun (s : State) (q r : Seq) (l key : Nat) (rd : Reads) (h : seq s key = some r) :
    let u := beginStep (takeReads s q l rd).1 key
    (∀ c, ctx u c = ctx s c) ∧ (∀ n, core u n = core s n) ∧ u.mem = s.mem ∧ seq u key = some { r with inStep := true } := by
  have hv := pageView_takeReads s q l rd
  generalize (takeReads s q l rd).1 = v at hv
  simp only [pageView, Prod.mk.injEq] at hv
  obtain ⟨hx, hk, hs, hm⟩ := hv
  have hq : seq v key = some r := by rw [seq, hs, ← seq, h]
  simp only [beginStep, hq, seq_setSeq_self]
  refine ⟨fun c => ?_, fun n => ?_, hm, trivial⟩
  · exact congrArg (tget {} · c) hx
  · exact congrArg (tget {} · n) hk

end Sys2Proof.Machine

namespace Sys2Proof.Machine

/-! ### ATTN descriptors (R167, R168, R177, R181, R195) -/

theorem exec_attn (c : Nat) (a : Attn) (s : State) (h : Pre.issues 5 c (.attn a) s) : exec (.attn c) s =
    .next (if a.mode = 1 then issueRing s c (cand s c) a else issueAttn s c (cand s c) a) := by
  obtain ⟨hr, hrun, hf, hp, hok, hop, ht, hb, hbeat, hw, -, hrd⟩ := h
  show execAttn c s = _
  simp [execAttn, dispatch, hr, hrun, hf, hp, hok, hop, ht, hb, hbeat, hw, hrd]

theorem runnable_of_issues {typ c : Nat} {op : Op} {s : State} (h : Pre.issues typ c op s) : runnable s c (ctx s c) = true := by
  obtain ⟨-, hrun, -⟩ := h
  exact hrun

/-- A context that is given to the sequencer is READY or RUNNING. -/
theorem st_of_runnable (s : State) (c : Nat) (h : runnable s c (ctx s c) = true) : (ctx s c).st = .ready ∨ (ctx s c).st = .running := by
  simp only [runnable, Bool.and_eq_true, Bool.or_eq_true, decide_eq_true_eq] at h
  obtain ⟨⟨⟨⟨⟨⟨h, -⟩, -⟩, -⟩, -⟩, -⟩, -⟩ := h
  exact h

/-- The flags that a fault of an ATTN sets leave the contexts. -/
theorem kvFault_eq (s : State) (c cause : Nat) : ∃ t, execView t = execView s ∧ kvFault s c cause = faultDesc t c cause 0 :=
  ⟨_, by simp, rfl⟩

theorem kvFault_faults (s : State) (c cause : Nat) (h : runnable s c (ctx s c) = true) :
    (ctx (kvFault s c cause) c).st = .faulted ∧ (ctx (kvFault s c cause) c).cause = cause := by
  obtain ⟨t, hv, ht⟩ := kvFault_eq s c cause
  rw [ht]
  refine faultOf_eq_some (faultOf_faultDesc c t cause 0 ?_)
  rw [ctx_of_execView hv]
  exact st_of_runnable s c h

/-- The blocks that an ATTN's append writes. -/
def appended (a : Attn) : List Nat := if a.append then appendBlocks a.qPos a.q.rows else []

/-- The state with the rows of an ATTN's append stored. -/
def stored (a : Attn) (x : Ctx) (key : Nat) (s : State) : State := if a.append then appendRows s x key a else s

theorem execView_stored (a : Attn) (x : Ctx) (key : Nat) (s : State) : execView (stored a x key s) = execView s := by
  simp [stored]

/-- The ATTN has issued: it reads sequence `q` as it stands in `s1`, its rows stored. -/
abbrev attnIssued (c : Nat) (a : Attn) (q : Seq) (s s1 t : State) : Prop :=
  movedOn c s t ∧ (ctx t c).st = .running ∧ t.mem = s1.mem ∧ seq t (seqKey c a.seq) = some { q with inStep := true } ∧
  queued c (.attn a) s t (fun e => e.barrier = false ∧ e.app = (if a.append then some (seqKey c a.seq, a.layer, a.q.rows) else none) ∧
    e.view = some (withAppend q a) ∧ e.pins = framesOf (withAppend q a) (readsOf s1 (ctx s c) (withAppend q a) a (modeOf a)).blocks)

/-- A LOCAL or COARSE ATTN meets its sequence and no poison: `q0` is the sequence, `u` the state with frames for its append, `s1` that with
the append's rows stored, `q` the sequence there. -/
abbrev attnMeets (c : Nat) (a : Attn) (q0 q : Seq) (s u s1 : State) : Prop :=
  Pre.issues 5 c (.attn a) s ∧ a.mode ≠ 1 ∧ attnCause s (seqKey c a.seq) a = none ∧ seq s (seqKey c a.seq) = some q0 ∧
    cowPoison s q0 (appended a) = none ∧ ensureBlocks (seqKey c a.seq) (appended a) s = some u ∧
    stored a (ctx s c) (seqKey c a.seq) u = s1 ∧ seq s1 (seqKey c a.seq) = some q ∧
    pagePoison s1 (withAppend q a) a.layer (readsOf s1 (ctx s c) (withAppend q a) a (modeOf a)) = none

theorem attn_issues (c : Nat) (a : Attn) (q0 q : Seq) (s u s1 : State) (h : attnMeets c a q0 q s u s1) :
    Gives (.attn c) s (attnIssued c a q s s1) := by
  obtain ⟨hi, hm, hc, h0, hp, hu, hs, hq, hr⟩ := h
  have hg := growView_ensureBlocks _ _ s u hu
  have hv := hs ▸ execView_stored a (ctx s c) (seqKey c a.seq) u
  have hx : ctx s1 c = ctx s c := (ctx_of_execView hv c).trans (ctx_of_editView (congrArg (·.1) hg) c)
  have hk (n : Nat) : core s1 n = core s n := (core_of_execView hv n).trans (core_of_editView (congrArg (·.1) hg) n)
  obtain ⟨hbx, hbk, hbm, hbq⟩ := step_begun s1 (withAppend q a) q a.layer (seqKey c a.seq)
    (readsOf s1 (ctx s c) (withAppend q a) a (modeOf a)) hq
  obtain ⟨hunit, hiv⟩ := cand_of_issues hi
  refine ⟨_, (exec_attn c a s hi).trans (congrArg _ (if_neg hm)), ?_⟩
  simp only [appended] at hp hu
  simp only [stored] at hs
  simp only [modeOf] at hr hbx hbk hbm hbq
  simp only [attnIssued, modeOf, issueAttn, hc, h0, hp, hu, hs, hq, Option.getD_some, hr]
  obtain ⟨hmoved, hrun, hlast⟩ := issueWith_moves s _ c (cand s c) _ ((hbx c).trans hx) ((hbk _).trans (hk _))
  obtain ⟨hmem, hkv⟩ := issueWith_keeps _ c (cand s c) _
  refine ⟨hmoved, hrun, hmem.trans hbm, ?_, _, hlast, rfl, hunit, rfl, rfl, rfl, hiv, rfl, rfl, rfl, rfl⟩
  rw [seq, hkv, ← seq, hbq]

theorem attn_reads (c : Nat) (a : Attn) (q : Seq) (s : State) (h : Pre.attnRead c a q s) : Gives (.attn c) s (fun t =>
    movedOn c s t ∧ (ctx t c).st = .running ∧ t.mem = s.mem ∧ seq t (seqKey c a.seq) = some { q with inStep := true } ∧
    queued c (.attn a) s t (fun e => e.barrier = false ∧ e.app = none ∧ e.view = some q ∧
      e.pins = framesOf q (readsOf s (ctx s c) q a (modeOf a)).blocks)) := by
  obtain ⟨hi, hm, ha, hc, hq, hr⟩ := h
  have hw : withAppend q a = q := by simp [withAppend, ha]
  have hb : appended a = [] := by simp [appended, ha]
  obtain ⟨t, ht, hmv, hrun, hmem, hs, hqd⟩ := attn_issues c a q q s s s
    ⟨hi, hm, hc, hq, by rw [hb]; rfl, by rw [hb]; rfl, if_neg (by simp [ha]), hq, by rwa [hw]⟩
  rw [hw, if_neg (by simp [ha])] at hqd
  exact ⟨t, ht, hmv, hrun, hmem, hs, hqd⟩

theorem attn_appends (c : Nat) (a : Attn) (q0 q : Seq) (s s1 : State) (h : Pre.attnAppend c a q0 q s s1) : Gives (.attn c) s (fun t =>
    movedOn c s t ∧ (ctx t c).st = .running ∧ t.mem = s1.mem ∧ seq t (seqKey c a.seq) = some { q with inStep := true } ∧ q.len = q0.len ∧
    queued c (.attn a) s t (fun e => e.barrier = false ∧ e.app = some (seqKey c a.seq, a.layer, a.q.rows) ∧
      e.view = some (withAppend q a) ∧
      e.pins = framesOf (withAppend q a) (readsOf s1 (ctx s1 c) (withAppend q a) a (modeOf a)).blocks)) := by
  obtain ⟨hi, hm, ha, hc, h0, hp, hs, hq, hr⟩ := h
  obtain ⟨u, hu, rfl⟩ := Option.map_eq_some_iff.mp hs
  have hb : appended a = appendBlocks a.qPos a.q.rows := by simp [appended, ha]
  have hg := growView_ensureBlocks _ _ s u hu
  have hx : ctx u c = ctx s c := ctx_of_editView (congrArg (·.1) hg) c
  rw [hx] at hq hr ⊢
  have hv := execView_appendRows u (ctx s c) (seqKey c a.seq) a
  have hlen : q.len = q0.len := by
    have hl : (seq u (seqKey c a.seq)).map (·.len) = (seq s (seqKey c a.seq)).map (·.len) := congrArg (·.2) hg
    rw [← seq_of_execView hv, hq, h0] at hl
    exact Option.some.inj hl
  rw [ctx_of_execView hv, hx] at hr ⊢
  obtain ⟨t, ht, hmv, hrun, hmem, hs, hqd⟩ := attn_issues c a q0 q s u _
    ⟨hi, hm, hc, h0, by rwa [hb], by rwa [hb], if_pos ha, hq, hr⟩
  rw [if_pos ha] at hqd
  exact ⟨t, ht, hmv, hrun, hmem, hs, hlen, hqd⟩

theorem attn_fails (c : Nat) (a : Attn) (x : Nat) (s : State) (h : Pre.attnBad c a x s) :
    Gives (.attn c) s (fun t => (ctx t c).st = .faulted ∧ (ctx t c).cause = x) := by
  obtain ⟨hi, hm, hc⟩ := h
  have hf : issueAttn s c (cand s c) a = kvFault s c x := by simp only [issueAttn, hc]
  refine ⟨_, (exec_attn c a s hi).trans (by rw [if_neg hm, hf]), ?_⟩
  exact kvFault_faults s c x (runnable_of_issues hi)

theorem attn_stranger (c : Nat) (a : Attn) (s : State) (h : Pre.attnStranger c a s) :
    Gives (.attn c) s (fun t => (ctx t c).st = .faulted ∧ (ctx t c).cause = 0x0301) := by
  obtain ⟨hi, hm, hg⟩ := h
  have hf : issueRing s c (cand s c) a = kvFault s c 0x0301 := by
    unfold issueRing
    cases hr : group s a.seq with
    | none => rfl
    | some r =>
      rw [hr, Option.all_some] at hg
      exact if_pos hg
  refine ⟨_, (exec_attn c a s hi).trans (by rw [if_pos hm, hf]), ?_⟩
  exact kvFault_faults s c 0x0301 (runnable_of_issues hi)

theorem attn_waits (c : Nat) (a : Attn) (r : RGroup) (s : State) (h : Pre.attnRing c a r s) : Gives (.attn c) s (fun t =>
    movedOn c s t ∧ (ctx t c).st = .waiting ∧ (ctx t c).wait = some (.barrier a.seq) ∧ t.mem = s.mem ∧
    queued c (.attn a) s t (fun e => e.barrier = true ∧ e.group = some a.seq)) := by
  obtain ⟨hi, hm, hg, hr⟩ := h
  obtain ⟨hunit, hiv⟩ := cand_of_issues hi
  refine ⟨_, (exec_attn c a s hi).trans (congrArg _ (if_pos hm)), ?_⟩
  simp only [issueRing, hg, hr, Bool.not_true, Bool.false_eq_true, if_false]
  obtain ⟨⟨hpc, hheld, hcur⟩, -, hlast⟩ := issueWith_moves s s c (cand s c) _ rfl rfl
  obtain ⟨hmem, -⟩ := issueWith_keeps s c (cand s c) _
  have hc (t : State) (x : Ctx) (n : Nat) : core (setCtx t c x) n = core t n := rfl
  simp only [movedOn, queued, ctx_setCtx_self, setCtx_mem, hc]
  exact ⟨⟨hpc, hheld, hcur⟩, trivial, trivial, hmem, _, hlast, rfl, hunit, rfl, rfl, rfl, hiv, rfl, rfl⟩

/-- Settles O37: an ATTN that meets its sequence reads it in a step that it begins, its append in memory but not yet in the lengths; one
that fails a check faults its context, and one of a ring waits at the barrier of its group. -/
theorem attention : Obligations.Attention := ⟨attn_reads, attn_appends, attn_fails, attn_stranger, attn_waits⟩

end Sys2Proof.Machine

namespace Sys2Proof.Machine

/-! ### Bytes of memory and parameters at an offset -/

theorem drop_rdBytes (s : State) (o n a : Nat) : (rdBytes s a n).drop o = rdBytes s (a + o) (n - o) := by
  induction o generalizing n a with
  | zero => rfl
  | succ o ih =>
    cases n with
    | zero => simp [rdBytes]
    | succ n =>
      rw [rdBytes, List.drop_succ_cons, ih, Nat.add_sub_add_right, Nat.add_assoc, Nat.add_comm 1]

theorem take_rdBytes (s : State) (k n a : Nat) (h : k ≤ n) : (rdBytes s a n).take k = rdBytes s a k := by
  induction k generalizing n a with
  | zero => rfl
  | succ k ih =>
    obtain ⟨m, rfl⟩ : ∃ m, n = m + 1 := ⟨n - 1, by omega⟩
    rw [rdBytes, List.take_succ_cons, ih m _ (by omega), rdBytes]

/-- A field of a block of memory is what memory holds at its address. -/
theorem le_rdBytes (s : State) (a n o k : Nat) (h : o + k ≤ n) : le (rdBytes s a n) o k = rdLe s (a + o) k := by
  rw [le, drop_rdBytes, take_rdBytes s k _ _ (by omega), rdLe]

/-! ### The state on which a command of a context begins -/

theorem kv_began (c : Cmd) (s : State) : (began c s).kv = s.kv := by
  have h := congrArg State.kv (began_rest c s)
  exact h

theorem seq_began (c : Cmd) (s : State) (k : Nat) : seq (began c s) k = seq s k := by rw [seq, kv_began, ← seq]

theorem ctx_began (c : Cmd) (s : State) (n : Nat) : ctx (began c s) n = ctx s n := by
  have h := congrArg (fun t => ctx t n) (began_rest c s)
  exact h

theorem rdBytes_began (c : Cmd) (s : State) (a n : Nat) : rdBytes (began c s) a n = rdBytes s a n :=
  rdBytes_mem s _ (by have h := congrArg State.mem (began_rest c s); exact h) a n

theorem readsPoison_began (c : Cmd) (s : State) (a n : Nat) : readsPoison (began c s) a n = readsPoison s a n := by
  rw [readsPoison, poisonIn_began, ← readsPoison]

theorem seqOfParam_began (c : Cmd) (s : State) (bs : List Byte) : seqOfParam (began c s) bs = seqOfParam s bs := by
  simp only [seqOfParam, sigmaTable, rdLe, rdBytes_began]

theorem seqRangeOk_began (c : Cmd) (s : State) (bs : List Byte) : seqRangeOk (began c s) bs = seqRangeOk s bs := by
  have h := congrArg (fun t => seqRangeOk t bs) (began_rest c s)
  exact h

theorem decRangeOk_began (c : Cmd) (s : State) (p : Bool) (bs : List Byte) : decRangeOk (began c s) p bs = decRangeOk s p bs := by
  have h := congrArg (fun t => decRangeOk t p bs) (began_rest c s)
  exact h

theorem shareBad_began (c : Cmd) (s : State) (n : Nat) (q : Seq) (src : Option Seq) : shareBad (began c s) n q src = shareBad s n q src := by
  have h := congrArg (fun t => shareBad t n q src) (began_rest c s)
  exact h

/-- A context that a command may name is not denied to it (R252). -/
theorem hostDenied_eq_false (c : Cmd) (s : State) (n : Nat) (h : MayName c n) : hostDenied (flightOf c s) n = false := by
  obtain h | h := h
  · simp [hostDenied, flightOf, h]
  · simp [hostDenied, Nat.not_lt.mpr h]

theorem seqKey_injective (c : Nat) {i j : Nat} (h : seqKey c i = seqKey c j) : i = j := Nat.add_left_cancel h

/-! ### Opening sequences (R166, R183) -/

/-- Sequences written one after another: the last word on a key is its own. -/
theorem seq_foldl_setSeq (g : Nat → Nat) (v : Nat → Option Seq) (hg : ∀ i j, g i = g j → i = j) (l : List Nat) (s : State) :
    (∀ i ∈ l, seq (l.foldl (fun u i => setSeq u (g i) (v i)) s) (g i) = v i) ∧
    ∀ j, (∀ i ∈ l, j ≠ g i) → seq (l.foldl (fun u i => setSeq u (g i) (v i)) s) j = seq s j := by
  induction l generalizing s with
  | nil => exact ⟨nofun, fun _ _ => rfl⟩
  | cons x l ih =>
    obtain ⟨hin, hout⟩ := ih (setSeq s (g x) (v x))
    rw [List.foldl_cons]
    refine ⟨fun i hi => ?_, fun j hj => ?_⟩
    · by_cases hl : i ∈ l
      · exact hin i hl
      · obtain rfl : i = x := (List.mem_cons.mp hi).resolve_right hl
        have hne : ∀ j ∈ l, g i ≠ g j := fun j hj h => hl (hg i j h ▸ hj)
        rw [hout (g i) hne, seq_setSeq_self]
    · rw [hout j fun i hi => hj i (List.mem_cons_of_mem x hi), seq_setSeq, if_neg (hj x List.mem_cons_self).symm]

/-- They change the page manager alone. -/
theorem foldl_setSeq_rest (g : Nat → Nat) (v : Nat → Option Seq) (x : Kv) (l : List Nat) (s : State) :
    { l.foldl (fun u i => setSeq u (g i) (v i)) s with kv := x } = { s with kv := x } := by
  induction l generalizing s with
  | nil => rfl
  | cons i l ih => exact ih (setSeq s (g i) (v i))

/-- Member `i` of the group that a SEQ_OPEN opens. -/
def memberOpened (s : State) (param k i : Nat) : Option Seq :=
  some { seqOfParam s (rdBytes s param 64) with leader := k, dec := if i = 0 then seqDec s param else none }

/-- The state in which the group of a SEQ_OPEN is open. -/
def seqsOpened (c : Cmd) (param n k : Nat) (s : State) : State :=
  (List.range (seqBeam s param)).foldl (fun u i => setSeq u (seqKey n (k + i)) (memberOpened s param k i)) (began c s)

theorem exec_seqOpen (c : Cmd) (param n k : Nat) (s : State) (h : Pre.seqOpen c param n k s) :
    exec (.seqOpen c param n k) s = done c s (seqsOpened c param n k s) 0 := by
  obtain ⟨hg, hn, hp, hc, hr, hh, hpo, hok, hdec, hb, hk, hst, hfree⟩ := h
  have hl : le (rdBytes s param 64) 0x20 8 = rdLe s (param + 0x20) 8 := le_rdBytes s param 64 0x20 8 (by decide)
  show execSeqOpen c param n k s = _
  rw [execSeqOpen, accept_given s c _ _ _ hg (by simp only [badByte, hp, hc, hk, decide_true]; rfl)]
  have hd := hostDenied_eq_false c s n hn
  have hf (l : List Nat) : hostFail (flightOf c s).c l = false := by simp [hostFail, flightOf, hh]
  -- a decode block that is named passes its checks
  have hblock : (decide (rdLe s (param + 0x20) 8 ≠ 0) && !rangeOk s (rdLe s (param + 0x20) 8) 64) = false ∧
      (decide (rdLe s (param + 0x20) 8 ≠ 0) && readsPoison s (rdLe s (param + 0x20) 8) 64) = false ∧
      (decide (rdLe s (param + 0x20) 8 ≠ 0) && !decRangeOk s (seqOfParam s (rdBytes s param 64)).paged
        (rdBytes s (rdLe s (param + 0x20) 8) 64)) = false := by
    obtain h | ⟨hr, hpo, hok⟩ := hdec
    · simp [h]
    · simp [hr, hpo, hok]
  simp only [seqOpen, hd, hf, rdBytes_began, hl, rangeOk_began, hr, readsPoison_began, hpo, seqRangeOk_began, hok, decRangeOk_began,
    seqOfParam_began, ctx_began, hst, seq_began, hblock, Bool.not_true, Bool.or_false, Bool.and_false, Bool.false_eq_true, if_false]
  have hbusy (b : Nat) (h : ∀ i, i < b → seq s (seqKey n (k + i)) = none) :
      ¬ ((List.range b).any fun i => (seq s (seqKey n (k + i))).isSome) = true := by simpa using h
  simp only [seqBeam, seqDec] at hb hfree
  simp only [seqsOpened, memberOpened, seqBeam, seqDec]
  generalize (if rdLe s (param + 0x20) 8 = 0 then none else some (decOfParam (rdBytes s (rdLe s (param + 0x20) 8) 64))) = d at hb hfree ⊢
  cases d <;> exact congrArg Host.Outcome.next ((if_neg (Nat.not_lt.mpr hb)).trans (if_neg (hbusy _ hfree)))

theorem seqOpen_opens (c : Cmd) (param n k : Nat) (s : State) (h : Pre.seqOpen c param n k s) :
    Does (.seqOpen c param n k) c s 0 (fun u =>
      (∀ i, i < seqBeam s param → seq u (seqKey n (k + i)) = some { seqOfParam s (rdBytes s param 64) with
        leader := k, dec := if i = 0 then seqDec s param else none }) ∧
      (∀ j, (∀ i, i < seqBeam s param → j ≠ seqKey n (k + i)) → seq u j = seq s j) ∧ { u with kv := s.kv } = began c s) := by
  obtain ⟨hin, hout⟩ := seq_foldl_setSeq (fun i => seqKey n (k + i)) (memberOpened s param k)
    (fun i j h => Nat.add_left_cancel (seqKey_injective n h)) (List.range (seqBeam s param)) (began c s)
  refine ⟨seqsOpened c param n k s, exec_seqOpen c param n k s h, fun i hi => hin i (List.mem_range.mpr hi), fun j hj => ?_, ?_⟩
  · rw [← seq_began c s]
    exact hout j fun i hi => hj i (List.mem_range.mp hi)
  · have hk : { began c s with kv := s.kv } = began c s := by rw [← kv_began c s]
    rw [← hk]
    unfold seqsOpened
    exact foldl_setSeq_rest ..

end Sys2Proof.Machine

namespace Sys2Proof.Machine

/-! ### What edits make of a sequence (R180, R181) -/

/-- A frame that a page table reads at a block is listed there. -/
theorem mem_of_tget {t : Tab (Option Nat)} {b f : Nat} (h : tget none t b = some f) : (b, some f) ∈ t := by
  induction t with
  | nil => cases h
  | cons e t ih =>
    obtain ⟨j, v⟩ := e
    rw [tget] at h
    split at h
    · rename_i hj
      rw [hj, h]
      exact List.mem_cons_self
    · exact List.mem_cons_of_mem _ (ih h)

/-- Of the blocks at or beyond position `n`, no listed one is left, and none comes. -/
theorem seq_dropBlocks (k n : Nat) (l : List (Nat × Option Nat)) (s : State) (q : Seq) (h : seq s k = some q) :
    ∃ pt, seq (dropBlocks k n l s) k = some { q with pt := pt } ∧
      ∀ b, n ≤ 64 * b → (tget none q.pt b = none ∨ ∃ f, (b, some f) ∈ l) → tget none pt b = none := by
  induction l generalizing s q with
  | nil => exact ⟨q.pt, h, fun b _ hb => hb.resolve_right (by simp)⟩
  | cons e l ih =>
    obtain ⟨i, f⟩ := e
    cases f with
    | none =>
      obtain ⟨pt, hs, hpt⟩ := ih s q h
      refine ⟨pt, by simpa [dropBlocks, h] using hs, fun b hn hb => hpt b hn ?_⟩
      simpa using hb
    | some f =>
      by_cases hi : n ≤ 64 * i
      · obtain ⟨pt, hs, hpt⟩ := ih (decRef (setSeq s k (some (setPt q i none))) f) (setPt q i none) (by simp)
        refine ⟨pt, by simp only [dropBlocks, h, if_pos hi]; exact hs, fun b hn hb => hpt b hn ?_⟩
        by_cases hbi : i = b
        · exact .inl (by simp [setPt, hbi])
        · have hne : b ≠ i := Ne.symm hbi
          simpa [setPt, tget_tset_ne _ _ _ _ _ hbi, hne] using hb
      · obtain ⟨pt, hs, hpt⟩ := ih s q h
        refine ⟨pt, by simpa [dropBlocks, h, hi] using hs, fun b hn hb => hpt b hn ?_⟩
        have hne : b ≠ i := by omega
        simpa [hne] using hb

theorem seq_truncateSeq (k n : Nat) (s : State) (q : Seq) (h : seq s k = some q) :
    ∃ pt, seq (truncateSeq s k n) k = some { q with len := q.len.map (min n), pt := pt } ∧ ∀ b, n ≤ 64 * b → tget none pt b = none := by
  obtain ⟨pt, hs, hpt⟩ := seq_dropBlocks k n q.pt (setSeq s k (some { q with len := q.len.map (min n) })) _ (seq_setSeq_self ..)
  refine ⟨pt, by simpa [truncateSeq, h] using hs, fun b hn => hpt b hn ?_⟩
  cases hb : tget none q.pt b with
  | none => exact .inl rfl
  | some f => exact .inr ⟨f, mem_of_tget hb⟩

/-- A sequence that shares blocks with a source whose table reads as `p`, and that holds nothing else, reads as `p` in them. The source
may be the sequence itself. -/
theorem seq_shareBlocks (src k : Nat) (p : Nat → Option Nat) (l : List Nat) (s : State) (a q : Seq) (ha : seq s src = some a)
    (hq : seq s k = some q) (hp : ∀ b, tget none a.pt b = p b) (hsub : ∀ b, tget none q.pt b = none ∨ tget none q.pt b = p b) :
    ∃ pt, seq (shareBlocks src k l s) k = some { q with pt := pt } ∧
      ∀ b, b ∈ l ∨ tget none q.pt b = p b → tget none pt b = p b := by
  induction l generalizing s a q with
  | nil => exact ⟨q.pt, hq, fun b hb => hb.resolve_left (by simp)⟩
  | cons i l ih =>
    cases hi : tget none a.pt i with
    | none =>
      obtain ⟨pt, hs, hpt⟩ := ih s a q ha hq hp hsub
      refine ⟨pt, by simpa [shareBlocks, ha, hq, hi] using hs, fun b hb => hpt b ?_⟩
      by_cases hbi : b = i
      · subst hbi
        have hn : p b = none := (hp b).symm.trans hi
        exact .inr ((hsub b).elim (fun h => h.trans hn.symm) id)
      · simpa [hbi] using hb
    | some f =>
      have hf : p i = some f := (hp i).symm.trans hi
      have hset (b : Nat) : tget none (setPt q i (some f)).pt b = if i = b then p b else tget none q.pt b := by
        rw [setPt, tget_tset]
        split
        · rename_i h
          rw [← h, hf]
        · rfl
      obtain ⟨a', ha', hp'⟩ : ∃ a', seq (incRef (setSeq s k (some (setPt q i (some f)))) f) src = some a' ∧
          ∀ b, tget none a'.pt b = p b := by
        by_cases hk : k = src
        · subst hk
          obtain rfl : a = q := Option.some.inj (ha.symm.trans hq)
          exact ⟨_, by rw [seq_incRef, seq_setSeq_self], fun b => by rw [hset, hp, ite_self]⟩
        · exact ⟨a, by rw [seq_incRef, seq_setSeq, if_neg hk, ha], hp⟩
      obtain ⟨pt, hs, hpt⟩ := ih _ a' (setPt q i (some f)) ha' (by rw [seq_incRef, seq_setSeq_self]) hp' (fun b => by
        rw [hset]
        split
        · exact .inr rfl
        · exact hsub b)
      refine ⟨pt, by simp only [shareBlocks, ha, hq, hi]; exact hs, fun b hb => hpt b ?_⟩
      by_cases hib : i = b
      · exact .inr (by rw [hset, if_pos hib])
      · rw [hset, if_neg hib]
        simpa [Ne.symm hib] using hb

/-- An empty sequence that shares the first `m` positions of `a` has the length `m` and the frames of `a` there. -/
theorem seq_shareSeq (src k m : Nat) (s : State) (a q : Seq) (ha : seq s src = some a) (hq : seq s k = some q) (he : q.pt = []) :
    ∃ pt, seq (shareSeq s src k m) k = some { q with len := List.replicate q.layers m, pt := pt } ∧
      ∀ b, b < ceilDiv m 64 → tget none pt b = tget none a.pt b := by
  obtain ⟨pt, hs, hpt⟩ := seq_shareBlocks src k (tget none a.pt) (List.range (ceilDiv m 64)) s a q ha hq (fun _ => rfl)
    (fun b => .inl (by rw [he]; rfl))
  exact ⟨pt, by simp [shareSeq, hs], fun b hb => hpt b (.inl (List.mem_range.mpr hb))⟩

/-! ### An edit that is not deferred (R181) -/

/-- The sequence in the new generation that an edit begins. -/
def newGen (q : Seq) : Seq := { q with gen := (q.gen + 1) % 2 ^ 32, defer := [] }

theorem seq_markBound (s : State) (k : Nat) : seq (markBound s k) k = (seq s k).map (fun q => { q with bound := repLen q }) := by
  unfold markBound
  cases h : seq s k with
  | none => simp [h]
  | some q => simp

/-- What an edit gives is what applying it to the new generation gives, but for the length noted at the boundary. -/
theorem seq_runEdits (s : State) (k : Nat) (q : Seq) (e : KvEdit) (h : seq s k = some q) :
    seq (runEdits s k [e]) k = (seq (applyEdit (setSeq s k (some (newGen q))) k e) k).map (fun r => { r with bound := repLen r }) := by
  have he : runEdits s k [e] =
      markBound (editReport (applyEdit (setSeq s k (some (newGen q))) k e) k ((q.gen + 1) % 2 ^ 32) q.steps e) k := by
    simp only [runEdits, h]
    rfl
  rw [he, seq_markBound, seq_of_execView (execView_editReport ..)]

theorem giveEdit_now (s : State) (k : Nat) (q : Seq) (e : KvEdit) (h : seq s k = some q) (hi : q.inStep = false) :
    giveEdit s k e = (runEdits s k [e], false) := by
  simp [giveEdit, h, hi]

theorem giveEdit_deferred (s : State) (k : Nat) (q : Seq) (e : KvEdit) (h : seq s k = some q) (hi : q.inStep = true) :
    giveEdit s k e = (kept s k q e, true) := by
  simp only [giveEdit, h, if_pos hi]

/-! ### Closing sequences (R180, R183) -/

/-- Closing a sequence that is in no step, or none, leaves none, and the other sequences. -/
theorem giveEdit_close (s : State) (k : Nat) (h : (seq s k).all (fun r => !r.inStep) = true) :
    (giveEdit s k .close).2 = false ∧ ∀ j, seq (giveEdit s k .close).1 j = if j = k then none else seq s j := by
  cases hq : seq s k with
  | none =>
    have he : giveEdit s k .close = (s, false) := by simp [giveEdit, hq]
    rw [he]
    refine ⟨rfl, fun j => ?_⟩
    split
    · rename_i hj
      rw [hj, hq]
    · rfl
  | some q =>
    rw [giveEdit_now s k q .close hq (by simpa [hq] using h)]
    refine ⟨rfl, fun j => ?_⟩
    split
    · rename_i hj
      rw [hj, seq_runEdits s k q .close hq, applyEdit, closeSeq, seq_setSeq_self]
      rfl
    · exact seq_of_editView (editView_runEdits ..) j ‹_›

/-- SEQ_CLOSE closes the members of the group one by one; whether a close was deferred. -/
def closeMember (n k : Nat) (r : State × Bool) (i : Nat) : State × Bool :=
  ((giveEdit r.1 (seqKey n (k + i)) .close).1, r.2 || (giveEdit r.1 (seqKey n (k + i)) .close).2)

theorem foldl_closeMember (n k : Nat) (l : List Nat) (s : State)
    (h : ∀ i ∈ l, (seq s (seqKey n (k + i))).all (fun r => !r.inStep) = true) :
    (l.foldl (closeMember n k) (s, false)).2 = false ∧
    ∀ j, seq (l.foldl (closeMember n k) (s, false)).1 j = if ∃ i ∈ l, j = seqKey n (k + i) then none else seq s j := by
  induction l generalizing s with
  | nil => exact ⟨rfl, fun j => by simp⟩
  | cons x l ih =>
    obtain ⟨hd, hs⟩ := giveEdit_close s (seqKey n (k + x)) (h x List.mem_cons_self)
    have hstep : closeMember n k (s, false) x = ((giveEdit s (seqKey n (k + x)) .close).1, false) := by
      rw [closeMember, hd, Bool.or_false]
    obtain ⟨hd', hs'⟩ := ih (giveEdit s (seqKey n (k + x)) .close).1 (fun i hi => by
      rw [hs]
      split
      · rfl
      · exact h i (List.mem_cons_of_mem x hi))
    rw [List.foldl_cons, hstep]
    refine ⟨hd', fun j => ?_⟩
    rw [hs', hs]
    by_cases hj : j = seqKey n (k + x) <;> simp [hj]

theorem seqClose_closes (c : Cmd) (n k : Nat) (q : Seq) (s : State) (h : Pre.seqClose c n k q s) :
    Does (.seqClose c n k) c s 0 (fun u =>
      (∀ i, i < beamOf q → seq u (seqKey n (k + i)) = none) ∧
      (∀ j, (∀ i, i < beamOf q → j ≠ seqKey n (k + i)) → seq u j = seq s j)) := by
  obtain ⟨hg, hn, hc, hk, hq, hl, hm⟩ := h
  obtain ⟨hd, hs⟩ := foldl_closeMember n k (List.range (beamOf q)) (began c s) (fun i hi => by
    rw [seq_began]
    exact hm i (List.mem_range.mp hi))
  refine ⟨((List.range (beamOf q)).foldl (closeMember n k) (began c s, false)).1, ?_, fun i hi => ?_, fun j hj => ?_⟩
  · show execSeqClose c n k s = _
    rw [execSeqClose, accept_given s c _ _ _ hg (by simp [badByte, hc, hk])]
    have hr : seqClose (began c s) (flightOf c s) n k = complete ((List.range (beamOf q)).foldl (closeMember n k) (began c s, false)).1
        (flightOf c s) (if ((List.range (beamOf q)).foldl (closeMember n k) (began c s, false)).2 then stDeferred else stOk) 0 0 := by
      simp only [seqClose, seq_began, hq, hl, ne_eq, not_true_eq_false, if_false]
      rfl
    rw [hr, hd, hostDenied_eq_false c s n hn]
    rfl
  · rw [hs, if_pos ⟨i, List.mem_range.mpr hi, rfl⟩]
  · rw [hs, if_neg, seq_began]
    rintro ⟨i, hi, rfl⟩
    exact hj i (List.mem_range.mp hi) rfl

end Sys2Proof.Machine

namespace Sys2Proof.Machine

/-! ### PT_EDIT (R180, R181) -/

/-- The edit that a PT_EDIT gives its sequence; the source of a SHARE is sequence `src`. -/
def editOf (op m src : Nat) : KvEdit := if op = 0 then .share src m else if op = 1 then .truncate m else .release

/-- A PT_EDIT of sequence `q` names a source that it may share, or a length that the sequence can have (R180). -/
def EditFits (s : State) (m x y op : Nat) (q : Seq) : Prop :=
  op < 3 ∧ (op = 0 → x < 0x4000 ∧ y < 1024) ∧
    (if op = 0 then shareBad s m q ((seq s (seqKey x y)).filter (fun a => decide (a.leader = y)))
     else if op = 1 ∧ q.maxLen < m then some stBadParam else none) = none

theorem editFits_share {c : Cmd} {m n k x y : Nat} {a q : Seq} {s : State} (h : Pre.ptShare c m n k x y a q s) : EditFits s m x y 0 q := by
  obtain ⟨-, hx, hy, ha, hl, hb⟩ := h
  refine ⟨by decide, fun _ => ⟨hx, hy⟩, ?_⟩
  have hsrc : (some a).filter (fun a => decide (a.leader = y)) = some a := Option.filter_some_pos (by simpa using hl)
  rw [if_pos rfl, ha, hsrc, hb]

theorem editFits_truncate {m : Nat} {q : Seq} (s : State) (x y : Nat) (h : m ≤ q.maxLen) : EditFits s m x y 1 q :=
  ⟨by decide, nofun, by simp [Nat.not_lt.mpr h]⟩

theorem editFits_release (s : State) (m x y : Nat) (q : Seq) : EditFits s m x y 2 q := ⟨by decide, nofun, rfl⟩

theorem seq_of_ptEdit {c : Cmd} {m n k : Nat} {q : Seq} {s : State} (h : Pre.ptEdit c m n k q s) :
    seq (began c s) (seqKey n k) = some q := by
  obtain ⟨-, -, -, -, -, hq, -⟩ := h
  rw [seq_began, hq]

/-- The generation of a sequence. -/
def genOf (s : State) (k : Nat) : Nat := match seq s k with | some q => q.gen | none => 0

/-- A PT_EDIT that passes its checks gives its sequence the edit, and tells whether it was deferred. -/
theorem exec_ptEdit (c : Cmd) (m n k x y op : Nat) (q : Seq) (s : State) (h : Pre.ptEdit c m n k q s) (hf : EditFits s m x y op q) :
    exec (.ptEdit c m n k x y op) s =
      let r := giveEdit (began c s) (seqKey n k) (editOf op m (seqKey x y))
      .next (if r.2 then complete r.1 (flightOf c s) stDeferred 0 0 else complete r.1 (flightOf c s) stOk 0 (genOf r.1 (seqKey n k))) := by
  obtain ⟨hg, hn, hm, hc, hk, hq, hl⟩ := h
  obtain ⟨hop, hsrc, hbad⟩ := hf
  have hx : op ≠ 0 ∨ x < 0x4000 := (Nat.eq_zero_or_pos op).elim (fun h => .inr (hsrc h).1) (fun h => .inl (Nat.ne_of_gt h))
  have hy : op ≠ 0 ∨ y < 1024 := (Nat.eq_zero_or_pos op).elim (fun h => .inr (hsrc h).2) (fun h => .inl (Nat.ne_of_gt h))
  show execPtEdit c m n k x y op s = _
  rw [execPtEdit, accept_given s c _ _ _ hg (by simp only [badByte, hm, hc, hk, hx, hy, hop, decide_true]; rfl)]
  simp only [hostDenied_eq_false c s n hn, ptEdit, seq_began, hq, hl, shareBad_began, hbad, ne_eq, not_true_eq_false, if_false,
    Bool.false_eq_true]
  rfl

/-- An edit that is not deferred has its effect in a new generation, which is its RESULT, and on no other sequence. -/
theorem ptEdit_applies (c : Cmd) (m n k x y op : Nat) (q : Seq) (s : State) (len : List Nat) (pt : Tab (Option Nat))
    (p : Nat → Option Nat → Prop) (h : Pre.ptEdit c m n k q s) (hf : EditFits s m x y op q) (hi : q.inStep = false)
    (hr : seq (applyEdit (setSeq (began c s) (seqKey n k) (some (newGen q))) (seqKey n k) (editOf op m (seqKey x y))) (seqKey n k) =
      some { newGen q with len := len, pt := pt }) (hp : ∀ b, p b (tget none pt b)) :
    Does (.ptEdit c m n k x y op) c s ((q.gen + 1) % 2 ^ 32) (fun u => Edited q s u (seqKey n k) len p) := by
  have hq := seq_of_ptEdit h
  have hu := seq_runEdits (began c s) (seqKey n k) q (editOf op m (seqKey x y)) hq
  rw [hr, Option.map_some] at hu
  refine ⟨runEdits (began c s) (seqKey n k) [editOf op m (seqKey x y)], ?_, ⟨_, hu, rfl, rfl, hp⟩, fun j hj => ?_⟩
  · rw [exec_ptEdit c m n k x y op q s h hf, giveEdit_now _ _ q _ hq hi]
    simp only [genOf, hu, Bool.false_eq_true, if_false]
    rfl
  · rw [seq_of_editView (editView_runEdits ..) j hj, seq_began]

/-- An edit of a sequence in a step is kept for its boundary. -/
theorem ptEdit_defers (c : Cmd) (m n k x y op : Nat) (q : Seq) (s : State) (h : Pre.ptEdit c m n k q s) (hf : EditFits s m x y op q)
    (hi : q.inStep = true) : exec (.ptEdit c m n k x y op) s =
      replied c s (kept (began c s) (seqKey n k) q (editOf op m (seqKey x y))) stDeferred 0 0 := by
  have hq := seq_of_ptEdit h
  rw [exec_ptEdit c m n k x y op q s h hf, giveEdit_deferred _ _ q _ hq hi]
  rfl

/-- Only an empty sequence may share (R180). -/
theorem pt_of_shareBad {s : State} {m : Nat} {q a : Seq} (h : shareBad s m q (some a) = none) : q.pt = [] := by
  simp only [shareBad] at h
  split at h
  · cases h
  · split at h
    · cases h
    · rename_i hb
      simp only [Bool.not_eq_true, Bool.or_eq_false_iff, Bool.not_eq_false', Bool.and_eq_true] at hb
      obtain ⟨⟨⟨hpt, -⟩, -⟩, -⟩ := hb
      exact List.isEmpty_iff.mp hpt

theorem ptShare_applies (c : Cmd) (m n k x y : Nat) (a q : Seq) (s : State) (h : Pre.ptShare c m n k x y a q s) (hi : q.inStep = false) :
    Does (.ptEdit c m n k x y 0) c s ((q.gen + 1) % 2 ^ 32) (fun u =>
      Edited q s u (seqKey n k) (List.replicate q.layers m) (fun b f => b < ceilDiv m 64 → f = tget none a.pt b)) := by
  have hf := editFits_share h
  obtain ⟨he, -, -, ha, -, hb⟩ := h
  -- the source reads the same where it is the edited sequence itself
  obtain ⟨a', ha', hpa⟩ : ∃ a', seq (setSeq (began c s) (seqKey n k) (some (newGen q))) (seqKey x y) = some a' ∧ a'.pt = a.pt := by
    rw [seq_setSeq]
    split
    · rename_i hk
      have hq := seq_of_ptEdit he
      rw [hk, seq_began, ha] at hq
      obtain rfl : a = q := Option.some.inj hq
      exact ⟨_, rfl, rfl⟩
    · exact ⟨a, by rw [seq_began, ha], rfl⟩
  obtain ⟨pt, hs, hp⟩ := seq_shareSeq (seqKey x y) (seqKey n k) m _ a' (newGen q) ha' (seq_setSeq_self ..) (pt_of_shareBad hb)
  exact ptEdit_applies c m n k x y 0 q s _ pt _ he hf hi hs (fun b hb => hpa ▸ hp b hb)

theorem ptTruncate_applies (c : Cmd) (m n k x y : Nat) (q : Seq) (s : State) (h : Pre.ptTruncate c m n k q s) (hi : q.inStep = false) :
    Does (.ptEdit c m n k x y 1) c s ((q.gen + 1) % 2 ^ 32) (fun u =>
      Edited q s u (seqKey n k) (q.len.map (min m)) (fun b f => m ≤ 64 * b → f = none)) := by
  obtain ⟨he, hm⟩ := h
  obtain ⟨pt, hs, hp⟩ := seq_truncateSeq (seqKey n k) m _ (newGen q) (seq_setSeq_self (began c s) ..)
  exact ptEdit_applies c m n k x y 1 q s _ pt _ he (editFits_truncate s x y hm) hi hs hp

theorem ptRelease_applies (c : Cmd) (m n k x y : Nat) (q : Seq) (s : State) (h : Pre.ptEdit c m n k q s) (hi : q.inStep = false) :
    Does (.ptEdit c m n k x y 2) c s ((q.gen + 1) % 2 ^ 32) (fun u =>
      Edited q s u (seqKey n k) (q.len.map (min 0)) (fun _ f => f = none)) := by
  obtain ⟨pt, hs, hp⟩ := seq_truncateSeq (seqKey n k) 0 _ (newGen q) (seq_setSeq_self (began c s) ..)
  exact ptEdit_applies c m n k x y 2 q s _ pt _ h (editFits_release s m x y q) hi hs (fun b => hp b (Nat.zero_le _))

/-- Settles O33, from what each edit makes of its sequence and what it leaves of the others. -/
theorem sequences : Obligations.Sequences :=
  ⟨seqOpen_opens, seqClose_closes, ptShare_applies, ptTruncate_applies, ptRelease_applies,
    fun c m n k x y _ q s h => ptEdit_defers c m n k x y 0 q s h.1 (editFits_share h),
    fun c m n k x y q s h => ptEdit_defers c m n k x y 1 q s h.1 (editFits_truncate s x y h.2),
    fun c m n k x y q s h => ptEdit_defers c m n k x y 2 q s h (editFits_release s m x y q)⟩

end Sys2Proof.Machine

namespace Sys2Proof.Machine

/-! ## Ring groups (R194, R286, R288)

### What posting replies leaves of a ring group -/

/-- The command waits for the end of ring group `g`. -/
abbrev waitsClose (g : Nat) (f : Flight) : Bool := decide (f.await = .ringClose g)

/-- What the closing of ring group `g` rests on: the group, the descriptors of the cores, the commands that wait for its end. -/
def groupView (g : Nat) (s : State) : Option RGroup × Tab Core × List Flight :=
  (group s g, s.cores, s.sal.flights.filter (waitsClose g))

@[simp] theorem groupView_ite (g : Nat) (c : Prop) [Decidable c] (a b : State) :
    groupView g (if c then a else b) = if c then groupView g a else groupView g b := apply_ite (groupView g) c a b

@[simp] theorem groupView_flag (g : Nat) (s : State) (o b : Nat) : groupView g (flag s o b) = groupView g s := by rfl
@[simp] theorem groupView_setCq (g : Nat) (s : State) (n : Nat) (r : Option CompRing) : groupView g (setCq s n r) = groupView g s := by rfl
@[simp] theorem groupView_wrBytes (g : Nat) (s : State) (a : Nat) (bs : List Byte) : groupView g (wrBytes s a bs) = groupView g s := by rfl

@[simp] theorem groupView_raiseVec (g : Nat) (s : State) (v : Option Nat) : groupView g (raiseVec s v) = groupView g s := by
  cases v <;> rfl

@[simp] theorem groupView_addMark (g : Nat) (s : State) (m add : Nat) : groupView g (addMark s m add) = groupView g s := by
  unfold addMark
  split
  · rfl
  · change groupView g (if _ then flag s 0x50004 2 else s) = _
    simp

@[simp] theorem groupView_signalExt (g : Nat) (s : State) (m add : Nat) : groupView g (signalExt s m add) = groupView g s :=
  groupView_addMark ..

@[simp] theorem groupView_doReply (g : Nat) (s : State) (n : Nat) (r : CompRing) (p : Reply) :
    groupView g (doReply s n r p) = groupView g s := by simp [doReply]

@[simp] theorem groupView_postReply (g : Nat) (s : State) (n : Nat) (p : Reply) : groupView g (postReply s n p) = groupView g s := by
  unfold postReply
  split <;> simp

@[simp] theorem groupView_complete (g : Nat) (s : State) (f : Flight) (a b r : Nat) :
    groupView g (complete s f a b r) = groupView g s := by
  unfold complete
  split
  · rfl
  · split
    · rfl
    · exact groupView_postReply ..

/-- A command that deletes a ring is none that waits for the end of a group. -/
theorem groupView_dropDelete (g : Nat) (s : State) (f : Flight) (n k : Nat) (h : f.await = .sqDelete n k) :
    groupView g (setSq { s with sal := { s.sal with flights := s.sal.flights.filter (fun x => decide (x ≠ f)) } } n none) =
      groupView g s := by
  have hf (x : Flight) : (waitsClose g x && decide (x ≠ f)) = waitsClose g x := by
    by_cases hx : x = f
    · simp [hx, h]
    · simp [hx]
  refine congrArg (fun fs => (group s g, s.cores, fs)) ?_
  simp only [setSq, List.filter_filter, hf]

@[simp] theorem groupView_finishDeletes (g : Nat) (s : State) (fs : List Flight) :
    groupView g (finishDeletes s fs) = groupView g s := by
  induction fs generalizing s with
  | nil => rfl
  | cons f fs ih =>
    unfold finishDeletes
    split
    · split
      · exact ih s
      · rename_i h _
        rw [ih, groupView_complete, groupView_dropDelete g s f _ _ h]
    · exact ih s

/-- The commands that wait for the event are done; the others wait on. -/
theorem groupView_completeAwait (g : Nat) (s : State) (a : Await) (st d r : Nat) :
    groupView g (completeAwait s a st d r) =
      (group s g, s.cores, (s.sal.flights.filter (waitsClose g)).filter (fun f => !decide (f.await = a))) := by
  have hf : (s.sal.flights.filter (fun f => !decide (f.await = a))).filter (waitsClose g) =
      (s.sal.flights.filter (waitsClose g)).filter (fun f => !decide (f.await = a)) := by
    rw [List.filter_filter, List.filter_filter]
    exact List.filter_congr fun f _ => Bool.and_comm ..
  rw [completeAwait, completeWhere, groupView_finishDeletes,
    foldl_invariant (groupView g) _ (fun s f => groupView_complete g s f st d r)]
  exact congrArg (fun fs => (group s g, s.cores, fs)) hf

/-! ### The sweep of the groups being closed (R286) -/

theorem group_setGroup (s : State) (g k : Nat) (r : Option RGroup) : group (setGroup s g r) k = if g = k then r else group s k :=
  tget_tset ..

/-- Ring group `g` is being closed and no descriptor in flight uses it. -/
abbrev closable (g : Nat) (s : State) : Prop := s.sal.flights.any (waitsClose g) = true ∧ groupBusy s g = false

theorem sweepRing_eq (s : State) (g : Nat) :
    sweepRing s g = if closable g s then completeAwait (setGroup s g none) (.ringClose g) stOk 0 0 else s := by
  simp only [sweepRing, closable, Bool.and_eq_true, Bool.not_eq_true']
  rfl

/-- A sweep of group `k` ends group `k` if it is closable, and leaves every other group with its commands. -/
theorem groupView_sweepRing (g : Nat) (s : State) (k : Nat) :
    groupView g (sweepRing s k) = if k = g ∧ closable g s then (none, s.cores, []) else groupView g s := by
  rw [sweepRing_eq]
  by_cases hk : k = g
  · subst hk
    by_cases hc : closable k s
    · rw [if_pos hc, if_pos ⟨rfl, hc⟩, groupView_completeAwait, group_setGroup, if_pos rfl]
      simp [setGroup]
    · rw [if_neg hc, if_neg (hc ·.2)]
  · have hn : ¬ (k = g ∧ closable g s) := (hk ·.1)
    rw [if_neg hn]
    split
    · have hf (f : Flight) : (!waitsClose k f && waitsClose g f) = waitsClose g f := by
        by_cases hg : f.await = .ringClose g
        · simp [hg, Ne.symm hk]
        · simp [hg]
      rw [groupView_completeAwait, group_setGroup, if_neg hk, List.filter_filter]
      simp only [hf]
      rfl
    · rfl

theorem closable_iff (g : Nat) (s : State) : closable g s ↔ (groupView g s).2.2 ≠ [] ∧
    (groupView g s).2.1.any (fun e => e.2.q.any (fun d => decide (d.group = some g))) = false := by
  simp [closable, groupView, List.filter_eq_nil_iff]

theorem groupView_foldl_sweepRing (g : Nat) (l : List Nat) (s : State) :
    groupView g (l.foldl sweepRing s) = if g ∈ l ∧ closable g s then (none, s.cores, []) else groupView g s := by
  induction l generalizing s with
  | nil => simp
  | cons k l ih =>
    have hv := groupView_sweepRing g s k
    rw [List.foldl_cons, ih]
    by_cases h : k = g ∧ closable g s
    · rw [if_pos h] at hv
      have hn : ¬ closable g (sweepRing s k) := by simp [closable_iff, hv]
      rw [if_neg (hn ·.2), hv, if_pos ⟨by simp [h.1], h.2⟩]
    · rw [if_neg h] at hv
      have hc : closable g (sweepRing s k) ↔ closable g s := by rw [closable_iff, hv, ← closable_iff]
      have hcores : (sweepRing s k).cores = s.cores := congrArg (·.2.1) hv
      have hm : (g ∈ l ∧ closable g s) ↔ (g ∈ k :: l ∧ closable g s) := by
        constructor
        · exact fun ⟨hl, hs⟩ => ⟨List.mem_cons_of_mem k hl, hs⟩
        · exact fun ⟨hl, hs⟩ => ⟨(List.mem_cons.mp hl).resolve_left fun e => h ⟨e.symm, hs⟩, hs⟩
      simp only [hc, hcores, hv, hm]

/-- A number with an entry in a table is one of its keys. -/
theorem mem_keys_of_tget {α : Type} {t : Tab (Option α)} {k : Nat} (h : (tget none t k).isSome = true) : k ∈ t.map (·.1) := by
  induction t with
  | nil => cases h
  | cons e t ih =>
    obtain ⟨j, v⟩ := e
    rw [tget] at h
    split at h
    · rename_i hj
      simp [hj]
    · exact List.mem_cons_of_mem _ (ih h)

theorem groupView_sweepRings (g : Nat) (s : State) (h : (group s g).isSome = true) :
    groupView g (sweepRings s) = if closable g s then (none, s.cores, []) else groupView g s := by
  have hm : g ∈ s.ring.groups.map (·.1) := mem_keys_of_tget h
  rw [sweepRings, groupView_foldl_sweepRing]
  simp only [hm, true_and]

/-! ### Opening and closing (R194, R286, R288) -/

theorem group_began (c : Cmd) (s : State) (g : Nat) : group (began c s) g = group s g := by
  have h := congrArg (fun t => group t g) (began_rest c s)
  exact h

theorem groupBusy_began (c : Cmd) (s : State) (g : Nat) : groupBusy (began c s) g = groupBusy s g := by
  have h := congrArg (fun t => groupBusy t g) (began_rest c s)
  exact h

theorem freeGroup_began (c : Cmd) (s : State) : freeGroup (began c s) = freeGroup s := by
  simp only [freeGroup, group_began]

theorem groupOk_began (c : Cmd) (s : State) (bs : List Byte) : groupOk (began c s) bs = groupOk s bs := by
  have h := congrArg (fun t => groupOk t bs) (began_rest c s)
  exact h

theorem exec_ringGroupOpen (c : Cmd) (param g : Nat) (s : State) (h : Pre.ringOpen c param g s) : exec (.ringGroupOpen c param) s =
    done c s (setGroup (began c s) g (some (groupOfParam (rdBytes s param 120)))) g := by
  obtain ⟨hg, hp, hr, hh, hpo, hd, hok, hfree⟩ := h
  have hf : hostFail (flightOf c s).c [param] = false := hh
  show execRingGroupOpen c param s = _
  rw [execRingGroupOpen, accept_given s c _ _ _ hg (by simp only [badByte, hp, decide_true]; rfl)]
  simp only [ringOpen, rangeOk_began, hr, hf, readsPoison_began, hpo, rdBytes_began, hd, groupOk_began, hok, freeGroup_began, hfree,
    Bool.not_true, Bool.false_eq_true, if_false]

/-- The state in which RING_GROUP_CLOSE waits for the end of its group. -/
def closing (c : Cmd) (g : Nat) (s : State) : State := defer (began c s) (flightOf c s) (.ringClose g) []

theorem exec_ringGroupClose (c : Cmd) (g : Nat) (s : State) (h : Pre.ringClose c g s) :
    exec (.ringGroupClose c g) s = .next (sweepRings (closing c g s)) := by
  obtain ⟨hg, hlt, ho⟩ := h
  obtain ⟨r, hr⟩ := Option.isSome_iff_exists.mp ho
  show execRingGroupClose c g s = _
  rw [execRingGroupClose, accept_given s c _ _ _ hg (by simp [badByte, hlt])]
  simp only [group_began, hr]
  rfl

theorem group_closing (c : Cmd) (g : Nat) (s : State) : group (closing c g s) g = group s g := group_began c s g
theorem groupBusy_closing (c : Cmd) (g : Nat) (s : State) : groupBusy (closing c g s) g = groupBusy s g := groupBusy_began c s g

/-- The command is one of those that wait. -/
theorem flight_closing (c : Cmd) (g : Nat) (s : State) :
    { flightOf c s with await := .ringClose g, ctxs := [] } ∈ (closing c g s).sal.flights := by
  simp [closing, defer]

theorem closable_closing (c : Cmd) (g : Nat) (s : State) : closable g (closing c g s) ↔ groupBusy s g = false := by
  have hw : (closing c g s).sal.flights.any (waitsClose g) = true := List.any_eq_true.mpr ⟨_, flight_closing c g s, by simp⟩
  rw [closable, groupBusy_closing, hw, eq_self, true_and]

theorem groupView_swept (c : Cmd) (g : Nat) (s : State) (h : Pre.ringClose c g s) : groupView g (sweepRings (closing c g s)) =
    if groupBusy s g = false then (none, (closing c g s).cores, []) else groupView g (closing c g s) := by
  obtain ⟨-, -, ho⟩ := h
  rw [groupView_sweepRings g _ (group_closing c g s ▸ ho)]
  simp only [closable_closing]

theorem ringGroupClose_frees (c : Cmd) (g : Nat) (s : State) (h : Pre.ringClose c g s) (hb : groupBusy s g = false) :
    Gives (.ringGroupClose c g) s (fun t => group t g = none ∧ ∀ f ∈ t.sal.flights, f.await ≠ .ringClose g) := by
  have hv := groupView_swept c g s h
  rw [if_pos hb] at hv
  have hf : (sweepRings (closing c g s)).sal.flights.filter (waitsClose g) = [] := congrArg (·.2.2) hv
  exact ⟨_, exec_ringGroupClose c g s h, congrArg (·.1) hv, by simpa [List.filter_eq_nil_iff] using hf⟩

theorem ringGroupClose_waits (c : Cmd) (g : Nat) (s : State) (h : Pre.ringClose c g s) (hb : groupBusy s g = true) :
    Gives (.ringGroupClose c g) s (fun t => group t g = group s g ∧ ∃ f ∈ t.sal.flights, f.c = c ∧ f.await = .ringClose g) := by
  have hv := groupView_swept c g s h
  rw [if_neg (by simp [hb])] at hv
  have hgroup : group (sweepRings (closing c g s)) g = group (closing c g s) g := congrArg (·.1) hv
  have hf : (sweepRings (closing c g s)).sal.flights.filter (waitsClose g) = (closing c g s).sal.flights.filter (waitsClose g) :=
    congrArg (·.2.2) hv
  have hm := List.mem_filter.mpr ⟨flight_closing c g s, show waitsClose g _ = true by simp⟩
  rw [← hf] at hm
  exact ⟨_, exec_ringGroupClose c g s h, hgroup.trans (group_closing c g s), _, (List.mem_filter.mp hm).1, rfl, rfl⟩

/-- Settles O34: the sweep that RING_GROUP_CLOSE makes ends its own group where no descriptor uses it, and no other end it may bring
touches that group or its commands. -/
theorem ringGroups : Obligations.RingGroups := ⟨exec_ringGroupOpen, ringGroupClose_frees, ringGroupClose_waits⟩

end Sys2Proof.Machine
